-- ==== Sys2Proof/Word.lean ====
section
/-! DEFINITION. The plain value types of the GX-340 model and the helpers for its fixed-length tables.
Conventions of chapter 0, section 5: times in µs, stations 0..15, states 0..23, inputs BI1..BI8, outputs BO1..BO4,
channels CH1..CH6 (each numbered from 0 here, as R191 codes them). -/

namespace Sys2Proof

/-- One byte of a frame's payload (R189). -/
abbrev Byte := BitVec 8

/-- A reading of a microsecond count, or an interval in µs. -/
abbrev Instant := Nat

/-- A station number 0..15 (section 5.1). -/
abbrev StationNo := Fin 16

/-- A plan state 0..23 (section 5.1). -/
abbrev StateNo := Fin 24

/-- BI1..BI8, coded 0..7 (R191). -/
abbrev InputNo := Fin 8

/-- BO1..BO4, coded 0..3 (R191). -/
abbrev OutputNo := Fin 4

/-- CH1..CH6, coded 0..5 (R191). -/
abbrev ChannelNo := Fin 6

/-- A trigger slot 0..3 (R10). -/
abbrev SlotNo := Fin 4

/-- A report term 0..11 (R7). -/
abbrev TermNo := Fin 12

/-- One of the 96 store blocks (R150). -/
abbrev BlockNo := Fin 96

/-- OVL1, OVL2. -/
abbrev OverloadLine := Fin 2

/-- A run label byte; 1..254 name runs (R132, R159). -/
abbrev Label := Byte

/-- A mark code byte; 1..63 are codes (section 5.1). -/
abbrev MarkCode := Byte

/-- A table whose entry `i` is `f i`. -/
def tabulate {α : Type} {n : Nat} (f : Fin n → α) : Vector α n :=
  ⟨⟨List.ofFn f⟩, by simp⟩

/-- A table with entry `i` replaced. -/
def setAt {α : Type} {n : Nat} (v : Vector α n) (i : Fin n) (x : α) : Vector α n :=
  v.set i.val x i.isLt

/-- A table with entry `i` changed by `f`. -/
def modAt {α : Type} {n : Nat} (v : Vector α n) (i : Fin n) (f : α → α) : Vector α n :=
  setAt v i (f (v.get i))

/-- A count that rises by `k` and stays at its limit. -/
def satAdd (limit v k : Nat) : Nat := min limit (v + k)

/-- The smallest multiple of `p` that is not less than `x` (section 5.2). -/
def ceilTo (p x : Nat) : Nat := (x + (p - 1)) / p * p

end Sys2Proof
end

