-- ==== Sys2Proof/Config.lean ====
section
/-! DEFINITION. What the data manual fixes once for the part: intervals, capacities and codes. The manual leaves no
value open that an implementation would choose, so no constant here is opaque. -/

namespace Sys2Proof.Config

/-- Sample boundaries are multiples of 100 µs (section 5.2). -/
def samplePeriod : Nat := 100

/-- The first sample and the entry of the initial state (R43). -/
def firstEntry : Nat := 1000

/-- The clock limit of a run, in µs (R57). -/
def clockLimit : Nat := 3600000000

/-- Fallback deadline of a coordinated trigger, after its detection time (R51). -/
def fallbackDelay : Nat := 20000

/-- Warm-up of the amplifiers (R93). -/
def warmUp : Nat := 400000

/-- Idle period of a READY amplifier (R95). -/
def idlePeriod : Nat := 60000000

/-- Overload debounce (R96). -/
def overloadDebounce : Nat := 2000

/-- Poll interval of auto-start (R142). -/
def pollInterval : Nat := 20000

/-- Reply wait of a gather's remote read (R169). -/
def replyWait : Nat := 20000

/-- Repeat interval after a NOT-YET (R171). -/
def repeatInterval : Nat := 5000

/-- Limit of one run of NOT-YET answers (R171). -/
def notYetLimit : Nat := 2000000

/-- Gather-on-finish delay (R177). -/
def gatherOnFinishDelay : Nat := 50000

/-- A commit check ends no later than this after it began (R15). -/
def commitBound : Nat := 2000

/-- Service of a request ends no later than this after it was taken (R181). -/
def serviceBound : Nat := 50

/-- Entries of the transmit queue (R124). -/
def txCapacity : Nat := 8

/-- Entries of the request queue (R127). -/
def requestCapacity : Nat := 4

/-- Bit-times from the end of a request's check field to its frame instant: the ack and the busy slot (R115, R122). -/
def requestSlots : Nat := 2

/-- Bit-times from the end of a ROLLCALL's check field to its frame instant: the roll-call field and the two slots (R115,
R122). -/
def rollcallSlots : Nat := 18

/-- Labels the result store can hold (R151). -/
def labelCapacity : Nat := 8

/-- Records of one store block (R150). -/
def blockRecords : Nat := 8

/-- Entries of the consolidated report (R164). -/
def reportCapacity : Nat := 512

/-- Watched samples after which a current channel is forced (R35). -/
def watchLimit : Nat := 100

/-- Largest magnitude of a code (R29). -/
def codeLimit : Int := 32767

/-- Saturation of the 16-bit counts (R3, R30, R156, R164, R185). -/
def countLimit : Nat := 65535

/-- Saturation of a reported time, 24 bits (R109). -/
def reportedTimeLimit : Nat := 16777215

/-- The report value of a term that cannot be computed (R176). -/
def indefinite : Int := -2147483648

end Sys2Proof.Config
end

