-- ==== Sys2Proof/Syntax.lean ====
section
/-! DEFINITION. The commands of the GX-340: one constructor of `Instr` for each row of spec/opcode_table.json. A command
is one of the part's indivisible steps (spec/95): a frame taken at its frame instant, a change of a pin, a request judged,
or an instant of one of the part's counts. The table gives the rows no fields; the operands are what the rules say the
step reads from outside the part: the frame as received, the slots as read, the pins as sampled, and which slot, input,
output or line the step is about. -/

namespace Sys2Proof

/-- A frame as a station reads it from the cable (R115, R189): the header fields, the payload, the check, and of a
ROLLCALL the roll-call field behind it. -/
structure RxFrame where
  priority : BitVec 3
  origin : StationNo
  /-- 0 STATION, 1 GROUP, 2 ALL, 3 matches no station (R189). -/
  destForm : BitVec 2
  destNumber : BitVec 4
  kind : BitVec 6
  tag : Byte
  length : BitVec 6
  payload : List Byte
  check : BitVec 16
  /-- The stations other than the own whose bit-times of the roll-call field read dominant (R121). -/
  roll : BitVec 16 := 0
  deriving DecidableEq, Repr

/-- The levels of the input pins at the end of a power-on or pin reset (chapter 0, section 3; R77, R97, R98, R131).
`true` is HIGH, fitted or asserted. -/
structure PinSample where
  station : StationNo
  group : Fin 8
  cableDelay : Fin 16
  amplifierPresent : Bool
  inputs : Vector Bool 8
  overload : Vector Bool 2
  supplyFail : Bool
  deriving DecidableEq, Repr

/-- The commands. `rivals` are the arbitration fields of the other stations that begin in the same bit-time (R117). -/
inductive Instr where
  | powerOnReset (pins : PinSample)
  | supplyFailAsserted
  | supplyFailDeasserted
  | cableIdle (rivals : List (BitVec 7))
  | frameCorrupt
  | frameOutcome (ack : Bool) (busy : Bool) (answers : BitVec 16)
  | linkOnline (rivals : List (BitVec 7))
  | overlengthFrameResync (rivals : List (BitVec 7))
  | duplicateOriginFrame (f : RxFrame)
  | requestArrival (f : RxFrame)
  | replyReceived (f : RxFrame)
  | arm (f : RxFrame)
  | disarm (f : RxFrame)
  | start (f : RxFrame)
  | stop (f : RxFrame)
  | step (f : RxFrame)
  | abort (f : RxFrame)
  | mark (f : RxFrame)
  | rollcall (f : RxFrame)
  | planWrite
  | planRead
  | planCommit
  | planClear
  | recordRead
  | release
  | gather
  | reportRead
  | statusRead
  | resetStation
  | unknownKindRequest
  | commitCheckEnd
  | initialStateEntry
  | timerExpiry (slot : SlotNo)
  | backstopExpiry
  | exitBoundary
  | fallbackDeadline
  | clockLimit
  | boDelayExpiry (out : OutputNo)
  | sampleBoundary
  | rawTransition (bi : InputNo)
  | debounceDeadline (bi : InputNo)
  | lockoutRelease (bi : InputNo)
  | openTimerExpiry
  | closeTimerExpiry
  | warmUpExpiry
  | idleTimerExpiry
  | overloadLineAsserted (line : OverloadLine)
  | overloadLineDeasserted (line : OverloadLine)
  | overloadReport (line : OverloadLine)
  | settleHorizon
  | pollInstant
  | gatherReplyDeadline
  | gatherRepeatInstant
  | gatherOnFinish
  | requestServiceEnd
  deriving DecidableEq, Repr

end Sys2Proof
end

