-- ==== Sys2Proof/WellFormed.lean ====
section
/-! DEFINITION. Which commands can stand on the part's pins and cable at all: a frame command must carry a frame whose
payload is as long as its length field says and whose kind code is the command's own (R115, R116, R189). A frame whose
length field exceeds 40 is not received past that field (R119), so it carries no payload here. -/

namespace Sys2Proof

/-- The payload received: as many bytes as the length field says, none when that exceeds 40 (R115, R119). -/
def RxFrame.shapeOk (f : RxFrame) : Bool :=
  if 40 < f.length.toNat then f.payload.length == 0 else f.payload.length == f.length.toNat

/-- The frame carries kind code `k`, or is cut off at its length field. -/
def RxFrame.isKind (k : Nat) (f : RxFrame) : Bool :=
  f.shapeOk && (f.kind.toNat == k || decide (40 < f.length.toNat))

/-- A reply kind code, 16..25 (R189). -/
def isReplyKind (k : Nat) : Bool := decide (16 ≤ k ∧ k ≤ 25)

/-- A group frame's kind code, 1..8 (R189). -/
def isGroupKind (k : Nat) : Bool := decide (1 ≤ k ∧ k ≤ 8)

/-- A request kind code, 32..41 (R189). -/
def isRequestKind (k : Nat) : Bool := decide (32 ≤ k ∧ k ≤ 41)

/-- Well-formed commands. -/
def WellFormed : Instr → Bool
  | .arm f => f.isKind 6
  | .disarm f => f.isKind 7
  | .start f => f.isKind 3
  | .stop f => f.isKind 4
  | .step f => f.isKind 5
  | .abort f => f.isKind 1
  | .mark f => f.isKind 2
  | .rollcall f => f.isKind 8
  | .replyReceived f => f.shapeOk && (isReplyKind f.kind.toNat || decide (40 < f.length.toNat))
  | .requestArrival f =>
    f.shapeOk && (!(isGroupKind f.kind.toNat || isReplyKind f.kind.toNat) || decide (40 < f.length.toNat))
  | .duplicateOriginFrame f => f.shapeOk
  | .powerOnReset _ | .supplyFailAsserted | .supplyFailDeasserted | .cableIdle _ | .frameCorrupt
  | .frameOutcome _ _ _ | .linkOnline _ | .overlengthFrameResync _ | .planWrite | .planRead | .planCommit | .planClear
  | .recordRead | .release | .gather | .reportRead | .statusRead | .resetStation | .unknownKindRequest
  | .commitCheckEnd | .initialStateEntry | .timerExpiry _ | .backstopExpiry | .exitBoundary | .fallbackDeadline
  | .clockLimit | .boDelayExpiry _ | .sampleBoundary | .rawTransition _ | .debounceDeadline _ | .lockoutRelease _
  | .openTimerExpiry | .closeTimerExpiry | .warmUpExpiry | .idleTimerExpiry | .overloadLineAsserted _
  | .overloadLineDeasserted _ | .overloadReport _ | .settleHorizon | .pollInstant | .gatherReplyDeadline
  | .gatherRepeatInstant | .gatherOnFinish | .requestServiceEnd => true

end Sys2Proof
end

