-- ==== Sys2Proof/Decode.lean ====
section
/-! DEFINITION. The host's word decoder. spec/opcode_table.json gives no row any bits (every row's fields are empty), so
no word spells a command and every word is refused. The frames the part decodes from the cable are bit sequences of the
link and not words of the table; they are read in Machine/Operands.lean. -/

namespace Sys2Proof

/-- The command a word of the table's bits spells: none, since the table gives the rows no bits. -/
def decodeTableWord (_nbits _w : Nat) : Option Instr := none

end Sys2Proof
end

