-- ==== Sys2Proof/Machine/Bytes.lean ====
section
/-! DEFINITION. Byte order, bit order and the check of frames (R115, R189). A multi-byte number is sent most significant
byte first, and within a byte bit 7 first. -/

namespace Sys2Proof.Machine

/-- The low byte of a number. -/
def byte (n : Nat) : Byte := BitVec.ofNat 8 n

/-- Two bytes, most significant first. -/
def bytes2 (n : Nat) : List Byte := [byte (n / 256), byte n]

/-- Four bytes, most significant first. -/
def bytes4 (n : Nat) : List Byte := [byte (n / 16777216), byte (n / 65536), byte (n / 256), byte n]

/-- Three bytes, most significant first. -/
def bytes3 (n : Nat) : List Byte := [byte (n / 65536), byte (n / 256), byte n]

/-- A signed number as two bytes, two's complement. -/
def sbytes2 (i : Int) : List Byte := bytes2 (BitVec.ofInt 16 i).toNat

/-- A signed number as four bytes, two's complement. -/
def sbytes4 (i : Int) : List Byte := bytes4 (BitVec.ofInt 32 i).toNat

/-- The byte at position `i` of a payload, 0 past its end. -/
def byteAt (p : List Byte) (i : Nat) : Nat := (p.getD i 0).toNat

/-- The two-byte number at position `i`. -/
def num2 (p : List Byte) (i : Nat) : Nat := byteAt p i * 256 + byteAt p (i + 1)

/-- The four-byte number at position `i`. -/
def num4 (p : List Byte) (i : Nat) : Nat := num2 p i * 65536 + num2 p (i + 2)

/-- The signed two-byte number at position `i`. -/
def snum2 (p : List Byte) (i : Nat) : Int := (BitVec.ofNat 16 (num2 p i)).toInt

/-- The signed four-byte number at position `i`. -/
def snum4 (p : List Byte) (i : Nat) : Int := (BitVec.ofNat 32 (num4 p i)).toInt

/-- The lowest `k` bits of a number, most significant first. -/
def bitsOf : Nat → Nat → List Bool
  | 0, _ => []
  | k + 1, n => n.testBit k :: bitsOf k n

/-- The number spelt by bits, most significant first. -/
def numOfBits (bs : List Bool) : Nat := bs.foldl (fun a b => 2 * a + b.toNat) 0

/-- Bits packed into whole bytes, most significant first. -/
def packBits : Nat → List Bool → List Byte
  | 0, _ => []
  | k + 1, bs => byte (numOfBits (bs.take 8)) :: packBits k (bs.drop 8)

/-- A table of flags as a number: entry `i` is bit `i` (R191, R193). -/
def flagBits {n : Nat} (v : Vector Bool n) : Nat := numOfBits v.toList.reverse

/-- The flags of a number: entry `i` is bit `i`. -/
def bitFlags (n v : Nat) : Vector Bool n := tabulate fun i => v.testBit i.val

/-- One bit through the check register: x¹⁶ + x¹² + x⁵ + 1 (R115). -/
def crcStep (reg : BitVec 16) (bit : Bool) : BitVec 16 :=
  if reg.msb != bit then (reg <<< 1) ^^^ 0x1021#16 else reg <<< 1

/-- The check over a bit sequence: the register starts at all ones, with no further inversion (R115). -/
def crc16 (bits : List Bool) : BitVec 16 := bits.foldl crcStep 0xFFFF#16

end Sys2Proof.Machine
end

