-- ==== Sys2Proof/Machine/Numeric.lean ====
section
/-! DEFINITION. The four named rounding rules (section 5.3), the sine function S (R24) and the boundary helpers
(section 5.2, R50). -/

namespace Sys2Proof.Machine

/-- half-up: the nearest integer to `n / d`, ties toward +∞. -/
def halfUp (n : Int) (d : Nat) : Int := (2 * n + d).fdiv (2 * d)

/-- half-away: the nearest integer to `n / d`, ties away from zero. -/
def halfAway (n : Int) (d : Nat) : Int :=
  if 0 ≤ n then halfUp n d else -halfUp (-n) d

/-- toward-zero: `n / d` truncated. -/
def towardZero (n : Int) (d : Nat) : Int := n.tdiv d

/-- nearest-even: the nearest integer to `n / d`, ties to the even value. -/
def nearestEven (n : Int) (d : Nat) : Int :=
  let q := n.fdiv d
  let r := n.fmod d
  if 2 * r < d then q else if (d : Int) < 2 * r then q + 1 else if q % 2 = 0 then q else q + 1

/-- A value clamped to `−m..m`. -/
def clampTo (m v : Int) : Int := if m < v then m else if v < -m then -m else v

/-- π · 2⁶⁴ rounded to the nearest integer. -/
def piScaled : Nat := 57952155664616982739

/-- The degree-17 Taylor polynomial of `sin x / x` at `x² = a2 / b2`, as a fraction: `sinHorner` folds the divisors
`2k(2k+1)` from the innermost outwards. -/
def sinHorner (a2 b2 : Nat) : Nat × Nat :=
  [272, 210, 156, 110, 72, 42, 20, 6].foldl
    (fun nd c => (nd.2 * c * b2 - a2 * nd.1, nd.2 * c * b2)) (1, 1)

/-- `131071 · sin(π/2 · r / 16384)` rounded half-away, for `r` in 0..16384 (R24). The polynomial differs from the exact
value by less than 10⁻⁸, and no index comes closer than 7 · 10⁻⁶ to a tie (checked over all indices; log entry 3). -/
def sinQuarter (r : Nat) : Nat :=
  let a := piScaled * r
  let b := 2 ^ 79
  let nd := sinHorner (a * a) (b * b)
  (2 * 131071 * a * nd.1 + b * nd.2) / (2 * b * nd.2)

/-- The index of a phase: its upper 16 bits (R24). -/
def phaseIndex (θ : BitVec 32) : Nat := θ.toNat / 65536

/-- `S` at an index 0..65535, by quadrant (R24). -/
def sineAt (idx : Nat) : Int :=
  let r := idx % 16384
  match idx / 16384 with
  | 0 => (sinQuarter r : Int)
  | 1 => (sinQuarter (16384 - r) : Int)
  | 2 => -(sinQuarter r : Int)
  | _ => -(sinQuarter (16384 - r) : Int)

/-- S(θ) (R24). -/
def sineS (θ : BitVec 32) : Int := sineAt (phaseIndex θ)

/-- The frequency word of a frequency in mHz (R20). -/
def frequencyWord (f : Nat) : Nat := (halfUp (f * 2 ^ 32 : Nat) (10 ^ 7)).toNat

/-- The phase offset of an angle in 0.01° (R21). -/
def phaseOffset (angle : Nat) : BitVec 32 := BitVec.ofInt 32 (halfUp (angle * 2 ^ 32 : Nat) 36000)

/-- The amplitude code of a magnitude on a channel (R22). CH1..CH3 are voltage channels. -/
def amplitudeCode (c : ChannelNo) (m : Nat) : Nat :=
  (halfUp (m * (if c.val < 3 then 6749 else 60738) : Nat) 65536).toNat

/-- The harmonic amplitude (R22). -/
def harmonicAmplitude (a h : Nat) : Nat := (halfUp (a * h : Nat) 1000).toNat

/-- The boundary at or after `x` (section 5.2). -/
def boundaryAt (x : Instant) : Instant := ceilTo Config.samplePeriod x

/-- The exit boundary of a deciding instant `x` in a visit entered at `entry`: the first boundary at or after `x` that
is later than `entry` (R50, R58). -/
def exitBoundaryOf (entry x : Instant) : Instant :=
  if entry < boundaryAt x then boundaryAt x else boundaryAt (entry + 1)

/-- The sign of a code: −1, 0 or 1 (R35). -/
def codeSign (y : Int) : Int := if y < 0 then -1 else if y = 0 then 0 else 1

end Sys2Proof.Machine
end

