-- ==== Sys2Proof/Machine/Items.lean ====
section
/-! DEFINITION. The plan items and their defaults (R1, R4 to R12), the plan states and the errors of a commit check. -/

namespace Sys2Proof.Machine

/-- Rounding mode of report-term values (R4). -/
inductive RoundingMode where
  | nearestEven | towardZero
  deriving DecidableEq, Repr

/-- HEADER (R4). `gatherStation = none` is NONE. A set of stations is one flag per station. -/
structure Header where
  visitLimit : Nat
  initialState : StateNo
  startSet : Vector Bool 16
  rounding : RoundingMode
  gatherStation : Option StationNo
  gatherSet : Vector Bool 16
  boRest : Vector Bool 4
  deriving DecidableEq, Repr

/-- INPUT-SETUP (R5): debounce in 100 µs, chatter window and quiet gap in ms. -/
structure InputSetup where
  activeHigh : Bool
  debounce : Nat
  chatterLimit : Nat
  chatterWindow : Nat
  quietGap : Nat
  deriving DecidableEq, Repr

/-- BREAKER-SETUP (R6): times in ms; `none` is NONE. -/
structure BreakerSetup where
  enabled : Bool
  tripInput : InputNo
  closeInput : Option InputNo
  openTime : Nat
  closeTime : Nat
  out52a : Option OutputNo
  out52b : Option OutputNo
  deriving DecidableEq, Repr

/-- The event of a selector with its parameter (R7). -/
inductive SelectorEvent where
  | stateEntry (st : StateNo)
  | inputOperate (bi : InputNo)
  | inputReset (bi : InputNo)
  | markSent (code : MarkCode)
  | breakerOpen
  deriving DecidableEq, Repr

/-- A selector of a report term (R7). -/
structure Selector where
  station : StationNo
  event : SelectorEvent
  occurrence : Nat
  deriving DecidableEq, Repr

/-- REPORT-TERM (R7), band in report units. -/
structure ReportTerm where
  enabled : Bool
  selA : Selector
  selB : Selector
  bandMin : Int
  bandMax : Int
  deriving DecidableEq, Repr

/-- Where a trigger or a backstop leads: a state or END (R8, R10). -/
inductive Target where
  | state (st : StateNo)
  | endRun
  deriving DecidableEq, Repr

/-- STATE-CONTROL (R8): frequency in mHz, times in ms. -/
structure StateControl where
  frequency : Nat
  backstop : Nat
  backstopTarget : Target
  boLevels : Vector Bool 4
  boDelays : Vector Nat 4
  entryMark : Option MarkCode
  deriving DecidableEq, Repr

/-- DC mode of a channel (R9). -/
inductive DcMode where
  | off | fixed | continuous
  deriving DecidableEq, Repr

/-- STATE-CHANNEL (R9). -/
structure ChannelItem where
  magnitude : Nat
  angle : Nat
  harmonicOrder : Nat
  harmonicMagnitude : Nat
  harmonicAngle : Nat
  dcMode : DcMode
  dcInitial : Int
  kd : Nat
  deriving DecidableEq, Repr

/-- The edge of an INPUT trigger and the direction of an accepted change (R10, R70). -/
inductive Direction where
  | operate | reset
  deriving DecidableEq, Repr

/-- STATE-TRIGGER (R10): durations in ms; `origin = none` is ANY, `coord = none` is NONE. -/
inductive Trigger where
  | empty
  | timer (duration : Nat) (target : Target) (coord : Option MarkCode)
  | input (bi : InputNo) (edge : Direction) (target : Target) (coord : Option MarkCode)
  | mark (code : MarkCode) (origin : Option StationNo) (target : Target)
  | step (target : Target)
  deriving DecidableEq, Repr

/-- STATE-WINDOW (R11): limits in 100 µs. -/
inductive Window where
  | dontCare
  | operate (min : Nat) (max : Nat)
  | noOperate
  deriving DecidableEq, Repr

/-- The nine kinds of item that one state owns (R8 to R12), with whether the state is in the defined-state set (R1). -/
structure StateItems where
  defined : Bool
  control : StateControl
  channels : Vector ChannelItem 6
  triggers : Vector Trigger 4
  windows : Vector Window 8
  marks : Vector (Option MarkCode) 8
  deriving DecidableEq, Repr

/-- Every item of Plan Memory (R1). -/
structure PlanItems where
  header : Header
  inputs : Vector InputSetup 8
  breaker : BreakerSetup
  terms : Vector ReportTerm 12
  states : Vector StateItems 24
  deriving DecidableEq, Repr

/-- The plan states (section 1.5). -/
inductive PlanState where
  | empty | editing | checking | valid | invalid
  deriving DecidableEq, Repr

/-- Where a dangling target stands (R16). -/
inductive TargetPlace where
  | slot (n : SlotNo)
  | backstop
  deriving DecidableEq, Repr

/-- The first error of a commit check, with its location (R16). -/
inductive FirstError where
  | none
  | noInitial (st : StateNo)
  | danglingTarget (st : StateNo) (place : TargetPlace)
  | breakerConflict
  | termState (term : TermNo) (sideB : Bool)
  | gatherSet
  deriving DecidableEq, Repr

/-- Plan Memory (R1): the items, the plan state, the clamp count, the first error, the committer (station and tag), and
the elapsed count at which a check in progress began, which bounds its end (R15). -/
structure PlanMemory where
  items : PlanItems
  state : PlanState
  clampCount : Nat
  firstError : FirstError
  committer : Option (StationNo × Byte)
  checkBegan : Option Nat
  deriving DecidableEq, Repr

/-! ### Defaults -/

def Header.initial : Header where
  visitLimit := 64
  initialState := 0
  startSet := Vector.replicate 16 false
  rounding := .nearestEven
  gatherStation := none
  gatherSet := Vector.replicate 16 false
  boRest := Vector.replicate 4 false

def InputSetup.initial : InputSetup where
  activeHigh := true
  debounce := 10
  chatterLimit := 0
  chatterWindow := 100
  quietGap := 200

def BreakerSetup.initial : BreakerSetup where
  enabled := false
  tripInput := 0
  closeInput := none
  openTime := 60
  closeTime := 80
  out52a := none
  out52b := none

def Selector.initial : Selector where
  station := 0
  event := .stateEntry 0
  occurrence := 1

def ReportTerm.initial : ReportTerm where
  enabled := false
  selA := .initial
  selB := .initial
  bandMin := 0
  bandMax := 0

def StateControl.initial : StateControl where
  frequency := 50000
  backstop := 1000
  backstopTarget := .endRun
  boLevels := Vector.replicate 4 false
  boDelays := Vector.replicate 4 0
  entryMark := none

def ChannelItem.initial : ChannelItem where
  magnitude := 0
  angle := 0
  harmonicOrder := 0
  harmonicMagnitude := 0
  harmonicAngle := 0
  dcMode := .off
  dcInitial := 0
  kd := 0

def StateItems.initial : StateItems where
  defined := false
  control := .initial
  channels := Vector.replicate 6 .initial
  triggers := Vector.replicate 4 .empty
  windows := Vector.replicate 8 .dontCare
  marks := Vector.replicate 8 none

def PlanItems.initial : PlanItems where
  header := .initial
  inputs := Vector.replicate 8 .initial
  breaker := .initial
  terms := Vector.replicate 12 .initial
  states := Vector.replicate 24 .initial

/-- An EMPTY plan (R18). -/
def PlanMemory.emptied : PlanMemory where
  items := .initial
  state := .empty
  clampCount := 0
  firstError := .none
  committer := none
  checkBegan := none

end Sys2Proof.Machine
end

