-- ==== Sys2Proof/Machine/Records.lean ====
section
/-! DEFINITION. The records of the result store (R154), the end reasons (R41), exit causes (R42), verdicts (R108) and
frame outcomes (R123). -/

namespace Sys2Proof.Machine

/-- Run states (R41). -/
inductive RunState where
  | idle | armed | running | ending | finished | aborted
  deriving DecidableEq, Repr

/-- End reasons (R41, R190). -/
inductive EndReason where
  | none | endTarget | stop | visitLimit | clockLimit | overload | supply | notReady | muted | peerAbort | stationReset
  deriving DecidableEq, Repr

/-- Exit causes of a visit (R42). -/
inductive ExitCause where
  | timer (slot : SlotNo)
  | input (slot : SlotNo)
  | mark (slot : SlotNo)
  | step (slot : SlotNo)
  | backstop | stop | clockLimit | abort
  deriving DecidableEq, Repr

/-- Outcomes of a sent frame (R123). -/
inductive FrameOutcome where
  | delivered | busy | unheard | corrupt | dropped
  deriving DecidableEq, Repr

/-- Breaker states (section 5.1). -/
inductive BreakerState where
  | closed | opening | opened | closing
  deriving DecidableEq, Repr

/-- Verdicts (R108). -/
inductive Verdict where
  | pass | failEarly | failLate | failNone | failOperated | chatter
  deriving DecidableEq, Repr

/-- One entry of a verdict list (R109, R110). -/
structure VerdictEntry where
  bi : InputNo
  verdict : Verdict
  reported : Nat
  noneFlag : Bool
  overRange : Bool
  deriving DecidableEq, Repr

/-- The contents of a record, by kind (R154). Times are test-clock readings. -/
inductive Contents where
  | inputChange (bi : InputNo) (high : Bool) (dir : Direction) (edge : Instant) (afterLockout : Bool)
  | inputLockout (bi : InputNo) (held : Bool)
  | inputRelease (bi : InputNo) (raw : Bool)
  | markSent (code : MarkCode) (detection : Instant) (outcome : FrameOutcome) (instant : Option Instant)
  | markHeard (origin : StationNo) (code : Byte) (detection : Instant)
  | breaker (newState : BreakerState) (cause : InputNo)
  | evaluation (state : StateNo) (visit : Nat) (entry : Instant) (exit : Instant) (cause : ExitCause)
      (uncoordinated : Bool) (clipped : Vector Bool 6) (clipTotal : Nat) (verdicts : List VerdictEntry)
  | runSummary (reason : EndReason) (visits : Nat) (dropped : Nat) (lastState : Option StateNo) (compensation : Nat)
  deriving DecidableEq, Repr

/-- A stored record: its index within its label, its record time and its contents (R152). The label is its block's
owner. -/
structure Record where
  index : Nat
  time : Instant
  contents : Contents
  deriving DecidableEq, Repr

/-- End state of a held label (R151). -/
inductive EndState where
  | opened | finished | aborted
  deriving DecidableEq, Repr

end Sys2Proof.Machine
end

