-- ==== Sys2Proof/Machine/Blocks.lean ====
section
/-! DEFINITION. The state each block owns (the chapters' state tables) and its values after a power-on or pin reset. -/

namespace Sys2Proof.Machine

/-! ### Waveform Synthesizer (section 2.1) -/

/-- One channel's context, codes and clip figures. -/
structure ChannelState where
  /-- amplitude code A -/
  amp : Nat
  /-- phase offset Φ -/
  phi : BitVec 32
  /-- harmonic order h -/
  harm : Nat
  /-- harmonic amplitude A_h -/
  ampH : Nat
  /-- harmonic phase offset Φ_h -/
  phiH : BitVec 32
  dcMode : DcMode
  kd : Nat
  /-- DC residue d, in 1/256 of a code -/
  residue : Int
  lastComputed : Int
  lastEmitted : Int
  clipCount : Nat
  /-- member of the visit's clipped set -/
  clipped : Bool
  deriving DecidableEq, Repr

def ChannelState.initial : ChannelState where
  amp := 0
  phi := 0
  harm := 0
  ampH := 0
  phiH := 0
  dcMode := .off
  kd := 0
  residue := 0
  lastComputed := 0
  lastEmitted := 0
  clipCount := 0
  clipped := false

/-- The synthesizer (section 2.1): reference phase, frequency word, sample index, and the six channels. -/
structure Synth where
  thetaRef : BitVec 32
  freqWord : Nat
  sampleIndex : Nat
  channels : Vector ChannelState 6
  deriving DecidableEq, Repr

def Synth.initial : Synth where
  thetaRef := 0
  freqWord := 0
  sampleIndex := 0
  channels := Vector.replicate 6 .initial

/-! ### Sequence Engine (section 3.1) -/

/-- The current visit (R42). Exit time and cause are absent while it is current; they join at its close. -/
structure Visit where
  state : StateNo
  number : Nat
  entry : Instant
  uncoordinated : Bool
  deriving DecidableEq, Repr

/-- What decided an exit, in rank order: slots 0..3, then BACKSTOP; STOP stands apart (R50, R58). -/
inductive Decider where
  | slot (n : SlotNo)
  | backstop
  | stop
  deriving DecidableEq, Repr

/-- The decided exit (R50, R58). `target` is `none` for STOP. -/
structure DecidedExit where
  instant : Instant
  decider : Decider
  target : Option Target
  boundary : Instant
  deriving DecidableEq, Repr

/-- The pending coordinated mark (R51). `age` is the age of its entry in the transmit queue. -/
structure PendingMark where
  slot : SlotNo
  code : MarkCode
  detection : Instant
  onWire : Bool
  age : Nat
  deriving DecidableEq, Repr

/-- The pending fallback (R53). -/
structure PendingFallback where
  slot : SlotNo
  instant : Instant
  deriving DecidableEq, Repr

/-- An operate accepted exactly at a boundary after the entry, held until it is known whether the visit exits there
(R55, R105). `edge` is present when the edge too lies at the boundary and is still to be attributed. -/
structure HeldOperate where
  bi : InputNo
  edge : Option Instant
  deriving DecidableEq, Repr

/-- The engine (section 3.1), with the armed expiries of the current visit (R44), the scheduled output levels (R62) and
the state of the run's latest visit, which becomes the last state at the run's end (R59). `boHeld` is, for an output
that has taken its delayed level in this visit, the time of that and the level it held before: a visit that turns out to
close at that very boundary takes the level back (R62). -/
structure Engine where
  runState : RunState
  runLabel : Option Label
  visit : Option Visit
  visitCount : Nat
  decided : Option DecidedExit
  pendingMark : Option PendingMark
  pendingFallback : Option PendingFallback
  firstOperates : Vector Bool 8
  timers : Vector (Option Instant) 4
  backstop : Option Instant
  held : List HeldOperate
  latestVisit : Option StateNo
  endReason : EndReason
  lastState : Option StateNo
  boLevels : Vector Bool 4
  boSchedule : Vector (Option (Instant × Bool)) 4
  boHeld : Vector (Option (Instant × Bool)) 4
  deriving DecidableEq, Repr

def Engine.initial : Engine where
  runState := .idle
  runLabel := none
  visit := none
  visitCount := 0
  decided := none
  pendingMark := none
  pendingFallback := none
  firstOperates := Vector.replicate 8 false
  timers := Vector.replicate 4 none
  backstop := none
  held := []
  latestVisit := none
  endReason := .none
  lastState := none
  boLevels := Vector.replicate 4 false
  boSchedule := Vector.replicate 4 none
  boHeld := Vector.replicate 4 none

/-! ### Input Conditioner (section 4.2) -/

/-- What a LOCKED-OUT input holds (section 4.2), in conditioning-count times. `began` is the instant of its
INPUT-LOCKOUT, from which its lockout period runs (R107). -/
structure Lockout where
  held : Bool
  lastRaw : Instant
  release : Instant
  began : Instant
  deriving DecidableEq, Repr

/-- One input: its raw line, accepted level (`true` is HIGH), candidate's first-transition time, change history and
lockout (`none` is NORMAL). -/
structure InputState where
  raw : Bool
  accepted : Bool
  candidate : Option Instant
  history : List Instant
  lockout : Option Lockout
  deriving DecidableEq, Repr

/-- The conditioner: its count (R65) and the eight inputs. -/
structure Conditioner where
  count : Nat
  inputs : Vector InputState 8
  deriving DecidableEq, Repr

/-- R77: the accepted level is the raw level observed at the end of reset. -/
def InputState.atReset (level : Bool) : InputState where
  raw := level
  accepted := level
  candidate := none
  history := []
  lockout := none

/-! ### Breaker Simulator (section 5.1) -/

/-- The breaker timer: none, or OPEN or CLOSE with its expiry. -/
inductive BreakerTimer where
  | off
  | opening (expiry : Instant)
  | closing (expiry : Instant)
  deriving DecidableEq, Repr

/-- Forcing status of a current channel (section 2.7). -/
inductive Forcing where
  | unforced
  | watching (count : Nat)
  | forced
  deriving DecidableEq, Repr

/-- The breaker: `forcing` entries 0..2 are CH4..CH6. -/
structure Breaker where
  state : BreakerState
  timer : BreakerTimer
  forcing : Vector Forcing 3
  deriving DecidableEq, Repr

/-- R80, R90. -/
def Breaker.initial : Breaker where
  state := .closed
  timer := .off
  forcing := Vector.replicate 3 .unforced

/-! ### Amplifier Supervisor (section 5.3) -/

/-- Amplifier states (section 5.3). -/
inductive AmpState where
  | absent | standby | warming | ready | faulted
  deriving DecidableEq, Repr

/-- An overload debouncer (R96); a start is a reading of the supervisor's count. -/
inductive Debouncer where
  | clear
  | timing (start : Nat)
  | held
  deriving DecidableEq, Repr

/-- The supervisor: its count (R91), state, timers as expiries on that count, and the two debouncers. -/
structure Amplifier where
  count : Nat
  state : AmpState
  warmUp : Option Nat
  idle : Option Nat
  debouncers : Vector Debouncer 2
  deriving DecidableEq, Repr

/-- The enable line AEN is asserted exactly while the state is WARMING or READY (R91). -/
def Amplifier.aen (a : Amplifier) : Bool := a.state == .warming || a.state == .ready

/-- READY or ABSENT counts as ready (section 5.3). -/
def Amplifier.countsReady (a : Amplifier) : Bool := a.state == .ready || a.state == .absent

/-- R97: values after a power-on or pin reset. -/
def Amplifier.atReset (p : PinSample) : Amplifier where
  count := 0
  state := if p.amplifierPresent then .standby else .absent
  warmUp := none
  idle := none
  debouncers := tabulate fun i => if p.amplifierPresent && p.overload.get i then .timing 0 else .clear

/-! ### Timing Evaluator (R100) -/

/-- The working entry of the current visit (R100); its state, visit number and entry time are the engine's. A lockout
flag carries the test-clock time at which the lockout period began, which R107 compares with the exit. -/
structure Working where
  firstOperate : Vector (Option Instant) 8
  lockoutSeen : Vector (Option Instant) 8
  deriving DecidableEq, Repr

/-- A judged input of a pending entry (R100). -/
structure Judged where
  bi : InputNo
  window : Window
  firstOperate : Option Instant
  chatter : Bool
  deriving DecidableEq, Repr

/-- An entry of the pending-evaluation list (R100). -/
structure PendingEntry where
  state : StateNo
  number : Nat
  entry : Instant
  exit : Instant
  cause : ExitCause
  uncoordinated : Bool
  clipped : Vector Bool 6
  clipTotal : Nat
  judged : List Judged
  horizon : Instant
  deriving DecidableEq, Repr

/-- The evaluator: the working entry and the pending-evaluation list, oldest first. -/
structure Evaluator where
  working : Option Working
  pendingList : List PendingEntry
  deriving DecidableEq, Repr

def Evaluator.initial : Evaluator where
  working := none
  pendingList := []

/-! ### Link Interface (chapter 7) -/

/-- The straps latched at reset (R131). -/
structure Straps where
  station : StationNo
  group : Fin 8
  cableDelay : Fin 16
  amplifierPresent : Bool
  deriving DecidableEq, Repr

/-- Link states (section 7.6). -/
inductive LinkState where
  | silent | online | muted
  deriving DecidableEq, Repr

/-- The block that queued a frame (R124). -/
inductive Owner where
  | engine | coordination | planMemory | resultStore | gatherEngine | statusUnit
  deriving DecidableEq, Repr

/-- Classes of a roll-call (R121). -/
inductive RollClass where
  | ready | done | fault
  deriving DecidableEq, Repr

/-- What a frame of the part's own says: the kinds a GX-340 sends (R116), with their contents. A reply holds its kind
code and payload. -/
inductive FrameBody where
  | abort (label : Label) (reason : EndReason)
  | mark (label : Label) (code : MarkCode) (detection : Instant)
  | start (label : Label)
  | rollcall (cls : RollClass)
  | recordRead (label : Label) (index : Nat)
  | reply (kind : Nat) (payload : List Byte)
  deriving DecidableEq, Repr

/-- A frame to send (R124): `dest = none` is the station's own group. Its priority follows from its kind. -/
structure TxFrame where
  dest : Option StationNo
  tag : Byte
  body : FrameBody
  owner : Owner
  deriving DecidableEq, Repr

/-- An entry of the transmit queue (R124). Status BEGUN is `begun`. -/
structure TxEntry where
  frame : TxFrame
  age : Nat
  begun : Bool
  onWire : Bool
  deriving DecidableEq, Repr

/-- An entry of the request queue (R127). -/
structure Request where
  origin : StationNo
  tag : Byte
  kind : Nat
  payload : List Byte
  instant : Instant
  deriving DecidableEq, Repr

/-- The outstanding remote read of the Gather Engine (R128). -/
structure Outstanding where
  station : StationNo
  tag : Byte
  deriving DecidableEq, Repr

/-- A reply accepted from the cable (R128). -/
structure Reply where
  origin : StationNo
  tag : Byte
  kind : Nat
  payload : List Byte
  deriving DecidableEq, Repr

/-- What the station drove in the slots and its roll-call bit of the latest frame it accepted (R120, R121); `true` is
dominant. -/
structure SlotDrive where
  ack : Bool
  busy : Bool
  rollBit : Bool
  deriving DecidableEq, Repr

/-- An outcome on its way to the owner of a frame that left the queue without a frame instant (R118, R125, R130). -/
structure Notice where
  entry : TxEntry
  outcome : FrameOutcome
  deriving DecidableEq, Repr

/-- The Link Interface (chapter 7). `resync` is set while reception is stopped at an over-long length field (R119).
`notices` is the model's own work list; it is empty between commands. -/
structure Link where
  straps : Straps
  state : LinkState
  tx : List TxEntry
  nextAge : Nat
  requests : List Request
  replySlot : Option Reply
  outstanding : Option Outstanding
  resync : Bool
  drive : SlotDrive
  notices : List Notice
  deriving DecidableEq, Repr

/-- R129, R131. -/
def Link.atReset (p : PinSample) : Link where
  straps :=
    { station := p.station, group := p.group, cableDelay := p.cableDelay, amplifierPresent := p.amplifierPresent }
  state := .silent
  tx := []
  nextAge := 0
  requests := []
  replySlot := none
  outstanding := none
  resync := false
  drive := { ack := false, busy := false, rollBit := false }
  notices := []

/-- What a station judges at the end of a check field (R120, R121): whether the request queue has room, and whether its
condition for each roll-call class holds (R140). The model keeps one such view for each of the last 18 microseconds. -/
structure CheckView where
  room : Bool
  ready : Bool
  done : Bool
  fault : Bool
  deriving DecidableEq, Repr

/-- The condition of a roll-call class in a view (R140). -/
def CheckView.condition (v : CheckView) : RollClass → Bool
  | .ready => v.ready
  | .done => v.done
  | .fault => v.fault

/-! ### Coordination Unit (chapter 8) -/

/-- Poller states (R142). -/
inductive PollerState where
  | off | polling | starting
  deriving DecidableEq, Repr

/-- The unit: its poller's count (R142) and state, and its own frames by their age in the transmit queue. -/
structure Coordination where
  count : Nat
  poller : PollerState
  nextPoll : Option Nat
  ownRoll : Option Nat
  ownStart : Option Nat
  gatherRoll : Option Nat
  deriving DecidableEq, Repr

/-- R149. -/
def Coordination.initial : Coordination where
  count := 0
  poller := .off
  nextPoll := none
  ownRoll := none
  ownStart := none
  gatherRoll := none

/-! ### Result Store (section 9.1) -/

/-- One store block (R150): `owner = none` is FREE, `next = none` is END. -/
structure StoreBlock where
  owner : Option Label
  next : Option BlockNo
  records : List Record
  deriving DecidableEq, Repr

/-- An entry of the held-label table (R151). -/
structure HeldLabel where
  label : Label
  chain : List BlockNo
  count : Nat
  endState : EndState
  deriving DecidableEq, Repr

/-- The running reserve bookkeeping (R158). -/
structure Reserve where
  evaluations : Nat
  dropped : Nat
  deriving DecidableEq, Repr

/-- The store: `reserve` is present from the acceptance of an ARM to the run's RUN-SUMMARY. -/
structure Store where
  blocks : Vector StoreBlock 96
  heldLabels : List HeldLabel
  reserve : Option Reserve
  deriving DecidableEq, Repr

def StoreBlock.free : StoreBlock where
  owner := none
  next := none
  records := []

/-- R163. -/
def Store.initial : Store where
  blocks := Vector.replicate 96 .free
  heldLabels := []
  reserve := none

/-! ### Gather Engine (R164) -/

/-- Gather states. -/
inductive GatherState where
  | idle | rolling | sweeping | done
  deriving DecidableEq, Repr

/-- The sweep cursor (R164). `sweepSet` is empty while ROLLING; `merge` is kept because a ROLL under MERGE clears the
statuses of its map only when that is known (R167). -/
structure Cursor where
  label : Label
  sweepSet : Vector Bool 16
  waitPending : Bool
  haltSilence : Bool
  merge : Bool
  requester : Option (StationNo × Byte)
  station : Option StationNo
  index : Nat
  notYetSince : Option Nat
  readTag : Option Byte
  deadline : Option Nat
  repeatAt : Option Nat
  deriving DecidableEq, Repr

/-- Station status of the report (R164). -/
inductive StationStatus where
  | notSwept | complete | partialRead | timedOut | noAnswer
  deriving DecidableEq, Repr

/-- An entry of the report: origin, index and the record's first part (R164, R192). -/
structure ReportEntry where
  origin : StationNo
  index : Nat
  kind : Nat
  time : Instant
  contents : List Byte
  deriving DecidableEq, Repr

/-- Latest outcome of a gather (R164). -/
inductive GatherOutcome where
  | none
  | completed
  | failed (halting : Option StationNo)
  | failedReset
  deriving DecidableEq, Repr

/-- A term's result (R176): value, verdict, and for MISSING which sides were absent. -/
inductive TermResult where
  | disabled
  | notEvaluated
  | pass (value : Int)
  | fail (value : Int)
  | missing (absentA : Bool) (absentB : Bool)
  deriving DecidableEq, Repr

/-- The consolidated report (R164). -/
structure Report where
  label : Option Label
  entries : List ReportEntry
  truncated : Bool
  dropped : Nat
  status : Vector StationStatus 16
  taken : Vector Nat 16
  outcome : GatherOutcome
  terms : Vector TermResult 12
  rounding : RoundingMode
  deriving DecidableEq, Repr

/-- The Gather Engine: its count, state, cursor, tag counter, pending gather-on-finish (instant and label) and report. -/
structure GatherEngine where
  count : Nat
  state : GatherState
  cursor : Option Cursor
  tagCounter : Byte
  onFinish : Option (Nat × Label)
  report : Report
  deriving DecidableEq, Repr

/-- R180. The rounding mode used is not among its values; NEAREST-EVEN is log entry 5's choice. -/
def Report.initial : Report where
  label := none
  entries := []
  truncated := false
  dropped := 0
  status := Vector.replicate 16 .notSwept
  taken := Vector.replicate 16 0
  outcome := .none
  terms := Vector.replicate 12 .notEvaluated
  rounding := .nearestEven

/-- R180. -/
def GatherEngine.initial : GatherEngine where
  count := 0
  state := .idle
  cursor := none
  tagCounter := 0
  onFinish := none
  report := .initial

/-! ### Status Unit (chapter 11) -/

/-- Causes held with ARM-REFUSED (R136). -/
inductive ArmCause where
  | state | noPlan | labelHeld | storeFull | ampFault
  deriving DecidableEq, Repr

/-- The fault latch (R185). -/
structure FaultLatch where
  planInvalid : Bool
  armRefused : Option ArmCause
  ampFault : Bool
  notReady : Bool
  txDropped : Bool
  markUncoordinated : Bool
  deriving DecidableEq, Repr

def FaultLatch.cleared : FaultLatch where
  planInvalid := false
  armRefused := none
  ampFault := false
  notReady := false
  txDropped := false
  markUncoordinated := false

/-- The service of the request queue (R181): idle; a request taken and not yet judged; or judged, with its reply kind
and payload waiting for the end of service. `since` is the elapsed count at which it was taken. -/
inductive Service where
  | idle
  | taken (r : Request) (since : Nat)
  | answered (r : Request) (kind : Nat) (payload : List Byte) (since : Nat)
  deriving DecidableEq, Repr

/-- The Status Unit (chapter 11). -/
structure StatusUnit where
  service : Service
  latch : FaultLatch
  served : Nat
  refused : Nat
  turnedAway : Nat
  dropped : Nat
  deriving DecidableEq, Repr

/-- R186. -/
def StatusUnit.initial : StatusUnit where
  service := .idle
  latch := .cleared
  served := 0
  refused := 0
  turnedAway := 0
  dropped := 0

/-! ### Test Clock (R133) -/

/-- The test clock, with two model counts: the µs since the end of the last power-on or pin reset, which time the sample
port while the clock is stopped (R32) and bound a commit check and a service (R15, R181), and whether this instant's
sample boundary has been taken. -/
structure Clock where
  running : Bool
  now : BitVec 32
  elapsed : Nat
  sampleTaken : Bool
  deriving DecidableEq, Repr

/-- R133. -/
def Clock.initial : Clock where
  running := false
  now := 0
  elapsed := 0
  sampleTaken := false

end Sys2Proof.Machine
end

