-- ==== Sys2Proof/Machine/State.lean ====
section
/-! DEFINITION. The whole state of the part, its reasons to stop, and the state right after a power-on or pin reset. -/

namespace Sys2Proof.Machine

/-- Reasons a command could stop the machine with a fault. The data manual gives every command its effect in every
state, so no command faults and the type has no constructor. -/
inductive Fault where
  deriving DecidableEq, Repr

/-- Reasons a command could be refused. -/
inductive Refusal where
  /-- A command that has no meaning in the model yet, by its mnemonic. Raised by an arm of exec only; safe. No arm of
  this model raises it. -/
  | notModelled (mnemonic : String)
  deriving DecidableEq, Repr

/-- The state of the part: the thirteen blocks, the level of the supply-fail line, what could be judged at the ends of
check fields lately, and the commands that wait, first in first out. -/
structure State where
  pending : List Instr
  plan : PlanMemory
  synth : Synth
  engine : Engine
  cond : Conditioner
  breaker : Breaker
  amp : Amplifier
  eval : Evaluator
  link : Link
  coord : Coordination
  store : Store
  gather : GatherEngine
  status : StatusUnit
  clock : Clock
  supplyFail : Bool
  /-- What R120 and R121 judge, as it stood at the end of each of the last microseconds, the latest first, at most 18:
  the model's own (log entry 9). -/
  past : List CheckView
  deriving DecidableEq, Repr

/-- The part right after a power-on or pin reset whose pins read `p`, with commands `q` waiting: every block's reset
values (R18, R40, R64, R77, R90, R97, R98, R113, R131, R133, R149, R163, R180, R186). -/
def State.afterPowerOn (p : PinSample) (q : List Instr) : State where
  pending := q
  plan := .emptied
  synth := .initial
  engine := .initial
  cond := { count := 0, inputs := tabulate fun i => InputState.atReset (p.inputs.get i) }
  breaker := .initial
  amp := .atReset p
  eval := .initial
  link := .atReset p
  coord := .initial
  store := .initial
  gather := .initial
  status := .initial
  clock := .initial
  supplyFail := p.supplyFail
  past := []

/-- The pins the reset state is taken with: the manual gives no strap or line level, and every pin is read as 0
(log entry 1, DESIGN CHOICE). -/
def allPinsLow : PinSample where
  station := 0
  group := 0
  cableDelay := 0
  amplifierPresent := false
  inputs := Vector.replicate 8 false
  overload := Vector.replicate 2 false
  supplyFail := false

/-- The machine right after reset. -/
def State.reset : State := State.afterPowerOn allPinsLow []

end Sys2Proof.Machine
end

