-- ==== Sys2Proof/Machine/Ops.lean ====
section
/-! DEFINITION. The named updates of the state, one for each block, the readings every block takes of the shared state,
the fault latch and the counts, and the passing of a microsecond. -/

namespace Sys2Proof.Machine

namespace State

def modPlan (s : State) (f : PlanMemory → PlanMemory) : State := { s with plan := f s.plan }
def modSynth (s : State) (f : Synth → Synth) : State := { s with synth := f s.synth }
def modEngine (s : State) (f : Engine → Engine) : State := { s with engine := f s.engine }
def modCond (s : State) (f : Conditioner → Conditioner) : State := { s with cond := f s.cond }
def modBreaker (s : State) (f : Breaker → Breaker) : State := { s with breaker := f s.breaker }
def modAmp (s : State) (f : Amplifier → Amplifier) : State := { s with amp := f s.amp }
def modEval (s : State) (f : Evaluator → Evaluator) : State := { s with eval := f s.eval }
def modLink (s : State) (f : Link → Link) : State := { s with link := f s.link }
def modCoord (s : State) (f : Coordination → Coordination) : State := { s with coord := f s.coord }
def modStore (s : State) (f : Store → Store) : State := { s with store := f s.store }
def modGather (s : State) (f : GatherEngine → GatherEngine) : State := { s with gather := f s.gather }
def modStatus (s : State) (f : StatusUnit → StatusUnit) : State := { s with status := f s.status }
def modClock (s : State) (f : Clock → Clock) : State := { s with clock := f s.clock }
def withSupplyFail (s : State) (b : Bool) : State := { s with supplyFail := b }
def withPast (s : State) (vs : List CheckView) : State := { s with past := vs }
def withPending (s : State) (q : List Instr) : State := { s with pending := q }

/-- The test clock's reading (R133). -/
def now (s : State) : Instant := s.clock.now.toNat

/-- The HEADER of the stored plan. -/
def header (s : State) : Header := s.plan.items.header

/-- The items of a plan state. -/
def stateItems (s : State) (st : StateNo) : StateItems := s.plan.items.states.get st

/-- The INPUT-SETUP of an input. -/
def inputSetup (s : State) (i : InputNo) : InputSetup := s.plan.items.inputs.get i

/-- The BREAKER-SETUP. -/
def breakerSetup (s : State) : BreakerSetup := s.plan.items.breaker

/-- One input of the conditioner. -/
def input (s : State) (i : InputNo) : InputState := s.cond.inputs.get i

/-- The station's own number (R131). -/
def own (s : State) : StationNo := s.link.straps.station

/-- The run holds the plan: ARMED, RUNNING or ENDING (R17). -/
def runActive (s : State) : Bool :=
  s.engine.runState == .armed || s.engine.runState == .running || s.engine.runState == .ending

/-- The run is RUNNING or ENDING. -/
def runUnderWay (s : State) : Bool := s.engine.runState == .running || s.engine.runState == .ending

/-- Change one input of the conditioner. -/
def modInput (s : State) (i : InputNo) (f : InputState → InputState) : State :=
  s.modCond fun c => { c with inputs := modAt c.inputs i f }

/-- Place reasons in the fault latch (R185). -/
def latch (s : State) (f : FaultLatch → FaultLatch) : State :=
  s.modStatus fun u => { u with latch := f u.latch }

/-- A DROPPED outcome reported by the Link Interface: TX-DROPPED is latched and the frames-dropped count rises (R125,
R185). -/
def countDrop (s : State) : State :=
  s.modStatus fun u =>
    { u with latch := { u.latch with txDropped := true }, dropped := satAdd Config.countLimit u.dropped 1 }

end State

/-- The test-clock time of the conditioning count's reading `t` (R75). -/
def edgeTime (t : Nat) (s : State) : Instant := s.now - (s.cond.count - t)

/-- The fault latch holds at least one reason (R140). -/
def FaultLatch.any (l : FaultLatch) : Bool :=
  l.planInvalid || l.armRefused.isSome || l.ampFault || l.notReady || l.txDropped || l.markUncoordinated

/-- One microsecond passes: every count of the part rises by 1, and the test clock with them once it runs, from
4,294,967,295 back to 0 (R65, R91, R133, R142, R164). -/
def advance (s : State) : State :=
  { s with
    clock :=
      { s.clock with
        now := if s.clock.running then s.clock.now + 1 else s.clock.now
        elapsed := s.clock.elapsed + 1
        sampleTaken := false }
    cond := { s.cond with count := s.cond.count + 1 }
    amp := { s.amp with count := s.amp.count + 1 }
    coord := { s.coord with count := s.coord.count + 1 }
    gather := { s.gather with count := s.gather.count + 1 } }

end Sys2Proof.Machine
end

