-- ==== Sys2Proof/Machine/StoreOps.lean ====
section
/-! DEFINITION. The result store: the pool, appending, the reservation, late records, and release (chapter 9). -/

namespace Sys2Proof.Machine

/-- Kind code of a record (R192). -/
def Contents.kindCode : Contents → Nat
  | .inputChange .. => 0 | .inputLockout .. => 1 | .inputRelease .. => 2 | .markSent .. => 3 | .markHeard .. => 4
  | .breaker .. => 5 | .evaluation .. => 6 | .runSummary .. => 7

/-- The numbers of the FREE blocks, ascending. -/
def freeBlocks (st : Store) : List BlockNo := (List.finRange 96).filter fun b => (st.blocks.get b).owner.isNone

/-- The entry of a label in the held-label table. -/
def findLabel (st : Store) (l : Label) : Option HeldLabel := st.heldLabels.find? fun h => h.label == l

/-- The label has records in the store (R151). -/
def isHeld (st : Store) (l : Label) : Bool := (findLabel st l).isSome

/-- The empty record places of a label's tail block; 0 for a label that is not held (R150). -/
def tailRoom (st : Store) (l : Label) : Nat :=
  match findLabel st l with
  | some h =>
    match h.chain.getLast? with
    | some b => Config.blockRecords - (st.blocks.get b).records.length
    | none => 0
  | none => 0

/-- The free record capacity seen by a label (R150). -/
def freeCapacity (st : Store) (l : Label) : Nat := (freeBlocks st).length * Config.blockRecords + tailRoom st l

/-- Replace a label's entry in the held-label table. -/
def setHeld (st : Store) (h : HeldLabel) : Store :=
  { st with heldLabels := st.heldLabels.map fun x => if x.label == h.label then h else x }

/-- Put a record in the next place of a block. -/
def addToBlock (b : BlockNo) (r : Record) (st : Store) : Store :=
  { st with blocks := modAt st.blocks b fun x => { x with records := x.records ++ [r] } }

/-- Append a record under a label, allocating the lowest-numbered FREE block where one is needed (R155). With no FREE
block where one is needed the append does not take place. -/
def appendTo (l : Label) (time : Instant) (c : Contents) (st : Store) : Store :=
  match findLabel st l with
  | some h =>
    let r : Record := { index := h.count, time := time, contents := c }
    let h' : HeldLabel := { h with count := h.count + 1 }
    if 0 < tailRoom st l then
      match h.chain.getLast? with
      | some b => addToBlock b r (setHeld st h')
      | none => st
    else
      match freeBlocks st with
      | [] => st
      | n :: _ =>
        let linked := match h.chain.getLast? with
          | some b => { st with blocks := modAt st.blocks b fun x => { x with next := some n } }
          | none => st
        let taken := { linked with
          blocks := setAt linked.blocks n { owner := some l, next := none, records := [r] } }
        setHeld taken { h' with chain := h.chain ++ [n] }
  | none =>
    match freeBlocks st with
    | [] => st
    | n :: _ =>
      { st with
        blocks := setAt st.blocks n
          { owner := some l, next := none, records := [{ index := 0, time := time, contents := c }] }
        heldLabels := st.heldLabels ++ [{ label := l, chain := [n], count := 1, endState := .opened }] }

/-- The append of a record under a label has a place to go (R155). -/
def hasRoom (st : Store) (l : Label) : Bool := decide (0 < tailRoom st l) || !(freeBlocks st).isEmpty

/-- The required reserve of the run (R156): one EVALUATION per visit it may still write, and its RUN-SUMMARY. -/
def requiredReserve (visitLimit : Nat) (r : Reserve) : Nat := (visitLimit - r.evaluations) + 1

/-- An event record under label `l` (R156, R157): of the run while its bookkeeping stands, tested against the reserve
and dropped with a count; of any other label, a late record, appended to a held label when it has room and the run's
reserve still holds, and otherwise discarded. Within an abort the bookkeeping stands until the RUN-SUMMARY, so a MARK
withdrawn there leaves a record of the run and not a late one (log entry 36, DESIGN CHOICE). -/
def storeEvent (l : Label) (c : Contents) (s : State) : State :=
  let st := s.store
  let after := appendTo l s.now c st
  match st.reserve with
  | some r =>
    match s.engine.runLabel with
    | some run =>
      if l == run then
        if decide (requiredReserve s.header.visitLimit r ≤ freeCapacity after l) && hasRoom st l then
          s.modStore fun _ => after
        else
          s.modStore fun x => { x with reserve := some { r with dropped := satAdd Config.countLimit r.dropped 1 } }
      else if isHeld st l && hasRoom st l && decide (requiredReserve s.header.visitLimit r ≤ freeCapacity after run) then
        s.modStore fun _ => after
      else s
    | none => s
  | none => if isHeld st l && hasRoom st l then s.modStore fun _ => after else s

/-- An event record of the run label, handed over in RUNNING or ENDING (R153). -/
def storeRunEvent (c : Contents) (s : State) : State :=
  if s.runUnderWay then
    match s.engine.runLabel with
    | some l => storeEvent l c s
    | none => s
  else s

/-- An EVALUATION record of the run: appended without a test, and counted (R156, R158). -/
def storeEvaluation (c : Contents) (s : State) : State :=
  match s.engine.runLabel with
  | some l =>
    s.modStore fun st =>
      let st' := appendTo l s.now c st
      { st' with reserve := st'.reserve.map fun r => { r with evaluations := r.evaluations + 1 } }
  | none => s

/-- The RUN-SUMMARY of the run: appended without a test; the label's end state is set and the bookkeeping ends (R151,
R158). -/
def storeSummary (c : Contents) (e : EndState) (s : State) : State :=
  match s.engine.runLabel with
  | some l =>
    s.modStore fun st =>
      let st' := appendTo l s.now c st
      let st'' := match findLabel st' l with
        | some h => setHeld st' { h with endState := e }
        | none => st'
      { st'' with reserve := none }
  | none => s.modStore fun st => { st with reserve := none }

/-- The record of a label at an index, sought along its chain (R159). -/
def recordAt (st : Store) (h : HeldLabel) (i : Nat) : Option Record :=
  match h.chain[i / Config.blockRecords]? with
  | some b => (st.blocks.get b).records[i % Config.blockRecords]?
  | none => none

/-- Release a label (R161): its blocks become FREE with next END and its entry leaves the table. -/
def releaseLabel (h : HeldLabel) (st : Store) : Store :=
  { st with
    blocks := h.chain.foldl (fun bs b => setAt bs b .free) st.blocks
    heldLabels := st.heldLabels.filter fun x => x.label != h.label }

end Sys2Proof.Machine
end

