-- ==== Sys2Proof/Machine/SynthOps.lean ====
section
/-! DEFINITION. The Waveform Synthesizer's arithmetic (chapter 2): taking up a visit, the samples, clipping, forcing at
the boundaries, and the sample-port frame. -/

namespace Sys2Proof.Machine

/-- The periodic part of a channel at a reference phase (R25). -/
def periodicPart (θ : BitVec 32) (c : ChannelState) : Int :=
  halfAway (c.amp * sineS (θ + c.phi)) 131072 +
    (if c.harm = 0 then 0
     else halfAway (c.ampH * sineS (BitVec.ofNat 32 c.harm * θ + c.phiH)) 131072)

/-- The DC contribution of a residue (R26). -/
def dcContribution (c : ChannelState) : Int := halfAway c.residue 256

/-- The residue after a sample (R26). -/
def nextResidue (c : ChannelState) : Int := towardZero (c.residue * c.kd) 65536

/-- The unclamped sum of a sample (R29). -/
def sampleSum (θ : BitVec 32) (c : ChannelState) : Int := periodicPart θ c + dcContribution c

/-- The computed code of a sample (R29). -/
def computedCode (θ : BitVec 32) (c : ChannelState) : Int := clampTo Config.codeLimit (sampleSum θ c)

/-- A channel takes up a state (R21 to R23, R26 to R28). `yLast` is the code it emitted at the boundary before. -/
def takeUpChannel (θ : BitVec 32) (no : ChannelNo) (it : ChannelItem) (yLast : Int) (c : ChannelState) : ChannelState :=
  let a := amplitudeCode no it.magnitude
  let base : ChannelState :=
    { c with
      amp := a
      phi := phaseOffset it.angle
      harm := it.harmonicOrder
      ampH := if it.harmonicOrder = 0 then 0 else harmonicAmplitude a it.harmonicMagnitude
      phiH := phaseOffset it.harmonicAngle
      dcMode := it.dcMode
      kd := it.kd
      residue := 0
      clipCount := 0
      clipped := false }
  let d0 : Int := match it.dcMode with
    | .off => 0
    | .fixed => it.dcInitial
    | .continuous => clampTo Config.codeLimit (yLast - periodicPart θ base)
  { base with residue := d0 * 256 }

/-- A state entry at the synthesizer (R23). For the initial state the reference phase and the last computed codes are
set to 0 first and every channel starts from y_last = 0 (R28, R33). -/
def synthEnter (it : StateItems) (initial : Bool) (y : Synth) : Synth :=
  let θ := if initial then 0 else y.thetaRef
  { thetaRef := θ
    freqWord := frequencyWord it.control.frequency
    sampleIndex := 0
    channels := tabulate fun i =>
      let c := y.channels.get i
      let c := if initial then { c with lastComputed := 0 } else c
      takeUpChannel θ i (it.channels.get i) (if initial then 0 else c.lastEmitted) c }

/-- The visit's context is discarded (R39, R40): W, k and the channels' contexts become 0 with DC NONE. The reference
phase, the codes and the clip figures keep their values. -/
def synthDiscard (y : Synth) : Synth :=
  { y with
    freqWord := 0
    sampleIndex := 0
    channels := tabulate fun i =>
      let c := y.channels.get i
      { ChannelState.initial with
        lastComputed := c.lastComputed
        lastEmitted := c.lastEmitted
        clipCount := c.clipCount
        clipped := c.clipped } }

/-- The total clip count of a visit, saturating (R30). -/
def clipTotal (y : Synth) : Nat := min Config.countLimit ((y.channels.toList.map (·.clipCount)).sum)

/-- The clipped set of a visit (R30). -/
def clippedSet (y : Synth) : Vector Bool 6 := tabulate fun i => (y.channels.get i).clipped

/-! ### Forcing (section 2.7) -/

/-- The simulated contacts are open: OPEN or CLOSING. -/
def contactsOpen (b : BreakerState) : Bool := b == .opened || b == .closing

/-- A current channel's forcing status at a boundary (R34, R35, R37). `prev` and `y` are its computed codes of the
boundary before and of this one. -/
def nextForcing (isOpen : Bool) (prev y : Int) (f : Forcing) : Forcing :=
  if !isOpen then .unforced
  else
    let count := match f with
      | .unforced => some 1
      | .watching n => some (n + 1)
      | .forced => none
    match count with
    | none => .forced
    | some n =>
      if y = 0 ∨ codeSign y ≠ codeSign prev ∨ Config.watchLimit ≤ n then .forced else .watching n

/-- Which entry of the forcing table a channel has: CH4..CH6. -/
def forcingIndex (c : ChannelNo) : Option (Fin 3) := if h : 3 ≤ c.val then some ⟨c.val - 3, by omega⟩ else none

/-- A channel is FORCED. -/
def isForced (f : Vector Forcing 3) (c : ChannelNo) : Bool :=
  match forcingIndex c with
  | some i => f.get i == .forced
  | none => false

/-- One channel through a sample of a visit (R26, R29 to R31). -/
def sampleChannel (θ : BitVec 32) (forced : Bool) (c : ChannelState) : ChannelState :=
  let y := computedCode θ c
  let clip := decide (sampleSum θ c ≠ y)
  { c with
    residue := if c.dcMode == .off then 0 else nextResidue c
    lastComputed := y
    lastEmitted := if forced then 0 else y
    clipCount := if clip then satAdd Config.countLimit c.clipCount 1 else c.clipCount
    clipped := c.clipped || clip }

/-- The forcing table after a boundary of a visit. -/
def forcingAfter (s : State) : Vector Forcing 3 :=
  tabulate fun i : Fin 3 =>
    let c := s.synth.channels.get ⟨i.val + 3, by omega⟩
    nextForcing (contactsOpen s.breaker.state) c.lastComputed (computedCode s.synth.thetaRef c) (s.breaker.forcing.get i)

/-- A sample of a visit: six codes, the forcing of the current channels, and the reference phase's advance (R19, R25 to
R31, R34 to R37). -/
def sampleVisit (s : State) : State :=
  let f := forcingAfter s
  let θ := s.synth.thetaRef
  (s.modSynth fun y =>
    { y with
      thetaRef := θ + BitVec.ofNat 32 y.freqWord
      sampleIndex := y.sampleIndex + 1
      channels := tabulate fun i => sampleChannel θ (isForced f i) (y.channels.get i) }).modBreaker
    fun b => { b with forcing := f }

/-- A boundary with no sample of a visit: the frame carries six zeros and nothing is computed (R31). -/
def sampleZero (s : State) : State :=
  s.modSynth fun y =>
    { y with channels := tabulate fun i => { y.channels.get i with lastEmitted := 0 } }

/-! ### The sample port (R32) -/

/-- The 96 bits of the frame that carries the last emitted codes: CH1 first, each code's most significant bit first. The
frame is read from the codes as they stand, so a reset of the codes while it is being sent shows zeros in the rest of it
(log entry 48, DESIGN CHOICE). -/
def portFrame (y : Synth) : List Bool :=
  y.channels.toList.flatMap fun c => bitsOf 16 (BitVec.ofInt 16 c.lastEmitted).toNat

/-- The levels of SFRM, SCLK and SDAT `ns` nanoseconds after the boundary that begins the frame (R32): bit `j` is on
SDAT from 200·j ns, SCLK rises 100 ns later, and SFRM is released at 19,200 ns. That SCLK falls after 100 ns high, and
that SCLK and SDAT are low between frames, is the model's choice (log entry 40, DESIGN CHOICE): R32 gives neither. -/
def portPins (y : Synth) (ns : Nat) : Bool × Bool × Bool :=
  if ns < 19200 then (true, decide (100 ≤ ns % 200), (portFrame y).getD (ns / 200) false) else (false, false, false)

end Sys2Proof.Machine
end

