-- ==== Sys2Proof/Machine/Outputs.lean ====
section
/-! DEFINITION. The binary outputs (R62, R63, R88) and the simulated breaker (R79 to R90). -/

namespace Sys2Proof.Machine

/-- The outputs go to the HEADER's rest levels, and no level stays scheduled (R63). -/
def outputsToRest (s : State) : State :=
  s.modEngine fun g => { g with boLevels := s.header.boRest, boSchedule := Vector.replicate 4 none }

/-- While the run is RUNNING and the BREAKER-SETUP is enabled, the outputs it names belong to the breaker (R63). -/
def breakerOwns (s : State) (o : OutputNo) : Bool :=
  s.engine.runState == .running && s.breakerSetup.enabled &&
    (s.breakerSetup.out52a == some o || s.breakerSetup.out52b == some o)

/-- 52a for a breaker state; 52b is the other level (section 5.1, R88). -/
def level52a (b : BreakerState) : Bool := b == .closed || b == .opening

/-- Present the auxiliary contacts on the outputs named as 52a and 52b (R88). -/
def driveContacts (s : State) : State :=
  if s.breakerSetup.enabled then
    s.modEngine fun g =>
      { g with
        boLevels := tabulate fun o =>
          if s.breakerSetup.out52a == some o then level52a s.breaker.state
          else if s.breakerSetup.out52b == some o then !level52a s.breaker.state
          else g.boLevels.get o }
  else s

/-- The breaker is reset to CLOSED with its timer cancelled and every forcing status UNFORCED (R80). -/
def resetBreaker (s : State) : State := s.modBreaker fun _ => .initial

/-- The simulator acts: enabled, RUNNING, a visit current (R79). -/
def breakerActs (s : State) : Bool :=
  s.breakerSetup.enabled && s.engine.runState == .running && s.engine.visit.isSome

/-- The breaker passes to a state and its record is handed over (R81 to R85, R89). -/
def breakerTo (b : BreakerState) (t : BreakerTimer) (cause : InputNo) (s : State) : State :=
  storeRunEvent (.breaker b cause) (s.modBreaker fun x => { x with state := b, timer := t })

/-- OPEN at an instant, from OPENING or trip-free (R82, R85). -/
def breakerOpens (s : State) : State := driveContacts (breakerTo .opened .off s.breakerSetup.tripInput s)

/-- CLOSED at the end of a close, by the close input (R84). -/
def breakerCloses (cause : InputNo) (s : State) : State := driveContacts (breakerTo .closed .off cause s)

/-- An operate of the trip input (R81, R85, R86). With an open time of 0 the breaker is OPEN within this step, so a close
operate taken behind it at the same instant starts CLOSING: there R87's last row and R81 with R83 differ, and R81 with
R83 are followed (log entry 44, DESIGN CHOICE). -/
def tripOperate (s : State) : State :=
  match s.breaker.state with
  | .closed =>
    let s' := breakerTo .opening (.opening (s.now + s.breakerSetup.openTime * 1000)) s.breakerSetup.tripInput s
    if s.breakerSetup.openTime = 0 then breakerOpens s' else s'
  | .closing => breakerOpens s
  | .opening | .opened => s

/-- An operate of the close input (R83, R86). With a close time of 0 the breaker is CLOSED within this step, so a trip
operate taken behind it at the same instant starts OPENING: there R87's second row and R83 with R84 differ, and R83 with
R84 are followed (log entry 44, DESIGN CHOICE). -/
def closeOperate (i : InputNo) (s : State) : State :=
  match s.breaker.state with
  | .opened =>
    let s' := breakerTo .closing (.closing (s.now + s.breakerSetup.closeTime * 1000)) i s
    if s.breakerSetup.closeTime = 0 then breakerCloses i s' else s'
  | .closed | .opening | .closing => s

/-- An accepted change at the breaker (R79): operates of the trip and of the close input. -/
def breakerTakes (i : InputNo) (dir : Direction) (s : State) : State :=
  if breakerActs s && dir == .operate then
    if i == s.breakerSetup.tripInput then tripOperate s
    else if s.breakerSetup.closeInput == some i then closeOperate i s
    else s
  else s

/-- The OPEN timer has reached its expiry while OPENING (R82). -/
def openTimerDue (s : State) : Bool :=
  breakerActs s && s.breaker.state == .opening &&
    (match s.breaker.timer with
     | .opening x => decide (x ≤ s.now)
     | _ => false)

/-- The CLOSE timer has reached its expiry while CLOSING (R84). -/
def closeTimerDue (s : State) : Bool :=
  breakerActs s && s.breaker.state == .closing &&
    (match s.breaker.timer with
     | .closing x => decide (x ≤ s.now)
     | _ => false)

end Sys2Proof.Machine
end

