-- ==== Sys2Proof/Machine/EvalOps.lean ====
section
/-! DEFINITION. The Timing Evaluator (chapter 6): working entries, attribution, closing, verdicts and evaluation. -/

namespace Sys2Proof.Machine

/-- Open the working entry of a visit entered now (R100, R107): the flag of each input that is LOCKED-OUT is set, with the
time at which its lockout began. -/
def openWorking (s : State) : State :=
  s.modEval fun e =>
    { e with
      working := some
        { firstOperate := Vector.replicate 8 none
          lockoutSeen := tabulate fun i => (s.input i).lockout.map fun k => edgeTime k.began s } }

/-- The earlier of a first operate held and an edge (R104). -/
def earlier (held : Option Instant) (e : Instant) : Option Instant :=
  match held with
  | none => some e
  | some t => if e < t then some e else some t

/-- An edge attributed to a closed visit's judged input (R104). -/
def attributeToEntry (i : InputNo) (e : Instant) (p : PendingEntry) : PendingEntry :=
  if p.entry ≤ e ∧ e < p.exit then
    { p with
      judged := p.judged.map fun j => if j.bi == i then { j with firstOperate := earlier j.firstOperate e } else j }
  else p

/-- An operate's edge is attributed to the visit whose interval contains it: the current one, still open, or a pending
one; otherwise to none (R104, R106). -/
def attributeEdge (i : InputNo) (e : Instant) (s : State) : State :=
  match s.engine.visit, s.eval.working with
  | some v, some w =>
    if v.entry ≤ e then
      s.modEval fun x =>
        { x with working := some { w with firstOperate := modAt w.firstOperate i fun h => earlier h e } }
    else s.modEval fun x => { x with pendingList := x.pendingList.map (attributeToEntry i e) }
  | _, _ => s.modEval fun x => { x with pendingList := x.pendingList.map (attributeToEntry i e) }

/-- An INPUT-LOCKOUT while a visit is current sets its flag (R107): its period begins now. -/
def lockoutSeen (i : InputNo) (s : State) : State :=
  s.modEval fun x =>
    { x with
      working := x.working.map fun w =>
        { w with lockoutSeen := modAt w.lockoutSeen i fun h => match h with
            | some t => some t
            | none => some s.now } }

/-- An INPUT-RELEASE at the visit's own entry instant clears the flag set at its opening (R107). -/
def releaseSeen (i : InputNo) (s : State) : State :=
  match s.engine.visit with
  | some v =>
    if v.entry = s.now then
      s.modEval fun x => { x with working := x.working.map fun w => { w with lockoutSeen := setAt w.lockoutSeen i none } }
    else s
  | none => s

/-- A closed visit's judged inputs, ascending, with CHATTER where a lockout began before the exit (R101, R107). -/
def judgedInputs (it : StateItems) (w : Working) (exit : Instant) : List Judged :=
  (List.finRange 8).filterMap fun i =>
    match it.windows.get i with
    | .dontCare => none
    | win =>
      some
        { bi := i
          window := win
          firstOperate := w.firstOperate.get i
          chatter := match w.lockoutSeen.get i with
            | some t => decide (t < exit)
            | none => false }

/-- The settle horizon: the exit plus the longest debounce among the judged inputs (R102). -/
def settleHorizon (s : State) (exit : Instant) (js : List Judged) : Instant :=
  exit + js.foldl (fun m j => max m ((s.inputSetup j.bi).debounce * 100)) 0

/-- A visit closes (R101): its pending entry joins the tail, and the working entry is discarded. -/
def closeWorking (v : Visit) (exit : Instant) (cause : ExitCause) (s : State) : State :=
  let w := s.eval.working.getD
    { firstOperate := Vector.replicate 8 none, lockoutSeen := Vector.replicate 8 none }
  let js := judgedInputs (s.stateItems v.state) w exit
  let p : PendingEntry :=
    { state := v.state
      number := v.number
      entry := v.entry
      exit := exit
      cause := cause
      uncoordinated := v.uncoordinated
      clipped := clippedSet s.synth
      clipTotal := clipTotal s.synth
      judged := js
      horizon := settleHorizon s exit js }
  s.modEval fun x => { working := none, pendingList := x.pendingList ++ [p] }

/-- The verdict of a judged input (R108). `t` is the first operate's time after the entry. -/
def verdictOf (j : Judged) (entry : Instant) : Verdict :=
  if j.chatter then .chatter
  else match j.window, j.firstOperate with
    | .operate _ _, none => .failNone
    | .operate lo hi, some e =>
      if e - entry < lo * 100 then .failEarly else if hi * 100 < e - entry then .failLate else .pass
    | .noOperate, some _ => .failOperated
    | .noOperate, none => .pass
    | .dontCare, _ => .pass

/-- A verdict with its reported time and flags (R109). -/
def verdictEntry (entry : Instant) (j : Judged) : VerdictEntry :=
  { bi := j.bi
    verdict := verdictOf j entry
    reported := match j.firstOperate with
      | some e => min (e - entry) Config.reportedTimeLimit
      | none => Config.reportedTimeLimit
    noneFlag := j.firstOperate.isNone
    overRange := match j.firstOperate with
      | some e => decide (Config.reportedTimeLimit < e - entry)
      | none => false }

/-- The EVALUATION record of an entry (R110). -/
def evaluationOf (p : PendingEntry) : Contents :=
  .evaluation p.state p.number p.entry p.exit p.cause p.uncoordinated p.clipped p.clipTotal
    (p.judged.map (verdictEntry p.entry))

/-- The head of the list is evaluated and leaves it (R103). -/
def evaluateHead (s : State) : State :=
  match s.eval.pendingList with
  | [] => s
  | p :: rest => storeEvaluation (evaluationOf p) (s.modEval fun x => { x with pendingList := rest })

/-- The head's horizon has come (R103). -/
def horizonDue (s : State) : Bool :=
  match s.eval.pendingList with
  | [] => false
  | p :: _ => decide (p.horizon ≤ s.now)

/-- Evaluate the head again and again while its horizon has come, at most `n` times (R103). -/
def evaluateWhileDue : Nat → State → State
  | 0, s => s
  | n + 1, s => if horizonDue s then evaluateWhileDue n (evaluateHead s) else s

/-- Every entry whose time has come leaves the list, oldest first (R103). -/
def evaluateDue (s : State) : State := evaluateWhileDue s.eval.pendingList.length s

/-- Evaluate the head `n` times. -/
def evaluateTimes : Nat → State → State
  | 0, s => s
  | n + 1, s => evaluateTimes n (evaluateHead s)

/-- The flush of an abort: every entry at once, oldest first (R112). -/
def flushPending (s : State) : State := evaluateTimes s.eval.pendingList.length s

end Sys2Proof.Machine
end

