-- ==== Sys2Proof/Machine/TxQueue.lean ====
section
/-! DEFINITION. The transmit queue: priorities and frames of the part's own (R115, R116, R190), placing (R125),
withdrawing (R126), beginning and contending (R114, R117, R124), and removing. -/

namespace Sys2Proof.Machine

/-- Code of an end reason (R190). -/
def EndReason.code : EndReason → Nat
  | .none => 0 | .endTarget => 1 | .stop => 2 | .visitLimit => 3 | .clockLimit => 4 | .overload => 5
  | .supply => 6 | .notReady => 7 | .muted => 8 | .peerAbort => 9 | .stationReset => 10

/-- Code of a roll-call class (R190). -/
def RollClass.code : RollClass → Nat
  | .ready => 1 | .done => 2 | .fault => 3

/-- The priority a GX-340 sends a frame at (R116). -/
def FrameBody.priority : FrameBody → Nat
  | .abort _ _ => 0
  | .mark _ _ _ => 1
  | .start _ => 2
  | .rollcall _ => 4
  | .reply _ _ => 5
  | .recordRead _ _ => 6

/-- The kind code of a frame (R189). -/
def FrameBody.kindCode : FrameBody → Nat
  | .abort _ _ => 1
  | .mark _ _ _ => 2
  | .start _ => 3
  | .rollcall _ => 8
  | .reply k _ => k
  | .recordRead _ _ => 35

/-- The payload of a frame (R190). -/
def FrameBody.payload : FrameBody → List Byte
  | .abort l r => [l, byte r.code]
  | .mark l c d => l :: c :: bytes4 d
  | .start l => [l]
  | .rollcall c => [byte c.code]
  | .reply _ p => p
  | .recordRead l i => l :: bytes2 i ++ [byte 0]

/-- A group frame of the part's own is addressed to its group (R116). -/
def FrameBody.isGroup : FrameBody → Bool
  | .abort _ _ | .mark _ _ _ | .start _ | .rollcall _ => true
  | .reply _ _ | .recordRead _ _ => false

/-- The priority of an entry. -/
def TxEntry.priority (e : TxEntry) : Nat := e.frame.body.priority

/-- The bits a frame's check runs over: priority to the last bit of the payload (R115, R189). -/
def checkedBits (priority origin form number kind tag length : Nat) (payload : List Byte) : List Bool :=
  bitsOf 3 priority ++ bitsOf 4 origin ++ bitsOf 2 form ++ bitsOf 4 number ++ bitsOf 6 kind ++ bitsOf 8 tag ++
    bitsOf 6 length ++ payload.flatMap (fun b => bitsOf 8 b.toNat)

/-- The bits of a received frame that its check covers. -/
def frameBits (f : RxFrame) : List Bool :=
  checkedBits f.priority.toNat f.origin.val f.destForm.toNat f.destNumber.toNat f.kind.toNat f.tag.toNat
    f.length.toNat f.payload

/-- The frame of an entry as it stands on the cable (R115, R189): what every receiver reads. -/
def wireFrame (st : Straps) (t : TxFrame) : RxFrame :=
  let form : Nat := if t.dest.isSome then 0 else 1
  let number : Nat := match t.dest with
    | some d => d.val
    | none => st.group.val
  let p := t.body.payload
  { priority := BitVec.ofNat 3 t.body.priority
    origin := st.station
    destForm := BitVec.ofNat 2 form
    destNumber := BitVec.ofNat 4 number
    kind := BitVec.ofNat 6 t.body.kindCode
    tag := t.tag
    length := BitVec.ofNat 6 p.length
    payload := p
    check := crc16 (checkedBits (t.body.priority % 8) st.station.val form number (t.body.kindCode % 64) t.tag.toNat
      (p.length % 64) p) }

/-- The whole bit sequence a station sends for a frame: the dominant start bit, then every field to the end of the
check (R114, R115). A recessive bit is `true`. -/
def sentBits (st : Straps) (t : TxFrame) : List Bool :=
  let f := wireFrame st t
  false :: frameBits f ++ bitsOf 16 f.check.toNat

/-! ### The order of the queue -/

/-- A new entry behind every entry of its own or a higher priority (R124, R125). -/
def insertByPriority (e : TxEntry) : List TxEntry → List TxEntry
  | [] => [e]
  | x :: xs => if x.priority ≤ e.priority then x :: insertByPriority e xs else e :: x :: xs

/-- Of two entries, the one pushed out first: the lower priority, then the younger (R125). -/
def pushedBefore (a b : TxEntry) : Bool :=
  decide (b.priority < a.priority) || (a.priority == b.priority && decide (b.age < a.age))

/-- The entry that a full queue pushes out: not on the wire, of the lowest priority, the youngest (R125). -/
def pushOutVictim (q : List TxEntry) : Option TxEntry :=
  q.foldl
    (fun best e =>
      if e.onWire then best
      else match best with
        | none => some e
        | some b => if pushedBefore e b then some e else best)
    none

/-- The queue without the entry of an age. -/
def removeAge (age : Nat) (q : List TxEntry) : List TxEntry := q.filter (fun e => e.age != age)

/-- The entry on the wire. -/
def onWireEntry (q : List TxEntry) : Option TxEntry := q.find? (fun e => e.onWire)

/-- The entry of an age. -/
def entryOfAge (age : Nat) (q : List TxEntry) : Option TxEntry := q.find? (fun e => e.age == age)

/-! ### Placing, withdrawing and removing -/

/-- An entry ends DROPPED: the latch and the count at once, and a notice for its owner (R123, R125). -/
def dropEntry (e : TxEntry) (s : State) : State :=
  s.countDrop.modLink fun l => { l with notices := l.notices ++ [{ entry := e, outcome := .dropped }] }

/-- A block places a frame (R125, R130). `atHead` is set for the ABORT of a SUPPLY abort alone. The new entry's age is
the queue's next age, whatever becomes of it. -/
def place (t : TxFrame) (atHead : Bool) (s : State) : State :=
  let e : TxEntry := { frame := t, age := s.link.nextAge, begun := false, onWire := false }
  let s := s.modLink fun l => { l with nextAge := l.nextAge + 1 }
  let add (q : List TxEntry) : List TxEntry := if atHead then e :: q else insertByPriority e q
  if s.link.state == .muted then dropEntry e s
  else if s.link.tx.length < Config.txCapacity then s.modLink fun l => { l with tx := add l.tx }
  else match pushOutVictim s.link.tx with
    | none => dropEntry e s
    | some v =>
      if atHead || decide (e.priority < v.priority) then
        dropEntry v (s.modLink fun l => { l with tx := add (removeAge v.age l.tx) })
      else dropEntry e s

/-- A block withdraws the frame of an age (R126): removed while WAITING, left alone once BEGUN. -/
def withdraw (age : Nat) (s : State) : State :=
  match entryOfAge age s.link.tx with
  | some e => if e.begun then s else s.modLink fun l => { l with tx := removeAge age l.tx }
  | none => s

/-- The frame of an age waits and has not begun. -/
def isWaiting (age : Nat) (s : State) : Bool :=
  match entryOfAge age s.link.tx with
  | some e => !e.begun
  | none => false

/-- Remove the entry of an age, its frame having ended. -/
def removeEntry (age : Nat) (s : State) : State := s.modLink fun l => { l with tx := removeAge age l.tx }

/-! ### Contending -/

/-- The arbitration field of an entry: priority, then origin (R117). -/
def arbitrationField (st : Straps) (e : TxEntry) : BitVec 7 := BitVec.ofNat 7 (e.priority * 16 + st.station.val)

/-- Contention bit by bit (R117): `n` bits are left, each sent most significant first. A bit reads dominant (0) when any
contender still sending sends 0. A contender that sent recessive and reads dominant stops. The result says whether the
station is still sending at the end of the field. -/
def survives : Nat → BitVec 7 → List (BitVec 7) → Bool
  | 0, _, _ => true
  | n + 1, own, rivals =>
    let cable := own.getLsbD n && rivals.all (fun r => r.getLsbD n)
    if own.getLsbD n && !cable then false
    else survives n own (rivals.filter fun r => r.getLsbD n == cable)

/-- The Sequence Engine is told that its frame has begun (R51, R124): the pending coordinated mark becomes ON-WIRE. -/
def tellBegun (age : Nat) (s : State) : State :=
  s.modEngine fun g =>
    { g with pendingMark := g.pendingMark.map fun p => if p.age == age then { p with onWire := true } else p }

/-- At an idle cable an ONLINE station contends with the head of its queue (R114, R124): the start bit makes the entry
BEGUN, its owner is told the first time, and the entry is on the wire unless arbitration is lost (R117). -/
def contend (rivals : List (BitVec 7)) (s : State) : State :=
  if s.link.state == .online && !s.link.resync && (onWireEntry s.link.tx).isNone then
    match s.link.tx with
    | [] => s
    | h :: q =>
      let won := survives 7 (arbitrationField s.link.straps h) rivals
      let s' := s.modLink fun l => { l with tx := { h with begun := true, onWire := won } :: q }
      if h.begun then s' else tellBegun h.age s'
  else s

end Sys2Proof.Machine
end

