-- ==== Sys2Proof/Machine/Poller.lean ====
section
/-! DEFINITION. The auto-start poller (R142 to R144) and the roll-calls of the Coordination Unit (R140, R141). -/

namespace Sys2Proof.Machine

/-- The condition a station answers a roll-call class by (R140). -/
def rollCondition (cls : RollClass) (s : State) : Bool :=
  match cls with
  | .ready => s.engine.runState == .armed && s.amp.countsReady
  | .done =>
    (s.engine.runState == .finished || s.engine.runState == .aborted) &&
      (match s.engine.runLabel with
       | some l => s.store.heldLabels.any fun h => h.label == l
       | none => false)
  | .fault => s.status.latch.any

/-- The poller's three conditions (R142). -/
def pollerMayRun (s : State) : Bool :=
  s.engine.runState == .armed && s.header.startSet.toList.any id && s.amp.countsReady

/-- A ROLLCALL of the poller is in the transmit queue, whether or not its outcome is still wanted (R141, R142). -/
def readyRollQueued (s : State) : Bool :=
  s.link.tx.any fun e => e.frame.owner == .coordination && e.frame.body == .rollcall .ready

/-- Queue a ROLLCALL(READY) unless one of the poller's is in the queue (R141, R142). -/
def queueReadyRoll (s : State) : State :=
  if readyRollQueued s then s
  else
    place { dest := none, tag := 0, body := .rollcall .ready, owner := .coordination } false
      (s.modCoord fun c => { c with ownRoll := some s.link.nextAge })

/-- Enter POLLING: a roll-call at once, the next poll instant 20,000 µs later (R142). -/
def enterPolling (s : State) : State :=
  queueReadyRoll (s.modCoord fun c =>
    { c with poller := .polling, nextPoll := some (c.count + Config.pollInterval) })

/-- OFF passes to POLLING when the three conditions hold (R142). -/
def pollerMayStart (s : State) : State :=
  if s.coord.poller == .off && pollerMayRun s then enterPolling s else s

/-- Give up a frame of the poller's: withdrawn while WAITING; its outcome is not wanted any more (R144). -/
def giveUp (age : Option Nat) (s : State) : State :=
  match age with
  | some a => withdraw a s
  | none => s

/-- The poller gives up its frames and passes to OFF (R144). -/
def pollerOff (s : State) : State :=
  (giveUp s.coord.ownStart (giveUp s.coord.ownRoll s)).modCoord fun c =>
    { c with poller := .off, nextPoll := none, ownRoll := none, ownStart := none }

/-- The poller leaves POLLING or STARTING when one of its conditions has stopped holding (R142). -/
def pollerCheck (s : State) : State :=
  if s.coord.poller != .off && !pollerMayRun s then pollerOff s else s

/-- Every station of the start set is in the map (R142). -/
def coversStartSet (answers : BitVec 16) (s : State) : Bool :=
  (List.finRange 16).all fun i => !(s.header.startSet.get i) || answers.getLsbD i.val

/-- A map of the poller's own roll-call (R142): a covering map queues START and passes to STARTING. -/
def pollerMap (answers : BitVec 16) (s : State) : State :=
  let s := s.modCoord fun c => { c with ownRoll := none }
  if s.coord.poller == .polling && coversStartSet answers s then
    match s.engine.runLabel with
    | some l =>
      place { dest := none, tag := 0, body := .start l, owner := .coordination } false
        (s.modCoord fun c => { c with poller := .starting, nextPoll := none, ownStart := some s.link.nextAge })
    | none => s
  else s

/-- A START of the poller's ended DROPPED or CORRUPT (R143). The return to POLLING queues no roll-call: it sets the next
poll instant alone, as R143 says, and is not taken for an entering of POLLING, at which R142 queues one (log entry 53,
DESIGN CHOICE). -/
def pollerStartLost (s : State) : State :=
  let s := s.modCoord fun c => { c with ownStart := none }
  if s.engine.runState == .armed && s.amp.countsReady then
    s.modCoord fun c => { c with poller := .polling, nextPoll := some (c.count + Config.pollInterval) }
  else pollerOff s

/-- The next poll instant has come in POLLING (R142). -/
def pollDue (s : State) : Bool :=
  s.coord.poller == .polling &&
    (match s.coord.nextPoll with
     | some x => decide (x ≤ s.coord.count)
     | none => false)

/-- At the next poll instant (R142): a roll-call unless one is queued, and the instant moves on by 20,000 µs. -/
def pollNow (s : State) : State :=
  queueReadyRoll (s.modCoord fun c => { c with nextPoll := c.nextPoll.map (· + Config.pollInterval) })

end Sys2Proof.Machine
end

