-- ==== Sys2Proof/Machine/EngineOps.lean ====
section
/-! DEFINITION. The Sequence Engine (chapter 3): marks, the choice of exit, coordinated triggers, visits, the ends of a
run, and the engine's side of START, STOP, STEP, MARK and ABORT. -/

namespace Sys2Proof.Machine

/-! ### Marks -/

/-- A MARK-SENT record, under the label the frame carries (R145, R153). -/
def logMark (l : Label) (code : MarkCode) (detection : Instant) (o : FrameOutcome) (at? : Option Instant) (s : State) :
    State :=
  storeEvent l (.markSent code detection o at?) s

/-- The engine queues a MARK for the run's label (R51, R55); its age is the queue's next age. -/
def queueMark (code : MarkCode) (detection : Instant) (s : State) : State :=
  match s.engine.runLabel with
  | some l => place { dest := none, tag := 0, body := .mark l code detection, owner := .engine } false s
  | none => s

/-- A waiting MARK is withdrawn and logged DROPPED with no frame instant (R54). -/
def withdrawMark (age : Nat) (l : Label) (code : MarkCode) (detection : Instant) (s : State) : State :=
  if isWaiting age s then logMark l code detection .dropped none (withdraw age s) else s

/-- The pending coordinated mark is given up (R54): withdrawn while QUEUED, left to complete when ON-WIRE. -/
def giveUpMark (s : State) : State :=
  match s.engine.pendingMark with
  | none => s
  | some p =>
    let s' := s.modEngine fun g => { g with pendingMark := none }
    match s.engine.runLabel with
    | some l => withdrawMark p.age l p.code p.detection s'
    | none => s'

/-- Every MARK of the run that still waits is withdrawn and logged (R55, R60), in the order of the transmit queue, head
first, the pending coordinated one having gone before (`closeVisit`): R60 and R152 give no order among them (log entry
45, DESIGN CHOICE). -/
def withdrawRunMarks (s : State) : State :=
  s.link.tx.foldl
    (fun s e => match e.frame.body with
      | .mark l c d => if s.engine.runLabel == some l then withdrawMark e.age l c d s else s
      | _ => s)
    s

/-! ### The choice of exit (R50) -/

/-- One decider ranks before another at one instant: the lower slot, and every slot before BACKSTOP (R50). -/
def ranksBefore : Decider → Decider → Bool
  | .slot a, .slot b => decide (a < b)
  | .slot _, .backstop => true
  | _, _ => false

/-- The trigger becomes the decided exit. A pending coordinated mark of another slot is given up (R54). `fallback` marks
a coordinated trigger at its fallback instant (R53). The mark is given up also where its slot is the lower one and its
frame instant or fallback is to come at the same instant: there R50 and R54 differ, and R54 is followed (log entry 35,
DESIGN CHOICE). -/
def decideExit (d : DecidedExit) (v : Visit) (fallback : Bool) (s : State) : State :=
  let s := s.modEngine fun g => { g with decided := some d, visit := some { v with uncoordinated := fallback } }
  let s := if fallback then s.latch fun l => { l with markUncoordinated := true } else s
  match s.engine.pendingMark with
  | some p => if d.decider == .slot p.slot then s else giveUpMark s
  | none => s

/-- A trigger presents its instant to the choice of exit (R50). -/
def present (d : Decider) (t : Target) (x : Instant) (fallback : Bool) (s : State) : State :=
  match s.engine.visit with
  | none => s
  | some v =>
    match s.engine.decided with
    | none => decideExit { instant := x, decider := d, target := some t, boundary := exitBoundaryOf v.entry x } v fallback s
    | some old =>
      if old.instant = x ∧ ranksBefore d old.decider then
        decideExit { old with decider := d, target := some t } v fallback s
      else s

/-- The target of a trigger. -/
def triggerTarget : Trigger → Target
  | .timer _ t _ | .input _ _ t _ | .mark _ _ t | .step t => t
  | .empty => .endRun

/-- The trigger in a slot of the current visit's state. -/
def visitTrigger (s : State) (v : Visit) (n : SlotNo) : Trigger := (s.stateItems v.state).triggers.get n

/-- The exit cause that a decider stands for (R42). -/
def causeOf (s : State) (v : Visit) : Decider → ExitCause
  | .slot n => match visitTrigger s v n with
    | .input .. => .input n
    | .mark .. => .mark n
    | .step _ => .step n
    | .timer .. | .empty => .timer n
  | .backstop => .backstop
  | .stop => .stop

/-- The condition of a coordinated trigger occurs at `x` (R51). -/
def coordinatedCondition (n : SlotNo) (code : MarkCode) (x : Instant) (s : State) : State :=
  let queue (s : State) : State :=
    queueMark code x (s.modEngine fun g =>
      { g with pendingMark := some { slot := n, code := code, detection := x, onWire := false, age := s.link.nextAge } })
  if s.engine.visit.isNone || s.engine.decided.isSome || s.engine.pendingFallback.isSome then s
  else match s.engine.pendingMark with
    | none => queue s
    | some p => if p.detection = x ∧ n < p.slot ∧ p.onWire = false then queue (giveUpMark s) else s

/-- A slot whose trigger carries a coordinating code waits for its own mark; any other presents at once (R46, R47). -/
def fireSlot (n : SlotNo) (t : Target) (coord : Option MarkCode) (x : Instant) (s : State) : State :=
  match coord with
  | none => present (.slot n) t x false s
  | some c => coordinatedCondition n c x s

/-- The outcome of a MARK of the engine's own (R52, R53, R145): its record, and the pending coordinated mark's fate. A
mark DROPPED or CORRUPT at the very instant of its deadline is held as the pending fallback too, and presented by
FALLBACK_DEADLINE behind it (log entry 43, DESIGN CHOICE). -/
def markOutcome (age : Nat) (l : Label) (code : MarkCode) (detection : Instant) (o : FrameOutcome) (s : State) : State :=
  let heard := o == .delivered || o == .unheard
  let s := logMark l code detection o (if heard then some s.now else none) s
  match s.engine.pendingMark with
  | some p =>
    if p.age = age then
      let s' := s.modEngine fun g => { g with pendingMark := none }
      if heard then
        match s'.engine.visit with
        | some v => present (.slot p.slot) (triggerTarget (visitTrigger s' v p.slot)) s'.now false s'
        | none => s'
      else
        s'.modEngine fun g =>
          { g with pendingFallback := some { slot := p.slot, instant := p.detection + Config.fallbackDelay } }
    else s
  | none => s

/-! ### Entering and closing visits -/

/-- The first accepted operate of an input in the visit queues its STATE-MARKS code (R55). -/
def firstOperateMark (i : InputNo) (s : State) : State :=
  match s.engine.visit with
  | some v =>
    match (s.stateItems v.state).marks.get i with
    | some c =>
      if s.engine.firstOperates.get i then s
      else queueMark c s.now (s.modEngine fun g => { g with firstOperates := setAt g.firstOperates i true })
    | none => s
  | none => s

/-- Held operates are taken by the visit that is current now (R55, R105). -/
def takeHeld (hs : List HeldOperate) (s : State) : State :=
  hs.foldl
    (fun s h =>
      let s := match h.edge with
        | some e => attributeEdge h.bi e s
        | none => s
      firstOperateMark h.bi s)
    s

/-- No exit took place at this instant: held operates belong to the current visit. -/
def resolveHeld (s : State) : State := takeHeld s.engine.held (s.modEngine fun g => { g with held := [] })

/-- The expiry a slot is armed with at an entry at `b` (R44). -/
def armedExpiry (b : Instant) : Trigger → Option Instant
  | .timer d _ _ => some (b + d * 1000)
  | _ => none

/-- Enter a state at boundary `b` (R44). -/
def enterState (st : StateNo) (b : Instant) (initial : Bool) (s : State) : State :=
  let it := s.stateItems st
  let n := s.engine.visitCount + 1
  let owned (o : OutputNo) : Bool := breakerOwns s o
  let s := s.modEngine fun g =>
    { g with
      visit := some { state := st, number := n, entry := b, uncoordinated := false }
      visitCount := n
      timers := tabulate fun i => armedExpiry b (it.triggers.get i)
      backstop := some (b + it.control.backstop * 1000)
      decided := none
      pendingMark := none
      pendingFallback := none
      firstOperates := Vector.replicate 8 false
      held := []
      latestVisit := some st
      boLevels := tabulate fun o =>
        if !owned o && it.control.boDelays.get o == 0 then it.control.boLevels.get o else g.boLevels.get o
      boSchedule := tabulate fun o =>
        if !owned o && it.control.boDelays.get o != 0 then
          some (b + it.control.boDelays.get o * 1000, it.control.boLevels.get o)
        else none
      boHeld := Vector.replicate 4 none }
  let s := openWorking (s.modSynth (synthEnter it initial))
  match it.control.entryMark with
  | some c => queueMark c b s
  | none => s

/-- The output levels that a visit closed at `exit` leaves: a level whose delay is as long as the visit never shows, so
where it was applied at this boundary already the output has the level it held before (R62). -/
def levelsAtClose (exit : Instant) (g : Engine) : Vector Bool 4 :=
  tabulate fun o => match g.boHeld.get o with
    | some (x, b) => if exit ≤ x then b else g.boLevels.get o
    | none => g.boLevels.get o

/-- Close the current visit (R45, R101): it goes to the evaluator with the synthesizer's clip figures, its pending mark
is given up, and nothing of its bookkeeping stays. At an abort the pending mark is so withdrawn and logged ahead of the
other waiting MARKs, wherever it stands in the queue: R60 gives no order among them (log entry 45, DESIGN CHOICE). -/
def closeVisit (exit : Instant) (cause : ExitCause) (s : State) : State :=
  match s.engine.visit with
  | none => s
  | some v =>
    (giveUpMark (closeWorking v exit cause s)).modEngine fun g =>
      { g with
        visit := none
        decided := none
        pendingFallback := none
        firstOperates := Vector.replicate 8 false
        timers := Vector.replicate 4 none
        backstop := none
        held := []
        boLevels := levelsAtClose exit g
        boSchedule := Vector.replicate 4 none
        boHeld := Vector.replicate 4 none }

/-! ### The ends of a run -/

/-- The RUN-SUMMARY of the run (R59, R154). -/
def summaryOf (s : State) (last : Option StateNo) : Contents :=
  .runSummary s.engine.endReason s.engine.visitCount
    (match s.store.reserve with
     | some r => r.dropped
     | none => 0)
    last s.link.straps.cableDelay.val

/-- The run has left RUNNING or ENDING for FINISHED or ABORTED: a READY amplifier's idle timer starts (R95). -/
def ampRunEnded (s : State) : State :=
  if s.amp.state == .ready then s.modAmp fun a => { a with idle := some (a.count + Config.idlePeriod) } else s

/-- The last state is set and the RUN-SUMMARY handed over (R59, R60). -/
def writeSummary (e : EndState) (s : State) : State :=
  let s := s.modEngine fun g => { g with lastState := g.latestVisit }
  storeSummary (summaryOf s s.engine.lastState) e s

/-- The last pending evaluation of an ENDING run is written: RUN-SUMMARY, FINISHED, and the notices to the supervisor and
the Gather Engine (R59, R95, R111, R177). -/
def finishRun (s : State) : State :=
  let s := (writeSummary .finished s).modEngine fun g => { g with runState := .finished }
  let s := ampRunEnded s
  match s.engine.runLabel with
  | some l => s.modGather fun g => { g with onFinish := some (g.count + Config.gatherOnFinishDelay, l) }
  | none => s

/-- FINISHED follows when the run is ENDING and the list is empty (R111). -/
def finishIfDone (s : State) : State :=
  if s.engine.runState == .ending && s.eval.pendingList.isEmpty then finishRun s else s

/-- Outputs to rest, breaker reset, synthesizer context discarded (R59, R60). -/
def quiesce (s : State) : State := (resetBreaker (outputsToRest s)).modSynth synthDiscard

/-- The run passes to ENDING (R59). -/
def enterEnding (r : EndReason) (s : State) : State :=
  let s := s.modEngine fun g => { g with runState := .ending, endReason := r, held := [] }
  finishIfDone (quiesce s)

/-- The decided exit has come to its boundary (R45); an exit decided for the clock limit is not taken (R57). -/
def exitDue (s : State) : Bool :=
  s.engine.runState == .running && decide (s.now < Config.clockLimit) &&
    (match s.engine.visit, s.engine.decided with
     | some _, some d => decide (d.boundary ≤ s.now)
     | _, _ => false)

/-- The exit boundary (R45, R56, R58): close, evaluate what is due, and enter the target or pass to ENDING. The record of a
waiting coordinated MARK that the close withdraws stands before the EVALUATION of the same instant: R152 gives no order
of the two (log entry 54, DESIGN CHOICE). -/
def takeExit (s : State) : State :=
  match s.engine.visit, s.engine.decided with
  | some v, some d =>
    let held := s.engine.held
    let s := evaluateDue (closeVisit d.boundary (causeOf s v d.decider) s)
    match d.target with
    | none => enterEnding .stop s
    | some .endRun => enterEnding .endTarget s
    | some (.state st) =>
      if s.engine.visitCount < s.header.visitLimit then takeHeld held (enterState st d.boundary false s)
      else enterEnding .visitLimit s
  | _, _ => s

/-- An event at a boundary at which the visit exits on an earlier decision belongs to the visit entered there (R50): the
exit is carried out first. An event at a boundary B taken behind an EXIT_BOUNDARY that has carried out an exit decided
at B itself is judged against the visit entered at B: R50 does not say that it still belongs to the closed one (log
entry 52, DESIGN CHOICE). -/
def settleBoundary (s : State) : State :=
  match s.engine.decided with
  | some d => if exitDue s && decide (d.instant < s.now) then takeExit s else s
  | none => s

/-- The clock limit has come in RUNNING (R57). -/
def clockLimitDue (s : State) : Bool := s.engine.runState == .running && decide (Config.clockLimit ≤ s.now)

/-- The clock limit ends the run (R57). The record of a MARK withdrawn at the close stands before the EVALUATIONs of the
same instant (log entry 54, DESIGN CHOICE). -/
def takeClockLimit (s : State) : State :=
  enterEnding .clockLimit (evaluateDue (closeVisit Config.clockLimit .clockLimit s))

/-- The ABORT frame of the run's label (R60, R61). -/
def queueAbort (r : EndReason) (atHead : Bool) (s : State) : State :=
  match s.engine.runLabel with
  | some l => place { dest := none, tag := 0, body := .abort l r, owner := .engine } atHead s
  | none => s

/-- Steps 1 to 6 of an abort in RUNNING or ENDING (R60, R112). An operate held at a boundary is resolved first; a
first-operate MARK it places that is refused is told at the end of the step, behind the RUN-SUMMARY, as a late record
(log entry 46, DESIGN CHOICE). -/
def abortUnderWay (r : EndReason) (s : State) : State :=
  let s := (resolveHeld s).modEngine fun g => { g with runState := .aborted, endReason := r }
  let s := closeVisit s.now .abort s
  let s := quiesce (withdrawRunMarks s)
  ampRunEnded (writeSummary .aborted (flushPending s))

/-- An abort from ARMED (R60, R61): no visit; a RUN-SUMMARY for NOT-READY alone, and the bookkeeping ends (R158). The
poller passes to OFF, and its waiting frames are withdrawn before the ABORT of the same abort is placed: R60 and R144
give no order of the two (log entry 51, DESIGN CHOICE). -/
def abortArmed (r : EndReason) (s : State) : State :=
  let s := s.modEngine fun g => { g with runState := .aborted, endReason := r }
  let s := if r == .notReady then storeSummary (summaryOf s none) .aborted s
    else s.modStore fun st => { st with reserve := none }
  pollerOff s

/-- An abort in whatever active state the run is in; any other run is left as it stands. -/
def abortRun (r : EndReason) (s : State) : State :=
  if s.runUnderWay then abortUnderWay r s
  else if s.engine.runState == .armed then abortArmed r s
  else s

/-! ### Events that reach the engine -/

/-- Present or condition every slot for which `f` gives a target and a coordinating code, in slot order. Where one change
matches a lower coordinated slot and a higher plain one, the MARK is so queued and then given up; R47 gives no order
among the slots (log entry 49, DESIGN CHOICE). With no visit current nothing fires, at t = 1000 before the entry too
(log entry 34, DESIGN CHOICE). The visit is the one current as the event is taken, also behind an exit decided and
carried out at the same instant (log entry 52, DESIGN CHOICE). -/
def fireSlots (f : Trigger → Option (Target × Option MarkCode)) (x : Instant) (s : State) : State :=
  match s.engine.visit with
  | none => s
  | some v =>
    (List.finRange 4).foldl
      (fun s' n => match f (visitTrigger s v n) with
        | some (t, c) => fireSlot n t c x s'
        | none => s')
      s

/-- An accepted change at the engine (R47). -/
def engineChange (i : InputNo) (dir : Direction) (s : State) : State :=
  if s.engine.runState == .running then
    let s := settleBoundary s
    fireSlots (fun t => match t with
      | .input bi edge target coord => if bi == i && edge == dir then some (target, coord) else none
      | _ => none) s.now s
  else s

/-- A MARK frame at the engine (R48). -/
def engineMark (origin : StationNo) (code : Byte) (s : State) : State :=
  if s.engine.runState == .running then
    let s := settleBoundary s
    fireSlots (fun t => match t with
      | .mark c from? target =>
        if c == code && (from?.isNone || from? == some origin) then some (target, none) else none
      | _ => none) s.now s
  else s

/-- A STEP frame at the engine (R49). -/
def engineStep (s : State) : State :=
  if s.engine.runState == .running then
    let s := settleBoundary s
    fireSlots (fun t => match t with
      | .step target => some (target, none)
      | _ => none) s.now s
  else s

/-- A STOP frame at the engine (R58). With no visit current the run ends at once, at t = 1000 before the entry too (log
entry 34, DESIGN CHOICE). A visit whose abandoned exit was decided at a fallback instant stays UNCOORDINATED (log entry
50, DESIGN CHOICE). -/
def engineStop (s : State) : State :=
  if s.engine.runState == .running then
    match s.engine.visit with
    | none => enterEnding .stop s
    | some v =>
      let stop : State := s.modEngine fun g =>
        { g with
          decided := some
            { instant := s.now, decider := .stop, target := none, boundary := exitBoundaryOf v.entry s.now } }
      match s.engine.decided with
      | none => stop
      | some d => match d.target with
        | some (.state _) => stop
        | some .endRun | none => s
  else s

/-- The epoch (R33, R43, R133, R134): the clock takes the strapped compensation, the run is RUNNING, the breaker is
CLOSED, its outputs take their levels, and the idle timer is gone. With a compensation of 0 the epoch is itself a
boundary: a new port frame begins at once, also where one of the old clock has begun and is still being sent (log entry
42, DESIGN CHOICE). -/
def takeEpoch (s : State) : State :=
  let s := pollerOff s
  let s := s.modClock fun c =>
    { c with running := true, now := BitVec.ofNat 32 s.link.straps.cableDelay.val, sampleTaken := false }
  let s := s.modEngine fun g => { g with runState := .running }
  driveContacts (resetBreaker s) |>.modAmp fun a => { a with idle := none }

/-- A START for the armed label whose amplifier is not ready (R60, R134). The ABORT is placed behind the poller's giving up
(log entry 51, DESIGN CHOICE). -/
def startNotReady (s : State) : State :=
  queueAbort .notReady false (abortArmed .notReady (s.latch fun l => { l with notReady := true }))

/-- A START(L) at the engine (R134). -/
def engineStart (l : Label) (s : State) : State :=
  if s.engine.runState == .armed && s.engine.runLabel == some l then
    if s.amp.countsReady then takeEpoch s else startNotReady s
  else s

/-- A peer's ABORT, or the station's own returning (R61, R148). -/
def enginePeerAbort (l : Label) (s : State) : State :=
  if s.engine.runLabel == some l then
    if s.engine.runState == .running then abortUnderWay .peerAbort s
    else if s.engine.runState == .armed then abortArmed .peerAbort s
    else s
  else s

/-! ### Instants of the current visit -/

/-- A TIMER slot has reached its expiry (R46). -/
def timerDue (n : SlotNo) (s : State) : Bool :=
  s.engine.runState == .running && s.engine.visit.isSome &&
    (match s.engine.timers.get n with
     | some x => decide (x ≤ s.now)
     | none => false)

/-- The backstop has reached its expiry (R46). -/
def backstopDue (s : State) : Bool :=
  s.engine.runState == .running && s.engine.visit.isSome &&
    (match s.engine.backstop with
     | some x => decide (x ≤ s.now)
     | none => false)

/-- A TIMER slot's expiry (R46). -/
def takeTimer (n : SlotNo) (s : State) : State :=
  match s.engine.visit, s.engine.timers.get n with
  | some v, some x =>
    let s := s.modEngine fun g => { g with timers := setAt g.timers n none }
    match visitTrigger s v n with
    | .timer _ t c => fireSlot n t c x s
    | _ => s
  | _, _ => s

/-- The backstop's expiry (R46). -/
def takeBackstop (s : State) : State :=
  match s.engine.visit, s.engine.backstop with
  | some v, some x =>
    present .backstop (s.stateItems v.state).control.backstopTarget x false
      (s.modEngine fun g => { g with backstop := none })
  | _, _ => s

/-- The fallback instant the visit waits for: of its pending mark, or of its pending fallback (R51, R53). -/
def fallbackInstant (s : State) : Option (SlotNo × Instant) :=
  match s.engine.pendingMark, s.engine.pendingFallback with
  | some p, _ => some (p.slot, p.detection + Config.fallbackDelay)
  | none, some f => some (f.slot, f.instant)
  | none, none => none

/-- The fallback deadline has come (R53). -/
def fallbackDue (s : State) : Bool :=
  s.engine.runState == .running && s.engine.visit.isSome &&
    (match fallbackInstant s with
     | some (_, x) => decide (x ≤ s.now)
     | none => false)

/-- The fallback instant is presented from its slot (R53). -/
def takeFallback (s : State) : State :=
  match s.engine.visit, fallbackInstant s with
  | some v, some (n, x) =>
    let s := (giveUpMark s).modEngine fun g => { g with pendingFallback := none }
    present (.slot n) (triggerTarget (visitTrigger s v n)) x true s
  | _, _ => s

/-- The entry of the initial state is due at t = 1000 (R43). -/
def initialEntryDue (s : State) : Bool :=
  s.engine.runState == .running && s.engine.visit.isNone && s.engine.visitCount == 0 &&
    decide (Config.firstEntry ≤ s.now ∧ s.now < Config.clockLimit)

/-- The initial state is entered as visit 1 (R43, R44). -/
def takeInitialEntry (s : State) : State := enterState s.header.initialState Config.firstEntry true s

/-- A BO delay has passed, and the exit of its visit is not due (R62). -/
def boDelayDue (o : OutputNo) (s : State) : Bool :=
  s.engine.runState == .running && s.engine.visit.isSome && !exitDue s &&
    (match s.engine.boSchedule.get o with
     | some (x, _) => decide (x ≤ s.now)
     | none => false)

/-- The level is applied (R62), and what the output held before is kept for a visit that closes at this boundary. -/
def takeBoDelay (o : OutputNo) (s : State) : State :=
  match s.engine.boSchedule.get o with
  | some (x, b) =>
    s.modEngine fun g =>
      { g with
        boLevels := setAt g.boLevels o b
        boSchedule := setAt g.boSchedule o none
        boHeld := setAt g.boHeld o (some (x, g.boLevels.get o)) }
  | none => s

end Sys2Proof.Machine
end

