-- ==== Sys2Proof/Machine/AmpOps.lean ====
section
/-! DEFINITION. The Amplifier Supervisor (section 5.3) and the supply-fail line (section 5.4). -/

namespace Sys2Proof.Machine

/-- A debouncer is HELD: the supervisor is in overload (R96). -/
def inOverload (a : Amplifier) : Bool := a.debouncers.toList.any (· == .held)

/-- Both debouncers are CLEAR. -/
def debouncersClear (a : Amplifier) : Bool := a.debouncers.toList.all (· == .clear)

/-- The supervisor becomes FAULTED, and AMP-FAULT is latched (R96, R185). -/
def ampFault (s : State) : State :=
  (s.latch fun l => { l with ampFault := true }).modAmp fun a =>
    { a with state := .faulted, warmUp := none, idle := none }

/-- The supervisor enters STANDBY, or FAULTED at once while in overload (R96). -/
def ampStandby (s : State) : State :=
  if inOverload s.amp then ampFault s
  else s.modAmp fun a => { a with state := .standby, warmUp := none, idle := none }

/-- The supervisor enters WARMING for 400 ms, or FAULTED at once while in overload (R93, R96). -/
def ampWarm (s : State) : State :=
  if inOverload s.amp then ampFault s
  else s.modAmp fun a => { a with state := .warming, warmUp := some (a.count + Config.warmUp), idle := none }

/-- An ARM is accepted (R93, R97, R99). -/
def ampArm (s : State) : State :=
  match s.amp.state with
  | .standby => if s.supplyFail then s else ampWarm s
  | .faulted =>
    if debouncersClear s.amp then (if s.supplyFail then ampStandby s else ampWarm s) else s
  | .ready => s.modAmp fun a => { a with idle := some (a.count + Config.idlePeriod) }
  | .warming | .absent => s

/-- A DISARM is accepted (R97). -/
def ampDisarm (s : State) : State :=
  if s.amp.state == .faulted && debouncersClear s.amp then ampStandby s else s

/-- A station reset at the supervisor (R97). -/
def ampReset (s : State) : State :=
  match s.amp.state with
  | .warming | .ready => ampStandby s
  | .faulted => if debouncersClear s.amp then ampStandby s else s
  | .absent | .standby => s

/-- The warm-up's expiry has come in WARMING (R94). -/
def warmUpDue (s : State) : Bool :=
  s.amp.state == .warming &&
    (match s.amp.warmUp with
     | some x => decide (x ≤ s.amp.count)
     | none => false)

/-- WARMING becomes READY; the poller may start (R94, R142). -/
def takeWarmUp (s : State) : State :=
  pollerMayStart (s.modAmp fun a =>
    { a with
      state := .ready
      warmUp := none
      idle := if s.runUnderWay then none else some (a.count + Config.idlePeriod) })

/-- The idle timer's expiry has come in READY (R95). -/
def idleDue (s : State) : Bool :=
  s.amp.state == .ready &&
    (match s.amp.idle with
     | some x => decide (x ≤ s.amp.count)
     | none => false)

/-- READY becomes STANDBY; the poller's condition may have stopped holding (R95, R142). -/
def takeIdle (s : State) : State := pollerCheck (ampStandby s)

/-- A line's debouncer has been TIMING for 2 ms (R96). -/
def overloadDue (line : OverloadLine) (s : State) : Bool :=
  match s.amp.debouncers.get line with
  | .timing start => decide (start + Config.overloadDebounce ≤ s.amp.count)
  | .clear | .held => false

/-- An overload report (R96). -/
def takeOverload (line : OverloadLine) (s : State) : State :=
  let s := s.modAmp fun a => { a with debouncers := setAt a.debouncers line .held }
  match s.amp.state with
  | .ready =>
    if s.engine.runState == .running then queueAbort .overload false (abortUnderWay .overload (ampFault s))
    else pollerCheck (ampFault s)
  | .warming | .standby => pollerCheck (ampFault s)
  | .faulted | .absent => s

/-- An overload line becomes asserted (R92, R96). -/
def lineAsserted (line : OverloadLine) (s : State) : State :=
  if s.amp.state == .absent then s
  else match s.amp.debouncers.get line with
    | .clear => s.modAmp fun a => { a with debouncers := setAt a.debouncers line (.timing a.count) }
    | .timing _ | .held => s

/-- An overload line becomes deasserted (R92, R96). A report due at this instant is taken first: the line has stayed
asserted for the 2 ms. -/
def lineDeasserted (line : OverloadLine) (s : State) : State :=
  if s.amp.state == .absent then s
  else
    let s := if overloadDue line s then takeOverload line s else s
    s.modAmp fun a => { a with debouncers := setAt a.debouncers line .clear }

/-- The supervisor at an assertion of the supply-fail line (R98). -/
def ampSupplyFail (s : State) : State :=
  match s.amp.state with
  | .warming | .ready | .faulted => ampStandby s
  | .absent | .standby => s

/-- The supply-fail line becomes asserted (R98): outputs to rest, the run aborted SUPPLY with its ABORT frame at the head
of the transmit queue, and the amplifiers disabled. A line already asserted does not become asserted. -/
def supplyFails (s : State) : State :=
  if s.supplyFail then s
  else
    let active := s.runActive
    let s := outputsToRest (s.withSupplyFail true)
    let s := if active then queueAbort .supply true (abortRun .supply s) else s
    ampSupplyFail s

end Sys2Proof.Machine
end

