-- ==== Sys2Proof/Machine/CoordOps.lean ====
section
/-! DEFINITION. The Coordination Unit's side of the group frames (chapter 8): judging and accepting ARM, DISARM, and
hearing a MARK. -/

namespace Sys2Proof.Machine

/-- The run is ARMED with this label. -/
def armedWith (l : Label) (s : State) : Bool := s.engine.runState == .armed && s.engine.runLabel == some l

/-- The cause an ARM is refused with, by conditions 2 to 7 in their order (R136). -/
def armRefusal (l : Label) (s : State) : Option ArmCause :=
  if s.runActive || s.link.state != .online then some .state
  else if s.plan.state != .valid then some .noPlan
  else if isHeld s.store l then some .labelHeld
  else if Config.labelCapacity ≤ s.store.heldLabels.length then some .storeFull
  else if (freeBlocks s.store).length * Config.blockRecords < s.header.visitLimit + 1 then some .storeFull
  else if s.amp.state == .faulted && !debouncersClear s.amp then some .ampFault
  else none

/-- An ARM is accepted (R41, R93, R137, R142, R158). -/
def armAccept (l : Label) (s : State) : State :=
  let s := s.modEngine fun g =>
    { g with
      runState := .armed
      runLabel := some l
      visit := none
      visitCount := 0
      decided := none
      pendingMark := none
      pendingFallback := none
      latestVisit := none
      endReason := .none
      lastState := none }
  let s := s.modStore fun st => { st with reserve := some { evaluations := 0, dropped := 0 } }
  pollerMayStart (ampArm s)

/-- An ARM at its frame instant (R136). -/
def coordArm (l : Label) (s : State) : State :=
  if armedWith l s then s
  else match armRefusal l s with
    | some c => s.latch fun f => { f with armRefused := some c }
    | none => armAccept l s

/-- A DISARM at its frame instant (R138, R158). -/
def coordDisarm (l : Label) (s : State) : State :=
  if armedWith l s then
    let s := s.modEngine fun g => { g with runState := .idle, runLabel := none }
    ampDisarm (pollerOff (s.modStore fun st => { st with reserve := none }))
  else s

/-- A MARK of another station at its frame instant (R146). -/
def coordMark (origin : StationNo) (l : Label) (code : Byte) (detection : Instant) (s : State) : State :=
  if s.engine.runLabel == some l && s.runUnderWay then
    engineMark origin code (storeRunEvent (.markHeard origin code detection) s)
  else s

/-- A STOP at its frame instant (R147). -/
def coordStop (l : Label) (s : State) : State := if s.engine.runLabel == some l then engineStop s else s

/-- A STEP at its frame instant (R147). -/
def coordStep (l : Label) (s : State) : State := if s.engine.runLabel == some l then engineStep s else s

end Sys2Proof.Machine
end

