-- ==== Sys2Proof/Machine/Flags.lean ====
section
/-! DEFINITION. The flag bytes and the small codes of chapter 12: the fault latch and its cause (R193), refusal codes
(R190), and the codes of states and outcomes in replies (R190, R192, R193). -/

namespace Sys2Proof.Machine

/-- A flag as a bit of weight `w`. -/
def bit (b : Bool) (w : Nat) : Nat := if b then w else 0

/-- The fault-latch byte (R193). -/
def FaultLatch.bits (l : FaultLatch) : Nat :=
  bit l.planInvalid 1 + bit l.armRefused.isSome 2 + bit l.ampFault 4 + bit l.notReady 8 + bit l.txDropped 16 +
    bit l.markUncoordinated 32

/-- The cause of an ARM-REFUSED (R193): the refusal codes of R190, and 12 for AMP-FAULT. -/
def ArmCause.code : ArmCause → Nat
  | .state => 4 | .noPlan => 8 | .labelHeld => 9 | .storeFull => 7 | .ampFault => 12

/-- The ARM-REFUSED cause byte, 0 when the reason is absent (R193). -/
def FaultLatch.causeCode (l : FaultLatch) : Nat :=
  match l.armRefused with
  | some c => c.code
  | none => 0

/-- The refusal codes a request can meet (R182, R190). -/
inductive RefusalCode where
  | unknownKind | length | range | state | locked | busy | noPlan | noLabel | noReport
  deriving DecidableEq, Repr

/-- R190. -/
def RefusalCode.code : RefusalCode → Nat
  | .unknownKind => 1 | .length => 2 | .range => 3 | .state => 4 | .locked => 5 | .busy => 6 | .noPlan => 8
  | .noLabel => 10 | .noReport => 11

/-- An optional number, NONE coded 255 (R189). -/
def orNone (v : Option Nat) : Nat :=
  match v with
  | some n => n
  | none => 255

/-- R193. -/
def LinkState.code : LinkState → Nat
  | .silent => 0 | .online => 1 | .muted => 2

/-- R193. -/
def RunState.code : RunState → Nat
  | .idle => 0 | .armed => 1 | .running => 2 | .ending => 3 | .finished => 4 | .aborted => 5

/-- R190, the state byte of PLAN-ITEM. -/
def PlanState.code : PlanState → Nat
  | .empty => 0 | .editing => 1 | .checking => 2 | .valid => 3 | .invalid => 4

/-- R193. -/
def AmpState.code : AmpState → Nat
  | .absent => 0 | .standby => 1 | .warming => 2 | .ready => 3 | .faulted => 4

/-- R192, as in BREAKER records. -/
def BreakerState.code : BreakerState → Nat
  | .opening => 0 | .opened => 1 | .closing => 2 | .closed => 3

/-- R192, in the report header. -/
def GatherState.code : GatherState → Nat
  | .idle => 0 | .rolling => 1 | .sweeping => 2 | .done => 3

/-- R192, the end state of a label. -/
def EndState.code : EndState → Nat
  | .opened => 0 | .finished => 1 | .aborted => 2

/-- R190, station statuses. -/
def StationStatus.code : StationStatus → Nat
  | .notSwept => 0 | .complete => 1 | .partialRead => 2 | .timedOut => 3 | .noAnswer => 4

/-- R190, the outcome byte of GATHER-DONE and of the report header. -/
def GatherOutcome.code : GatherOutcome → Nat
  | .none => 0 | .completed => 1 | .failed _ => 2 | .failedReset => 3

/-- The halting station of a failed gather, if it has one. -/
def GatherOutcome.halting : GatherOutcome → Option Nat
  | .failed (some st) => some st.val
  | .failed Option.none | .none | .completed | .failedReset => Option.none

/-- R190, the first error of a commit check. -/
def FirstError.code : FirstError → Nat
  | .none => 0 | .noInitial _ => 1 | .danglingTarget _ _ => 2 | .breakerConflict => 3 | .termState _ _ => 4
  | .gatherSet => 5

/-- R190, the location of a first error. -/
def FirstError.location : FirstError → List Byte
  | .noInitial st => [byte st.val, 0]
  | .danglingTarget st (.slot n) => [byte st.val, byte n.val]
  | .danglingTarget st .backstop => [byte st.val, 4]
  | .termState t sideB => [byte t.val, byte (bit sideB 1)]
  | .none | .breakerConflict | .gatherSet => [0, 0]

end Sys2Proof.Machine
end

