-- ==== Sys2Proof/Machine/RecordForm.lean ====
section
/-! DEFINITION. Record forms (R192): the contents of the first and of the second part, and the common prefix. -/

namespace Sys2Proof.Machine

/-- Outcome bits of a MARK-SENT record (R192). A MARK is never answered busy (R123). -/
def FrameOutcome.markCode : FrameOutcome → Nat
  | .delivered => 0 | .unheard => 1 | .dropped => 2 | .corrupt => 3 | .busy => 1

/-- Exit cause code (R192). -/
def ExitCause.code : ExitCause → Nat
  | .timer _ => 0 | .input _ => 1 | .mark _ => 2 | .step _ => 3 | .backstop => 4 | .stop => 5 | .clockLimit => 6
  | .abort => 7

/-- The slot of an exit cause, 0 for causes 4..7 (R192). -/
def ExitCause.slotCode : ExitCause → Nat
  | .timer n | .input n | .mark n | .step n => n.val
  | .backstop | .stop | .clockLimit | .abort => 0

/-- Verdict code (R192). -/
def Verdict.code : Verdict → Nat
  | .pass => 0 | .failEarly => 1 | .failLate => 2 | .failNone => 3 | .failOperated => 4 | .chatter => 5

/-- A verdict entry's four bytes (R192). -/
def VerdictEntry.bytes (v : VerdictEntry) : List Byte :=
  byte (v.bi.val * 32 + v.verdict.code * 4 + bit v.noneFlag 2 + bit v.overRange 1) :: bytes3 v.reported

/-- The judged-input set of a verdict list, bit 0 for BI1 (R192). -/
def judgedSet (vs : List VerdictEntry) : Nat := flagBits (tabulate fun i : Fin 8 => vs.any fun v => v.bi == i)

/-- The contents of a record's first part (R192). -/
def Contents.firstPart : Contents → List Byte
  | .inputChange bi high dir edge afterLockout =>
    byte (bi.val * 32 + bit high 16 + bit (dir == .operate) 8 + bit afterLockout 4) :: bytes4 edge
  | .inputLockout bi held => [byte (bi.val * 32 + bit held 16)]
  | .inputRelease bi raw => [byte (bi.val * 32 + bit raw 16)]
  | .markSent code detection outcome instant =>
    byte (code.toNat * 4 + outcome.markCode) :: bytes4 detection ++
      (match instant with
       | some t => bytes4 t
       | none => [])
  | .markHeard origin code detection => byte origin.val :: code :: bytes4 detection
  | .breaker b cause => [byte (b.code * 64 + cause.val * 8)]
  | .evaluation st visit entry exit cause unc clipped clip vs =>
    bytes4 entry ++ bytes4 exit ++
      [byte (st.val * 8 + cause.code), byte (visit * 2 + bit unc 1), byte (cause.slotCode * 64 + flagBits clipped)] ++
      bytes2 clip ++ [byte (judgedSet vs)] ++ (vs.take 4).flatMap VerdictEntry.bytes
  | .runSummary reason visits dropped last comp =>
    [byte reason.code, byte visits] ++ bytes2 dropped ++ [byte (orNone (last.map (·.val))), byte comp]

/-- The contents of a record's second part (R192): an EVALUATION's fifth to eighth entries behind the judged-input set,
nothing for any other record. -/
def Contents.secondPart : Contents → List Byte
  | .evaluation _ _ _ _ _ _ _ _ vs =>
    if 4 < vs.length then byte (judgedSet vs) :: (vs.drop 4).flatMap VerdictEntry.bytes else []
  | _ => []

/-- The payload of a RECORD reply (R192): prefix and contents of the part asked for. -/
def recordPayload (h : HeldLabel) (r : Record) (second : Bool) : List Byte :=
  h.label :: bytes2 r.index ++ bytes2 h.count ++
    [byte (r.contents.kindCode * 32 + h.endState.code * 8 + bit second 4)] ++ bytes4 r.time ++
    (if second then r.contents.secondPart else r.contents.firstPart)

/-- The three answers to a read of a record (R159). -/
inductive ReadAnswer where
  | record (h : HeldLabel) (r : Record)
  | notYet
  | none

/-- The answer of the store to a read of a label at an index (R159). -/
def readStore (l : Label) (i : Nat) (s : State) : ReadAnswer :=
  match (findLabel s.store l).bind fun h => (if i < h.count then recordAt s.store h i else none).map fun r => (h, r) with
  | some (h, r) => .record h r
  | none => if s.engine.runLabel == some l && s.runActive then .notYet else .none

end Sys2Proof.Machine
end

