-- ==== Sys2Proof/Machine/GatherOps.lean ====
section
/-! DEFINITION. The Gather Engine (chapter 10): beginning a gather, the sweep, answers, silence, merging, the end of a
gather with the evaluation of its terms, and the report's lines. -/

namespace Sys2Proof.Machine

/-! ### Merging (R173) -/

/-- Report order: record time, then origin station, then index (R173). -/
def reportBefore (a b : ReportEntry) : Bool :=
  decide (a.time < b.time) ||
    (a.time == b.time &&
      (decide (a.origin.val < b.origin.val) || (a.origin == b.origin && decide (a.index < b.index))))

/-- An entry at its place in report order. -/
def insertEntry (e : ReportEntry) : List ReportEntry → List ReportEntry
  | [] => [e]
  | x :: xs => if reportBefore e x then e :: x :: xs else x :: insertEntry e xs

/-- A record is merged: a duplicate is passed over, a full report turns it away (R173). -/
def mergeEntry (e : ReportEntry) (r : Report) : Report :=
  if r.entries.any fun x => x.origin == e.origin && x.index == e.index then r
  else if r.entries.length < Config.reportCapacity then { r with entries := insertEntry e r.entries }
  else { r with truncated := true, dropped := satAdd Config.countLimit r.dropped 1 }

/-! ### Terms (R175, R176) -/

/-- The entry matches a selector's event (R175). The bytes are those of R192. -/
def entryMatches (ev : SelectorEvent) (e : ReportEntry) : Bool :=
  let b := byteAt e.contents 0
  match ev with
  | .stateEntry st => e.kind == 6 && byteAt e.contents 8 / 8 == st.val
  | .inputOperate bi => e.kind == 0 && b / 32 == bi.val && b / 8 % 2 == 1
  | .inputReset bi => e.kind == 0 && b / 32 == bi.val && b / 8 % 2 == 0
  | .markSent c => e.kind == 3 && b / 4 == c.toNat && decide (b % 4 ≤ 1)
  | .breakerOpen => e.kind == 5 && b / 64 == 1

/-- The time a matching entry contributes (R175). -/
def entryTime (ev : SelectorEvent) (e : ReportEntry) : Nat :=
  match ev with
  | .stateEntry _ => num4 e.contents 0
  | .inputOperate _ | .inputReset _ => num4 e.contents 1
  | .markSent _ => num4 e.contents 5
  | .breakerOpen => e.time

/-- The candidates of a selector, in report order (R175). -/
def candidates (x : Selector) (r : Report) : List ReportEntry :=
  r.entries.filter fun e => e.origin == x.station && entryMatches x.event e

/-- The time of a resolved selector, `none` for an absent one (R175). -/
def resolve (x : Selector) (r : Report) : Option Nat :=
  if r.status.get x.station == .complete then
    match x.occurrence with
    | 0 => none
    | n + 1 => (candidates x r)[n]?.map (entryTime x.event)
  else none

/-- The value of a difference in µs, in report units (R176). -/
def termValue (m : RoundingMode) (d : Int) : Int :=
  match m with
  | .nearestEven => nearestEven d 10
  | .towardZero => towardZero d 10

/-- The result of a term (R176). -/
def termResult (m : RoundingMode) (t : ReportTerm) (r : Report) : TermResult :=
  if t.enabled then
    match resolve t.selA r, resolve t.selB r with
    | some a, some b =>
      let v := termValue m ((b : Int) - (a : Int))
      if t.bandMin ≤ v ∧ v ≤ t.bandMax then .pass v else .fail v
    | a, b => .missing a.isNone b.isNone
  else .disabled

/-! ### The end of a gather (R174) -/

/-- The payload of a GATHER-DONE (R190). -/
def gatherDonePayload (l : Label) (r : Report) : List Byte :=
  [l, byte r.outcome.code, byte (orNone r.outcome.halting)] ++
    packBits 6 (r.status.toList.flatMap fun x => bitsOf 3 x.code) ++ bytes2 r.entries.length ++ [byte (bit r.truncated 1)]

/-- Queue a GATHER-DONE to a requester (R174, R180). -/
def sendGatherDone (l : Label) (requester : Option (StationNo × Byte)) (s : State) : State :=
  match requester with
  | some (st, tag) =>
    place
      { dest := some st, tag := tag, body := .reply 24 (gatherDonePayload l s.gather.report), owner := .gatherEngine }
      false s
  | none => s

/-- A gather completes or fails (R174): terms evaluated, outcome set, cursor discarded, GATHER-DONE queued. -/
def endGather (c : Cursor) (o : GatherOutcome) (s : State) : State :=
  let m := s.header.rounding
  let terms := s.plan.items.terms
  let s := s.modGather fun g =>
    { g with
      state := .done
      cursor := none
      report :=
        { g.report with
          terms := tabulate fun t => termResult m (terms.get t) g.report
          rounding := m
          outcome := o } }
  sendGatherDone c.label c.requester s

/-! ### The sweep (R168 to R172) -/

/-- The lowest-numbered station of a set at or above a number. -/
def nextStation (set : Vector Bool 16) (low : Nat) : Option StationNo :=
  (List.finRange 16).find? fun i => set.get i && decide (low ≤ i.val)

/-- The cursor at the next station, index 0. -/
def Cursor.moveOn (c : Cursor) : Cursor :=
  { c with
    station := match c.station with
      | some st => nextStation c.sweepSet (st.val + 1)
      | none => none
    index := 0
    notYetSince := none
    readTag := none
    deadline := none
    repeatAt := none }

/-- The cursor at the first station of a sweep set. -/
def Cursor.begin (c : Cursor) (set : Vector Bool 16) : Cursor :=
  { c with
    sweepSet := set
    station := nextStation set 0
    index := 0
    notYetSince := none
    readTag := none
    deadline := none
    repeatAt := none }

/-- The cursor's station is closed with a status, and the sweep moves on. -/
def closeStation (st : StationNo) (x : StationStatus) (c : Cursor) (s : State) : State :=
  s.modGather fun g =>
    { g with cursor := some c.moveOn, report := { g.report with status := setAt g.report.status st x } }

/-- An answer to a read (R170): a record's first part, NONE, or NOT-YET. -/
inductive SweepAnswer where
  | record (kind : Nat) (time : Instant) (contents : List Byte)
  | none
  | notYet
  deriving DecidableEq, Repr

/-- A RECORD: merged, counted as taken, and the next index follows (R170). -/
def takeRecord (st : StationNo) (kind : Nat) (time : Instant) (contents : List Byte) (c : Cursor) (s : State) : State :=
  s.modGather fun g =>
    let r := mergeEntry { origin := st, index := c.index, kind := kind, time := time, contents := contents } g.report
    { g with
      cursor := some
        { c with index := c.index + 1, notYetSince := none, readTag := none, deadline := none, repeatAt := none }
      report := { r with taken := modAt r.taken st (· + 1) } }

/-- A NOT-YET (R170, R171). -/
def takeNotYet (st : StationNo) (c : Cursor) (s : State) : State :=
  if c.waitPending then
    let began := c.notYetSince.getD s.gather.count
    if began + Config.notYetLimit ≤ s.gather.count then closeStation st .timedOut c s
    else s.modGather fun g =>
      { g with
        cursor := some
          { c with
            notYetSince := some began
            readTag := none
            deadline := none
            repeatAt := some (g.count + Config.repeatInterval) } }
  else closeStation st .partialRead c s

/-- An answer acts on the station being swept (R170). -/
def takeAnswer (st : StationNo) (a : SweepAnswer) (c : Cursor) (s : State) : State :=
  match a with
  | .record kind time contents => takeRecord st kind time contents c s
  | .none => closeStation st .complete c s
  | .notYet => takeNotYet st c s

/-- The answer of the own store to the cursor's read (R168). -/
def ownAnswer (c : Cursor) (s : State) : SweepAnswer :=
  match readStore c.label c.index s with
  | .record _ r => .record r.contents.kindCode r.time r.contents.firstPart
  | .notYet => .notYet
  | .none => .none

/-- Queue a RECORD-READ and register it as outstanding (R128, R169). -/
def remoteRead (st : StationNo) (c : Cursor) (s : State) : State :=
  let tag := s.gather.tagCounter
  let s := s.modGather fun g =>
    { g with tagCounter := tag + 1, cursor := some { c with readTag := some tag, deadline := none, repeatAt := none } }
  let s := s.modLink fun l => { l with outstanding := some { station := st, tag := tag } }
  place { dest := some st, tag := tag, body := .recordRead c.label c.index, owner := .gatherEngine } false s

/-- The sweep goes on at this instant (R168): own reads follow one another, a read of another station is queued, and
with no station left the gather completes. `n` bounds the own reads of one instant. -/
def sweepOn : Nat → State → State
  | 0, s => s
  | n + 1, s =>
    match s.gather.cursor with
    | none => s
    | some c =>
      match c.station with
      | none => endGather c .completed s
      | some st =>
        if c.repeatAt.isSome then s
        else if st = s.own then sweepOn n (takeAnswer st (ownAnswer c s) c s)
        else remoteRead st c s

/-- More own reads than one instant can hold: 768 records, the last NONE, and the move to the next station. -/
def sweepFuel : Nat := 1024

/-- The Gather Engine clears its registration (R128). -/
def clearOutstanding (s : State) : State := s.modLink fun l => { l with outstanding := none }

/-- The engine's read is silent (R172): NO-ANSWER, and the sweep moves on or fails. -/
def readSilent (s : State) : State :=
  match s.gather.cursor with
  | none => s
  | some c =>
    match c.station with
    | none => s
    | some st =>
      let s := closeStation st .noAnswer c (clearOutstanding s)
      if c.haltSilence then endGather c (.failed (some st)) s else sweepOn sweepFuel s

/-- The outstanding read is the one of this frame (R128). -/
def isOutstanding (dest : Option StationNo) (tag : Byte) (s : State) : Bool :=
  match s.link.outstanding with
  | some o => dest == some o.station && o.tag == tag
  | none => false

/-- The outcome of a RECORD-READ (R169): a DELIVERED one sets the reply deadline, any other is silence. A frame that is
not the outstanding read has no reader any more. -/
def readOutcome (dest : Option StationNo) (tag : Byte) (o : FrameOutcome) (s : State) : State :=
  if isOutstanding dest tag s then
    if o == .delivered then
      s.modGather fun g =>
        { g with cursor := g.cursor.map fun c => { c with deadline := some (g.count + Config.replyWait) } }
    else readSilent s
  else s

/-- The answer a reply gives to the cursor's read, `none` for a silent one (R169, R170, R172). -/
def replyAnswer (c : Cursor) (r : Reply) : Option SweepAnswer :=
  if r.kind = 21 then
    if 10 ≤ r.payload.length ∧ byteAt r.payload 0 = c.label.toNat ∧ num2 r.payload 1 = c.index then
      some (.record (byteAt r.payload 5 / 32) (num4 r.payload 6) (r.payload.drop 10))
    else none
  else if r.kind = 22 then some .none
  else if r.kind = 23 then some .notYet
  else none

/-- A reply in the reply slot is taken (R169, R170). -/
def takeReply (r : Reply) (s : State) : State :=
  match s.gather.cursor with
  | none => s
  | some c =>
    match c.station with
    | none => s
    | some st =>
      match replyAnswer c r with
      | some a => sweepOn sweepFuel (takeAnswer st a c s)
      | none => readSilent s

/-- An accepted reply (R128): the answer to the outstanding read is placed in the reply slot and handed over at that
instant, and the registration is cleared; any other is discarded. -/
def replyAccepted (r : Reply) (s : State) : State :=
  if isOutstanding (some r.origin) r.tag s then takeReply r (clearOutstanding s) else s

/-- The reply deadline has come (R169). -/
def replyDeadlineDue (s : State) : Bool :=
  match s.gather.cursor with
  | some c =>
    match c.deadline with
    | some x => decide (x ≤ s.gather.count)
    | none => false
  | none => false

/-- The repeat instant has come (R171). -/
def repeatDue (s : State) : Bool :=
  match s.gather.cursor with
  | some c =>
    match c.repeatAt with
    | some x => decide (x ≤ s.gather.count)
    | none => false
  | none => false

/-- The read of the same index is repeated (R171). -/
def takeRepeat (s : State) : State :=
  sweepOn sweepFuel (s.modGather fun g => { g with cursor := g.cursor.map fun c => { c with repeatAt := none } })

/-! ### Beginning a gather (R165 to R167, R177) -/

/-- How the sweep set is given (R165). -/
inductive Sweep where
  | one (st : StationNo)
  | set (v : Vector Bool 16)
  | roll
  deriving DecidableEq, Repr

/-- A GATHER request's fields (R165). -/
structure GatherRequest where
  label : Label
  sweep : Sweep
  waitPending : Bool
  haltSilence : Bool
  merge : Bool
  deriving DecidableEq, Repr

/-- The stations of a set are NOT-SWEPT with 0 records taken (R166). -/
def resetStations (v : Vector Bool 16) (r : Report) : Report :=
  { r with
    status := tabulate fun i => if v.get i then .notSwept else r.status.get i
    taken := tabulate fun i => if v.get i then 0 else r.taken.get i }

/-- The report prepared for a gather (R166). -/
def prepareReport (q : GatherRequest) (r : Report) : Report :=
  let r :=
    if q.merge && r.label.isSome then
      match q.sweep with
      | .one st => resetStations (setAt (Vector.replicate 16 false) st true) r
      | .set v => resetStations v r
      | .roll => r
    else
      { r with
        label := some q.label
        entries := []
        truncated := false
        dropped := 0
        status := Vector.replicate 16 .notSwept
        taken := Vector.replicate 16 0 }
  { r with terms := Vector.replicate 12 .notEvaluated, outcome := .none }

/-- The fresh cursor of a gather. -/
def GatherRequest.cursor (q : GatherRequest) (requester : Option (StationNo × Byte)) : Cursor where
  label := q.label
  sweepSet := Vector.replicate 16 false
  waitPending := q.waitPending
  haltSilence := q.haltSilence
  merge := q.merge
  requester := requester
  station := none
  index := 0
  notYetSince := none
  readTag := none
  deadline := none
  repeatAt := none

/-- The sweep of a known set begins (R166, R168). -/
def beginSweep (set : Vector Bool 16) (c : Cursor) (s : State) : State :=
  sweepOn sweepFuel (s.modGather fun g => { g with state := .sweeping, cursor := some (c.begin set) })

/-- A gather begins (R166). The DONE roll-call of a ROLL is queued by the Coordination Unit (R141). -/
def beginGather (q : GatherRequest) (requester : Option (StationNo × Byte)) (s : State) : State :=
  let s := s.modGather fun g => { g with report := prepareReport q g.report }
  let c := q.cursor requester
  match q.sweep with
  | .one st => beginSweep (setAt (Vector.replicate 16 false) st true) c s
  | .set v => beginSweep v c s
  | .roll =>
    place { dest := none, tag := 0, body := .rollcall .done, owner := .coordination } false
      ((s.modGather fun g => { g with state := .rolling, cursor := some c }).modCoord fun u =>
        { u with gatherRoll := some s.link.nextAge })

/-- The DONE roll-call's map (R167). -/
def gatherMap (answers : BitVec 16) (s : State) : State :=
  let s := s.modCoord fun u => { u with gatherRoll := none }
  match s.gather.cursor with
  | some c =>
    let set : Vector Bool 16 := tabulate fun i => answers.getLsbD i.val
    let s := if c.merge then s.modGather fun g => { g with report := resetStations set g.report } else s
    beginSweep set c s
  | none => s

/-- The DONE roll-call ended DROPPED or CORRUPT (R167). -/
def gatherRollLost (s : State) : State :=
  let s := s.modCoord fun u => { u with gatherRoll := none }
  match s.gather.cursor with
  | some c => endGather c (.failed none) s
  | none => s

/-- The engine is busy (R164). -/
def gatherBusy (s : State) : Bool := s.gather.state == .rolling || s.gather.state == .sweeping

/-- The gather-on-finish instant has come (R177). -/
def onFinishDue (s : State) : Bool :=
  match s.gather.onFinish with
  | some (t, _) => decide (t ≤ s.gather.count)
  | none => false

/-- The gather-on-finish instant (R177). -/
def takeOnFinish (s : State) : State :=
  match s.gather.onFinish with
  | some (_, l) =>
    let s := s.modGather fun g => { g with onFinish := none }
    if s.header.gatherStation == some s.own && !gatherBusy s then
      beginGather { label := l, sweep := .set s.header.gatherSet, waitPending := true, haltSilence := false, merge := false }
        none s
    else s
  | none => s

/-- The station being swept had given at least one answer (R180). -/
def Cursor.answered (c : Cursor) : Bool := decide (0 < c.index) || c.notYetSince.isSome

/-- A station reset at the Gather Engine (R180), its GATHER-DONE excepted. -/
def gatherReset (s : State) : State :=
  let s := s.modGather fun g => { g with onFinish := none }
  match s.gather.cursor with
  | none => s
  | some c =>
    ((clearOutstanding s).modCoord fun u => { u with gatherRoll := none }).modGather fun g =>
      { g with
        state := .done
        cursor := none
        report :=
          { g.report with
            outcome := .failedReset
            status := match c.station with
              | some st => if c.answered then setAt g.report.status st .partialRead else g.report.status
              | none => g.report.status } }

/-! ### The report's lines (R178, R192) -/

/-- Result code, absent side and value of a term (R192). The value bytes of a DISABLED and of a NOT-EVALUATED term are 0:
the manual names no filler (log entry 39, DESIGN CHOICE). -/
def TermResult.bytes : TermResult → List Byte
  | .disabled => [0, 0] ++ sbytes4 0
  | .notEvaluated => [1, 0] ++ sbytes4 0
  | .pass v => [2, 0] ++ sbytes4 v
  | .fail v => [3, 0] ++ sbytes4 v
  | .missing a b => [4, byte (bit a 1 + bit b 2)] ++ sbytes4 Config.indefinite

/-- The header line's fields (R192). -/
def reportHeader (g : GatherEngine) : List Byte :=
  let r := g.report
  [r.label.getD 0, byte g.state.code, byte r.outcome.code, byte (orNone r.outcome.halting)] ++
    packBits 6 (r.status.toList.flatMap fun x => bitsOf 3 x.code) ++
    packBits 20 (r.taken.toList.flatMap fun n => bitsOf 10 n) ++ bytes2 r.entries.length ++
    [byte (bit r.truncated 1 + bit (r.rounding == .towardZero) 2)] ++ bytes2 r.dropped

/-- The fields of an entry line (R192). -/
def ReportEntry.bytes (e : ReportEntry) : List Byte :=
  byte e.origin.val :: bytes2 e.index ++ [byte (e.kind * 32)] ++ bytes4 e.time ++ e.contents

/-- The payload of a REPORT-LINE (R178, R192). -/
def reportLine (position : Nat) (g : GatherEngine) : List Byte :=
  bytes2 position ++
    (if position = 0 then reportHeader g
     else if h : position - 1 < 12 then (g.report.terms.get ⟨position - 1, h⟩).bytes
     else match g.report.entries[position - 13]? with
       | some e => e.bytes
       | none => 255 :: bytes2 g.report.entries.length)

end Sys2Proof.Machine
end

