-- ==== Sys2Proof/Machine/Notices.lean ====
section
/-! DEFINITION. Outcomes of frames without a frame instant reaching their owners (R118, R123, R125), and muting (R130).
Every command ends by settling the notices its placements raised. -/

namespace Sys2Proof.Machine

/-- A frame ended DROPPED or CORRUPT, and its owner acts (R53, R142, R143, R145, R167, R169). -/
def react (e : TxEntry) (o : FrameOutcome) (s : State) : State :=
  match e.frame.body with
  | .mark l c d => markOutcome e.age l c d o s
  | .start _ => if s.coord.ownStart == some e.age then pollerStartLost s else s
  | .rollcall _ =>
    if s.coord.ownRoll == some e.age then s.modCoord fun c => { c with ownRoll := none }
    else if s.coord.gatherRoll == some e.age then gatherRollLost s
    else s
  | .recordRead _ _ => readOutcome e.frame.dest e.frame.tag o s
  | .abort _ _ | .reply _ _ => s

/-- Tell the owners, one notice at a time, at most `n` of them; a notice may raise further ones. -/
def settleFor : Nat → State → State
  | 0, s => s.modLink fun l => { l with notices := [] }
  | n + 1, s =>
    match s.link.notices with
    | [] => s
    | x :: rest => settleFor n (react x.entry x.outcome (s.modLink fun l => { l with notices := rest }))

/-- More notices than one command can raise: the 8 entries of a full queue, the reads of 16 stations, and the frames a
command itself places. -/
def settleFuel : Nat := 64

/-- Every owner has been told. -/
def settle (s : State) : State := settleFor settleFuel s

/-- The outstanding read of the Gather Engine ends and is silent (R172, R179), also one whose frame has left the queue
DELIVERED and awaits its reply. That frame has had its outcome, so it is not counted as a drop and latches nothing (log
entry 47, DESIGN CHOICE). -/
def endOutstanding (s : State) : State := if s.link.outstanding.isSome then settle (readSilent s) else s

/-- The queue is emptied and each owner told DROPPED, the head's first, and the outstanding read ends behind them (R130,
R179). R130 and R152 give no order among the owners: it sets the indices of several MARK-SENT records (log entry 45,
DESIGN CHOICE). -/
def dropAll (s : State) : State :=
  let q := s.link.tx
  endOutstanding (settle (q.foldl (fun s e => dropEntry e s) (s.modLink fun l => { l with tx := [] })))

/-- The station mutes itself (R130). A MARK that the abort places is refused and told behind the RUN-SUMMARY (log entry
46, DESIGN CHOICE). -/
def mute (s : State) : State :=
  settle (abortRun .muted (dropAll (s.modLink fun l => { l with state := .muted })))

end Sys2Proof.Machine
end

