-- ==== Sys2Proof/Machine/GatherCmds.lean ====
section
/-! DEFINITION. The poller's and the Gather Engine's instants: POLL_INSTANT, GATHER_REPLY_DEADLINE,
GATHER_REPEAT_INSTANT, GATHER_ON_FINISH. -/

namespace Sys2Proof.Machine

/-- POLL_INSTANT (R142). -/
def execPollInstant (s : State) : Host.Outcome State Fault Refusal := .next (if pollDue s then settle (pollNow s) else s)

/-- GATHER_REPLY_DEADLINE (R169, R172). -/
def execGatherReplyDeadline (s : State) : Host.Outcome State Fault Refusal :=
  .next (if replyDeadlineDue s then settle (readSilent s) else s)

/-- GATHER_REPEAT_INSTANT (R171). -/
def execGatherRepeatInstant (s : State) : Host.Outcome State Fault Refusal :=
  .next (if repeatDue s then settle (takeRepeat s) else s)

/-- GATHER_ON_FINISH (R177). -/
def execGatherOnFinish (s : State) : Host.Outcome State Fault Refusal :=
  .next (if onFinishDue s then settle (takeOnFinish s) else s)

end Sys2Proof.Machine
end

