-- ==== Sys2Proof/Machine/Operands.lean ====
section
/-! DEFINITION. What a received frame says: its acceptance (R119), its group payload (R132) and its request or reply
fields. -/

namespace Sys2Proof.Machine

/-- The check is good (R115). -/
def checkGood (f : RxFrame) : Bool := crc16 (frameBits f) == f.check

/-- The destination matches the station (R119, R189): its own number, its own group, or ALL. -/
def destinationMatches (st : Straps) (f : RxFrame) : Bool :=
  match f.destForm.toNat with
  | 0 => f.destNumber.toNat == st.station.val
  | 1 => f.destNumber.toNat == st.group.val
  | 2 => true
  | _ => false

/-- The destination form is one the kind allows (R116, R119): GROUP or ALL for the group frames, STATION for replies,
requests and unknown kinds. -/
def formAllowed (f : RxFrame) : Bool :=
  if isGroupKind f.kind.toNat then f.destForm.toNat == 1 || f.destForm.toNat == 2 else f.destForm.toNat == 0

/-- The station accepts the frame (R119). -/
def accepts (st : Straps) (f : RxFrame) : Bool :=
  checkGood f && decide (f.length.toNat ≤ 40) && f.payload.length == f.length.toNat && destinationMatches st f &&
    formAllowed f

/-- A label that names a run: 1..254 (R132). -/
def labelOk (l : Label) : Bool := l != 0 && l != 255

/-- A mark code 1..63 (R132). -/
def markOk (c : Byte) : Bool := decide (1 ≤ c.toNat ∧ c.toNat ≤ 63)

/-- The label of a one-byte group payload (ARM, DISARM, START, STOP, STEP), unless it is to be ignored (R132, R190). -/
def labelPayload (p : List Byte) : Option Label :=
  match p with
  | [l] => if labelOk l then some l else none
  | _ => none

/-- The label of an ABORT; its reason byte is not judged (R132). -/
def abortPayload (p : List Byte) : Option Label :=
  match p with
  | [l, _] => if labelOk l then some l else none
  | _ => none

/-- A MARK's label, code and detection time; the time is not judged (R132). -/
def markPayload (p : List Byte) : Option (Label × Byte × Instant) :=
  match p with
  | [l, c, _, _, _, _] => if labelOk l && markOk c then some (l, c, num4 p 2) else none
  | _ => none

/-- The class of a ROLLCALL (R132, R190). -/
def rollPayload (p : List Byte) : Option RollClass :=
  match p with
  | [c] =>
    if c.toNat = 1 then some .ready else if c.toNat = 2 then some .done else if c.toNat = 3 then some .fault else none
  | _ => none

/-- The request a frame carries (R127). -/
def requestOf (f : RxFrame) (instant : Instant) : Request :=
  { origin := f.origin, tag := f.tag, kind := f.kind.toNat, payload := f.payload, instant := instant }

end Sys2Proof.Machine
end

