-- ==== Sys2Proof/Machine/LinkOps.lean ====
section
/-! DEFINITION. The Link Interface (chapter 7): receiving and answering, the outcomes of the part's own frames, coming
ONLINE, and the request queue with the taking of requests (R181). -/

namespace Sys2Proof.Machine

/-! ### The request queue -/

/-- The next request is taken when the service is IDLE (R181). -/
def takeNext (s : State) : State :=
  match s.status.service, s.link.requests with
  | .idle, r :: rest =>
    (s.modLink fun l => { l with requests := rest }).modStatus fun u =>
      { u with service := .taken r s.clock.elapsed, served := satAdd Config.countLimit u.served 1 }
  | _, _ => s

/-- What R120 and R121 judge, as it stands now. -/
def checkView (s : State) : CheckView where
  room := decide (s.link.requests.length < Config.requestCapacity)
  ready := rollCondition .ready s
  done := rollCondition .done s
  fault := rollCondition .fault s

/-- The view `n` µs before now, behind every event of that instant (log entry 9). Where the part has not been out of
reset for so long no check field can have ended then, and the state is judged as it stands. -/
def viewBefore (n : Nat) (s : State) : CheckView := s.past.getD (n - 1) (checkView s)

/-- The microsecond that ends is remembered, of the last 18. -/
def remember (s : State) : State := s.withPast ((checkView s :: s.past).take Config.rollcallSlots)

/-- The request queue has room for a request that is at its frame instant (R120): it had room at the end of the check
field, two bit-times ago, and still has it. -/
def requestRoom (s : State) : Bool := (viewBefore Config.requestSlots s).room && (checkView s).room

/-- An accepted request enters the queue, or is turned away and counted (R120, R127, R185). -/
def requestArrives (f : RxFrame) (s : State) : State :=
  if requestRoom s then takeNext (s.modLink fun l => { l with requests := l.requests ++ [requestOf f s.now] })
  else s.modStatus fun u => { u with turnedAway := satAdd Config.countLimit u.turnedAway 1 }

/-! ### Receiving (R119, R120, R121, R130) -/

/-- The station's roll-call bit for a frame's class, where it names one: its condition at the end of the check field,
18 bit-times before the frame instant (R121, R140). -/
def rollBitFor (f : RxFrame) (s : State) : Bool :=
  f.kind.toNat == 8 &&
    (match rollPayload f.payload with
     | some cls => (viewBefore Config.rollcallSlots s).condition cls
     | none => false)

/-- What an accepting station drives in the slots (R120, R121): nothing unless it is ONLINE, and nothing for a frame
that carries its own number. -/
def slotsFor (f : RxFrame) (s : State) : SlotDrive :=
  if s.link.state == .online && f.origin != s.own then
    if isGroupKind f.kind.toNat then { ack := true, busy := false, rollBit := rollBitFor f s }
    else if isReplyKind f.kind.toNat then { ack := true, busy := false, rollBit := false }
    else { ack := requestRoom s, busy := !requestRoom s, rollBit := false }
  else { ack := false, busy := false, rollBit := false }

/-- A frame of the station's own number that it did not send mutes it (R130). -/
def muteIfDuplicate (f : RxFrame) (s : State) : State :=
  if f.origin == s.own && s.link.state != .muted then mute s else s

/-- A frame is received (R119): one that stops at its length field stops reception, one that is not accepted leaves the
station as it was, and an accepted one mutes the station where R130 says so, is answered in the slots, and is taken. -/
def receive (f : RxFrame) (act : State → State) (s : State) : State :=
  if s.link.resync then s
  else if 40 < f.length.toNat then s.modLink fun l => { l with resync := true }
  else if accepts s.link.straps f then
    let s := muteIfDuplicate f s
    settle (act (s.modLink fun l => { l with drive := slotsFor f s }))
  else s

/-- A group frame of a kind whose payload is read by `g` (R132): ignored where `g` finds none. -/
def receiveGroup {α : Type} (kind : Nat) (g : List Byte → Option α) (act : α → State → State) (f : RxFrame) (s : State) :
    State :=
  receive f (fun s => if f.kind.toNat = kind then
      match g f.payload with
      | some x => act x s
      | none => s
    else s) s

/-! ### The outcomes of the part's own frames (R122, R123) -/

/-- The outcome the sender reads in the slots (R123): busy is read for requests alone. -/
def outcomeOf (b : FrameBody) (ack busy : Bool) : FrameOutcome :=
  let busy := match b with
    | .recordRead _ _ => busy
    | .abort _ _ | .mark _ _ _ | .start _ | .rollcall _ | .reply _ _ => false
  if busy then .busy else if ack then .delivered else .unheard

/-- The sender's own roll-call bit, by its condition at the end of the check field (R121). -/
def ownRollBit (b : FrameBody) (s : State) : Bool :=
  match b with
  | .rollcall cls => (viewBefore Config.rollcallSlots s).condition cls
  | .abort _ _ | .mark _ _ _ | .start _ | .recordRead _ _ | .reply _ _ => false

/-- The roll-call map a station reads, the sender or a receiver: the answers of the others and its own bit (R121). -/
def mapRead (answers : BitVec 16) (ownBit : Bool) (s : State) : BitVec 16 :=
  if ownBit then answers ||| BitVec.ofNat 16 (2 ^ s.own.val) else answers

/-- A frame of the part's own has come to its frame instant: its owner learns the outcome, and a group frame is taken by
the station's own Coordination Unit (R122, R134, R141, R143, R145, R148, R169). -/
def frameEnded (e : TxEntry) (o : FrameOutcome) (answers : BitVec 16) (s : State) : State :=
  match e.frame.body with
  | .mark l c d =>
    let s := markOutcome e.age l c d o s
    if s.engine.runLabel == some l then engineMark s.own c s else s
  | .start l =>
    let s := engineStart l s
    if s.coord.ownStart == some e.age then pollerOff s else s
  | .abort l _ => enginePeerAbort l s
  | .rollcall _ =>
    if s.coord.ownRoll == some e.age then pollerMap answers s
    else if s.coord.gatherRoll == some e.age then gatherMap answers s
    else s
  | .recordRead _ _ => readOutcome e.frame.dest e.frame.tag o s
  | .reply _ _ => s

/-- The frame instant of the frame on the wire (R122, R123). -/
def takeFrameOutcome (ack busy : Bool) (answers : BitVec 16) (s : State) : State :=
  match onWireEntry s.link.tx with
  | none => s
  | some e =>
    let own := ownRollBit e.frame.body s
    let s := (removeEntry e.age s).modLink fun l => { l with drive := { ack := false, busy := false, rollBit := own } }
    settle (frameEnded e (outcomeOf e.frame.body ack busy) (mapRead answers own s) s)

/-- The frame on the wire is corrupt (R118). -/
def takeFrameCorrupt (s : State) : State :=
  match onWireEntry s.link.tx with
  | none => s
  | some e => settle (react e .corrupt (removeEntry e.age s))

/-! ### Idle, ONLINE and resynchronization -/

/-- A SILENT station has read 2,000 recessive bit-times: it is ONLINE, the cable is idle for it, and its head contends
(R114, R129). -/
def comeOnline (rivals : List (BitVec 7)) (s : State) : State :=
  if s.link.state == .silent then contend rivals (s.modLink fun l => { l with state := .online, resync := false }) else s

/-- A station stopped at an over-long length field has read 2,000 recessive bit-times: the cable is idle for it (R114,
R119). -/
def resynchronize (rivals : List (BitVec 7)) (s : State) : State :=
  if s.link.resync then contend rivals (s.modLink fun l => { l with resync := false }) else s

end Sys2Proof.Machine
end

