-- ==== Sys2Proof/Machine/GroupCmds.lean ====
section
/-! DEFINITION. Group frames of other stations at their frame instants (chapter 8): ARM, DISARM, START, STOP, STEP,
ABORT, MARK, ROLLCALL. -/

namespace Sys2Proof.Machine

/-- ARM (R136, R137). -/
def execArm (f : RxFrame) (s : State) : Host.Outcome State Fault Refusal :=
  .next (receiveGroup 6 labelPayload coordArm f s)

/-- DISARM (R138). -/
def execDisarm (f : RxFrame) (s : State) : Host.Outcome State Fault Refusal :=
  .next (receiveGroup 7 labelPayload coordDisarm f s)

/-- START (R134). -/
def execStart (f : RxFrame) (s : State) : Host.Outcome State Fault Refusal :=
  .next (receiveGroup 3 labelPayload engineStart f s)

/-- STOP (R58, R147). -/
def execStop (f : RxFrame) (s : State) : Host.Outcome State Fault Refusal :=
  .next (receiveGroup 4 labelPayload coordStop f s)

/-- STEP (R49, R147). -/
def execStep (f : RxFrame) (s : State) : Host.Outcome State Fault Refusal :=
  .next (receiveGroup 5 labelPayload coordStep f s)

/-- ABORT (R61, R148). -/
def execAbort (f : RxFrame) (s : State) : Host.Outcome State Fault Refusal :=
  .next (receiveGroup 1 abortPayload enginePeerAbort f s)

/-- MARK (R146). -/
def execMark (f : RxFrame) (s : State) : Host.Outcome State Fault Refusal :=
  .next (receiveGroup 2 markPayload (fun m => coordMark f.origin m.1 m.2.1 m.2.2) f s)

/-- The class and the map of another station's ROLLCALL, handed to the Coordination Unit (R121): it is handed to neither
requester and not kept (R141). -/
def coordRollMap (_cls : RollClass) (_map : BitVec 16) (s : State) : State := s

/-- ROLLCALL: the station answers in the field and reads the map from it (R121, R140, R141). -/
def execRollcall (f : RxFrame) (s : State) : Host.Outcome State Fault Refusal :=
  .next (receiveGroup 8 rollPayload (fun cls s => coordRollMap cls (mapRead f.roll s.link.drive.rollBit s) s) f s)

end Sys2Proof.Machine
end

