-- ==== Sys2Proof/Machine/InputOps.lean ====
section
/-! DEFINITION. The Input Conditioner (chapter 4): raw transitions, acceptance, the chatter test, lockout and release,
delivery to the four receivers, and changes of setup. -/

namespace Sys2Proof.Machine

/-- The direction of a change to a level (R70). -/
def directionOf (u : InputSetup) (level : Bool) : Direction := if level == u.activeHigh then .operate else .reset

/-- The debounce deadline of a candidate (R67). -/
def debounceDeadlineOf (u : InputSetup) (t : Nat) : Nat := t + u.debounce * 100

/-- How many edges of a history lie in the chatter window that ends at an acceptance (R72). -/
def edgesInWindow (u : InputSetup) (acceptance : Nat) (history : List Nat) : Nat :=
  history.countP fun t => decide (acceptance < t + u.chatterWindow * 1000 ∧ t ≤ acceptance)

/-- The chatter test (R72). -/
def chatterTest (u : InputSetup) (acceptance : Nat) (history : List Nat) : Bool :=
  decide (3 ≤ u.chatterLimit ∧ u.chatterLimit < edgesInWindow u acceptance history)

/-- A history of 16 loses its oldest entry (R71). -/
def trimHistory (h : List Nat) : List Nat := if 15 < h.length then h.drop 1 else h

/-- An accepted operate at the evaluator and at the first-operate marks (R55, R104, R105). One accepted at a boundary
after the visit's entry is held until it is known whether the visit exits there. -/
def takeOperate (i : InputNo) (edge : Instant) (s : State) : State :=
  match s.engine.visit with
  | some v =>
    if v.entry < s.now ∧ s.now % Config.samplePeriod = 0 then
      let s' := if edge < s.now then attributeEdge i edge s else s
      s'.modEngine fun g =>
        { g with held := g.held ++ [{ bi := i, edge := if edge < s.now then none else some edge }] }
    else firstOperateMark i (attributeEdge i edge s)
  | none => attributeEdge i edge s

/-- An accepted change is delivered to the store, the evaluator with the first-operate marks, and the breaker (R75). The
choice of exit receives it last, behind the INPUT-LOCKOUT it brings on (`acceptChange`; log entry 15). -/
def deliverChange (i : InputNo) (t : Nat) (afterLockout : Bool) (s : State) : State :=
  let level := (s.input i).accepted
  let dir := directionOf (s.inputSetup i) level
  let edge := edgeTime t s
  let s := storeRunEvent (.inputChange i level dir edge afterLockout) s
  let s := match dir with
    | .operate => takeOperate i edge s
    | .reset => s
  breakerTakes i dir s

/-- An INPUT-LOCKOUT is delivered to the store and the evaluator, which have a use for it (R75, R107). -/
def deliverLockout (i : InputNo) (level : Bool) (s : State) : State :=
  lockoutSeen i (storeRunEvent (.inputLockout i level) s)

/-- A change whose first transition was at `t` is accepted now (R69, R71, R72). Its level is the one the accepted level
is not. The change, and then the INPUT-LOCKOUT it brings on, reach the store, the evaluator and the breaker before the
engine judges the change: an exit due at this boundary on an earlier decision is carried out behind both, so that a run
that ends there holds both records (R153; log entry 15). -/
def acceptChange (i : InputNo) (t : Nat) (afterLockout : Bool) (s : State) : State :=
  let u := s.inputSetup i
  let x := s.input i
  let history := x.history ++ [t]
  let locks := chatterTest u s.cond.count history
  let s := s.modInput i fun x =>
    { x with
      accepted := !x.accepted
      candidate := none
      history := trimHistory history
      lockout :=
        if locks then
          some
            { held := !x.accepted, lastRaw := s.cond.count, release := s.cond.count + u.quietGap * 1000,
              began := s.cond.count }
        else none }
  let s := deliverChange i t afterLockout s
  let s := if locks then deliverLockout i (!x.accepted) s else s
  engineChange i (directionOf u (!x.accepted)) s

/-- A LOCKED-OUT input is released now (R74). -/
def releaseInput (i : InputNo) (s : State) : State :=
  let x := s.input i
  let s := s.modInput i fun x => { x with lockout := none, history := [] }
  let s := releaseSeen i (storeRunEvent (.inputRelease i x.raw) s)
  if x.raw == x.accepted then s else acceptChange i s.cond.count true s

/-- The first-transition time of a candidate whose debounce deadline has come (R69). -/
def dueCandidate (i : InputNo) (s : State) : Option Nat :=
  let x := s.input i
  match x.lockout, x.candidate with
  | none, some t => if debounceDeadlineOf (s.inputSetup i) t ≤ s.cond.count then some t else none
  | _, _ => none

/-- The release deadline of a LOCKED-OUT input has come (R74). -/
def releaseDue (i : InputNo) (s : State) : Bool :=
  match (s.input i).lockout with
  | some k => decide (k.release ≤ s.cond.count)
  | none => false

/-- A candidate whose deadline has come is accepted (R69). -/
def settleCandidate (i : InputNo) (s : State) : State :=
  match dueCandidate i s with
  | some t => acceptChange i t false s
  | none => s

/-- An input whose release deadline has come is released (R74). -/
def settleRelease (i : InputNo) (s : State) : State := if releaseDue i s then releaseInput i s else s

/-- What is due at an input at this instant is taken: its acceptance, or its release. -/
def settleInput (i : InputNo) (s : State) : State := settleRelease i (settleCandidate i s)

/-- What a raw transition does to an input that has taken what was due (R67, R68, R73). -/
def observeTransition (u : InputSetup) (count : Nat) (x : InputState) : InputState :=
  let raw := !x.raw
  match x.lockout, x.candidate with
  | some k, _ =>
    { x with raw := raw, lockout := some { k with lastRaw := count, release := count + u.quietGap * 1000 } }
  | none, some _ => { x with raw := raw, candidate := none }
  | none, none => { x with raw := raw, candidate := if raw == x.accepted then none else some count }

/-- A raw transition at an input: a deadline of the same instant is taken first (R69, R74); with debounce 0 the new
candidate is accepted at once (R67). -/
def rawTransition (i : InputNo) (s : State) : State :=
  let s := settleInput i s
  settleCandidate i (s.modInput i (observeTransition (s.inputSetup i) s.cond.count))

/-- A stored INPUT-SETUP takes effect on its input (R76). -/
def applySetup (i : InputNo) (s : State) : State :=
  let u := s.inputSetup i
  settleInput i (s.modInput i fun x =>
    { x with lockout := x.lockout.map fun k => { k with release := k.lastRaw + u.quietGap * 1000 } })

/-- Every input's setup takes effect (R76). -/
def applySetups (s : State) : State := (List.finRange 8).foldl (fun s i => applySetup i s) s

end Sys2Proof.Machine
end

