-- ==== Sys2Proof/Machine/InputCmds.lean ====
section
/-! DEFINITION. The binary inputs' commands: RAW_TRANSITION, DEBOUNCE_DEADLINE, LOCKOUT_RELEASE. -/

namespace Sys2Proof.Machine

/-- RAW_TRANSITION of an input line (R65, R67, R68, R73). -/
def execRawTransition (bi : InputNo) (s : State) : Host.Outcome State Fault Refusal := .next (settle (rawTransition bi s))

/-- DEBOUNCE_DEADLINE of an input (R69). -/
def execDebounceDeadline (bi : InputNo) (s : State) : Host.Outcome State Fault Refusal :=
  .next (settle (settleCandidate bi s))

/-- LOCKOUT_RELEASE of an input (R74). -/
def execLockoutRelease (bi : InputNo) (s : State) : Host.Outcome State Fault Refusal := .next (settle (settleRelease bi s))

end Sys2Proof.Machine
end

