-- ==== Sys2Proof/Machine/LinkCmds.lean ====
section
/-! DEFINITION. The bay link's commands: CABLE_IDLE, FRAME_CORRUPT, FRAME_OUTCOME, LINK_ONLINE, OVERLENGTH_FRAME_RESYNC,
DUPLICATE_ORIGIN_FRAME, REQUEST_ARRIVAL, REPLY_RECEIVED. -/

namespace Sys2Proof.Machine

/-- CABLE_IDLE: an ONLINE station contends with its head (R114, R117, R124). -/
def execCableIdle (rivals : List (BitVec 7)) (s : State) : Host.Outcome State Fault Refusal := .next (contend rivals s)

/-- FRAME_CORRUPT: a mismatch after the arbitration field in the frame on the wire (R118). -/
def execFrameCorrupt (s : State) : Host.Outcome State Fault Refusal := .next (takeFrameCorrupt s)

/-- FRAME_OUTCOME: the frame instant of the frame on the wire, with the slots and the roll-call field as read (R121 to
R123). -/
def execFrameOutcome (ack busy : Bool) (answers : BitVec 16) (s : State) : Host.Outcome State Fault Refusal :=
  .next (takeFrameOutcome ack busy answers s)

/-- LINK_ONLINE: 2,000 recessive bit-times in SILENT (R129). -/
def execLinkOnline (rivals : List (BitVec 7)) (s : State) : Host.Outcome State Fault Refusal :=
  .next (comeOnline rivals s)

/-- OVERLENGTH_FRAME_RESYNC: 2,000 recessive bit-times after an over-long length field (R119). -/
def execOverlengthFrameResync (rivals : List (BitVec 7)) (s : State) : Host.Outcome State Fault Refusal :=
  .next (resynchronize rivals s)

/-- DUPLICATE_ORIGIN_FRAME: the end of the check field of an accepted frame that carries the station's own number
(R130). The frame's own command follows at its frame instant. -/
def execDuplicateOriginFrame (f : RxFrame) (s : State) : Host.Outcome State Fault Refusal :=
  .next (receive f id s)

/-- REQUEST_ARRIVAL: a station-addressed request, known or unknown (R116, R120, R127). -/
def execRequestArrival (f : RxFrame) (s : State) : Host.Outcome State Fault Refusal :=
  .next (receive f
    (fun s => if isGroupKind f.kind.toNat || isReplyKind f.kind.toNat then s else requestArrives f s) s)

/-- REPLY_RECEIVED: a reply (R128). -/
def execReplyReceived (f : RxFrame) (s : State) : Host.Outcome State Fault Refusal :=
  .next (receive f
    (fun s =>
      if isReplyKind f.kind.toNat then
        replyAccepted { origin := f.origin, tag := f.tag, kind := f.kind.toNat, payload := f.payload } s
      else s) s)

end Sys2Proof.Machine
end

