-- ==== Sys2Proof/Machine/PlantCmds.lean ====
section
/-! DEFINITION. The simulated breaker's timers and the amplifier supervisor's instants and lines: OPEN_TIMER_EXPIRY,
CLOSE_TIMER_EXPIRY, WARM_UP_EXPIRY, IDLE_TIMER_EXPIRY, OVERLOAD_LINE_ASSERTED, OVERLOAD_LINE_DEASSERTED,
OVERLOAD_REPORT. -/

namespace Sys2Proof.Machine

/-- OPEN_TIMER_EXPIRY (R82). -/
def execOpenTimerExpiry (s : State) : Host.Outcome State Fault Refusal :=
  .next (if openTimerDue s then breakerOpens s else s)

/-- CLOSE_TIMER_EXPIRY (R84). The close input is the cause; a close has begun by one, so it is not NONE. -/
def execCloseTimerExpiry (s : State) : Host.Outcome State Fault Refusal :=
  .next (if closeTimerDue s then
    (match s.breakerSetup.closeInput with
     | some i => breakerCloses i s
     | none => s)
  else s)

/-- WARM_UP_EXPIRY (R94). -/
def execWarmUpExpiry (s : State) : Host.Outcome State Fault Refusal :=
  .next (if warmUpDue s then settle (takeWarmUp s) else s)

/-- IDLE_TIMER_EXPIRY (R95). -/
def execIdleTimerExpiry (s : State) : Host.Outcome State Fault Refusal :=
  .next (if idleDue s then takeIdle s else s)

/-- OVERLOAD_LINE_ASSERTED (R96). -/
def execOverloadLineAsserted (line : OverloadLine) (s : State) : Host.Outcome State Fault Refusal :=
  .next (lineAsserted line s)

/-- OVERLOAD_LINE_DEASSERTED (R96). -/
def execOverloadLineDeasserted (line : OverloadLine) (s : State) : Host.Outcome State Fault Refusal :=
  .next (settle (lineDeasserted line s))

/-- OVERLOAD_REPORT (R96). -/
def execOverloadReport (line : OverloadLine) (s : State) : Host.Outcome State Fault Refusal :=
  .next (if overloadDue line s then settle (takeOverload line s) else s)

end Sys2Proof.Machine
end

