-- ==== Sys2Proof/Machine/PowerCmds.lean ====
section
/-! DEFINITION. Power-on or pin reset and the supply-fail line: POWER_ON_RESET, SUPPLY_FAIL_ASSERTED,
SUPPLY_FAIL_DEASSERTED. -/

namespace Sys2Proof.Machine

/-- POWER_ON_RESET: every block takes its reset values with the pins as sampled (chapter 0, section 3; R129, R131). -/
def execPowerOnReset (pins : PinSample) (s : State) : Host.Outcome State Fault Refusal :=
  .next (State.afterPowerOn pins s.pending)

/-- SUPPLY_FAIL_ASSERTED (R98). -/
def execSupplyFailAsserted (s : State) : Host.Outcome State Fault Refusal := .next (settle (supplyFails s))

/-- SUPPLY_FAIL_DEASSERTED: every block stays as it stands (R99). -/
def execSupplyFailDeasserted (s : State) : Host.Outcome State Fault Refusal := .next (s.withSupplyFail false)

end Sys2Proof.Machine
end

