-- ==== Sys2Proof/Machine/PlanForm.lean ====
section
/-! DEFINITION. Plan items as PLAN-WRITE and PLAN-ITEM carry them (R191): addresses, the reading of a payload with its
refusals, clamps and wraps (R3 to R12), the fields of a stored item, and storing and fetching. Byte positions count from
0 at the item kind (log entry 6). -/

namespace Sys2Proof.Machine

/-- Which item (R1). -/
inductive ItemId where
  | header
  | inputSetup (bi : InputNo)
  | breakerSetup
  | reportTerm (t : TermNo)
  | stateControl (st : StateNo)
  | stateChannel (st : StateNo) (ch : ChannelNo)
  | stateTrigger (st : StateNo) (n : SlotNo)
  | stateWindow (st : StateNo) (bi : InputNo)
  | stateMarks (st : StateNo)
  deriving DecidableEq, Repr

/-- An item with its address. -/
inductive PlanItem where
  | header (h : Header)
  | inputSetup (bi : InputNo) (u : InputSetup)
  | breakerSetup (b : BreakerSetup)
  | reportTerm (t : TermNo) (r : ReportTerm)
  | stateControl (st : StateNo) (c : StateControl)
  | stateChannel (st : StateNo) (ch : ChannelNo) (it : ChannelItem)
  | stateTrigger (st : StateNo) (n : SlotNo) (t : Trigger)
  | stateWindow (st : StateNo) (bi : InputNo) (w : Window)
  | stateMarks (st : StateNo) (m : Vector (Option MarkCode) 8)
  deriving DecidableEq, Repr

/-- The address of an item. -/
def PlanItem.id : PlanItem → ItemId
  | .header _ => .header
  | .inputSetup i _ => .inputSetup i
  | .breakerSetup _ => .breakerSetup
  | .reportTerm t _ => .reportTerm t
  | .stateControl st _ => .stateControl st
  | .stateChannel st ch _ => .stateChannel st ch
  | .stateTrigger st n _ => .stateTrigger st n
  | .stateWindow st bi _ => .stateWindow st bi
  | .stateMarks st _ => .stateMarks st

/-- Kind code, index A and index B (R191). -/
def ItemId.codes : ItemId → Nat × Nat × Nat
  | .header => (1, 0, 0)
  | .inputSetup i => (2, i.val, 0)
  | .breakerSetup => (3, 0, 0)
  | .reportTerm t => (4, t.val, 0)
  | .stateControl st => (5, st.val, 0)
  | .stateChannel st ch => (6, st.val, ch.val)
  | .stateTrigger st n => (7, st.val, n.val)
  | .stateWindow st bi => (8, st.val, bi.val)
  | .stateMarks st => (9, st.val, 0)

/-- The length of a PLAN-WRITE of an item kind (R191). -/
def writeLength (kind : Nat) : Option Nat :=
  match kind with
  | 1 => some 12 | 2 => some 10 | 3 => some 12 | 4 => some 20 | 5 => some 22 | 6 => some 19 | 7 => some 14 | 8 => some 12
  | 9 => some 11 | _ => none

/-- How many values index A and index B of an item kind take (R191). -/
def indexRanges (kind : Nat) : Nat × Nat :=
  match kind with
  | 2 => (8, 1) | 4 => (12, 1) | 5 => (24, 1) | 6 => (24, 6) | 7 => (24, 4) | 8 => (24, 8) | 9 => (24, 1) | _ => (1, 1)

/-- The position of the first failing field among checks in payload order (R182). -/
def firstBad (checks : List (Nat × Bool)) : Option Nat := (checks.find? fun c => !c.2).map (·.1)

/-- The checks on the item kind and the indices (R3, R14). -/
def addressChecks (p : List Byte) : List (Nat × Bool) :=
  let r := indexRanges (byteAt p 0)
  [(0, (writeLength (byteAt p 0)).isSome), (1, decide (byteAt p 1 < r.1)), (2, decide (byteAt p 2 < r.2))]

/-- The item an address names, its checks having passed. -/
def itemIdOf (p : List Byte) : ItemId :=
  let a := byteAt p 1
  let b := byteAt p 2
  match byteAt p 0 with
  | 2 => .inputSetup (Fin.ofNat 8 a)
  | 3 => .breakerSetup
  | 4 => .reportTerm (Fin.ofNat 12 a)
  | 5 => .stateControl (Fin.ofNat 24 a)
  | 6 => .stateChannel (Fin.ofNat 24 a) (Fin.ofNat 6 b)
  | 7 => .stateTrigger (Fin.ofNat 24 a) (Fin.ofNat 4 b)
  | 8 => .stateWindow (Fin.ofNat 24 a) (Fin.ofNat 8 b)
  | 9 => .stateMarks (Fin.ofNat 24 a)
  | _ => .header

/-! ### Reading fields -/

/-- A reading of an item's fields: the checks that refuse, in payload order; the item to store; and how many fields were
clamped (R3). -/
structure Reading where
  checks : List (Nat × Bool)
  item : PlanItem
  clamped : Nat

/-- The nearer limit of a range, or the value itself. -/
def clampNat (lo hi v : Nat) : Nat := max lo (min hi v)

/-- 1 when a value was clamped. -/
def changed (v w : Nat) : Nat := if v = w then 0 else 1

/-- A number below `n`, or 255 for NONE, END or ANY (R189). -/
def okOrNone (n v : Nat) : Bool := decide (v < n) || v == 255

/-- An index, or NONE. -/
def indexOrNone (n v : Nat) [NeZero n] : Option (Fin n) := if v = 255 then none else some (Fin.ofNat n v)

/-- A mark code, or NONE. -/
def codeOk (v : Nat) : Bool := decide (1 ≤ v ∧ v ≤ 63)

/-- A mark code 1..63, or NONE (R8, R10, R12). -/
def codeOrNoneOk (v : Nat) : Bool := codeOk v || v == 255

/-- The mark code a byte spells, `none` for 255. -/
def codeOrNone (v : Nat) : Option MarkCode := if v = 255 then none else some (byte v)

/-- The target a byte spells, END for 255 (R191). -/
def targetOf (v : Nat) : Target := if v = 255 then .endRun else .state (Fin.ofNat 24 v)

/-- HEADER (R4). -/
def readHeader (p : List Byte) : Reading where
  checks :=
    [(3, decide (1 ≤ byteAt p 3 ∧ byteAt p 3 ≤ 64)), (4, decide (byteAt p 4 < 24)), (7, decide (byteAt p 7 < 2)),
      (8, okOrNone 16 (byteAt p 8)), (11, decide (byteAt p 11 < 16))]
  item := .header
    { visitLimit := byteAt p 3
      initialState := Fin.ofNat 24 (byteAt p 4)
      startSet := bitFlags 16 (num2 p 5)
      rounding := if byteAt p 7 = 0 then .nearestEven else .towardZero
      gatherStation := indexOrNone 16 (byteAt p 8)
      gatherSet := bitFlags 16 (num2 p 9)
      boRest := bitFlags 4 (byteAt p 11) }
  clamped := 0

/-- The stored chatter limit (R5). -/
def chatterLimitOf (v : Nat) : Nat := if v = 0 then 0 else clampNat 3 15 v

/-- INPUT-SETUP (R5). -/
def readInputSetup (bi : InputNo) (p : List Byte) : Reading :=
  let d := clampNat 0 250 (byteAt p 4)
  let c := chatterLimitOf (byteAt p 5)
  let w := clampNat 10 1000 (num2 p 6)
  let q := clampNat 10 2000 (num2 p 8)
  { checks := [(3, decide (byteAt p 3 < 2))]
    item := .inputSetup bi
      { activeHigh := byteAt p 3 == 1, debounce := d, chatterLimit := c, chatterWindow := w, quietGap := q }
    clamped := changed (byteAt p 4) d + changed (byteAt p 5) c + changed (num2 p 6) w + changed (num2 p 8) q }

/-- BREAKER-SETUP (R6). -/
def readBreakerSetup (p : List Byte) : Reading :=
  let o := clampNat 0 500 (num2 p 6)
  let c := clampNat 0 500 (num2 p 8)
  { checks :=
      [(3, decide (byteAt p 3 < 2)), (4, decide (byteAt p 4 < 8)), (5, okOrNone 8 (byteAt p 5)),
        (10, okOrNone 4 (byteAt p 10)), (11, okOrNone 4 (byteAt p 11))]
    item := .breakerSetup
      { enabled := byteAt p 3 == 1
        tripInput := Fin.ofNat 8 (byteAt p 4)
        closeInput := indexOrNone 8 (byteAt p 5)
        openTime := o
        closeTime := c
        out52a := indexOrNone 4 (byteAt p 10)
        out52b := indexOrNone 4 (byteAt p 11) }
    clamped := changed (num2 p 6) o + changed (num2 p 8) c }

/-- A selector's event parameter is in its range (R7). -/
def parameterOk (event parameter : Nat) : Bool :=
  match event with
  | 1 => decide (parameter < 24)
  | 2 | 3 => decide (parameter < 8)
  | 4 => codeOk parameter
  | _ => true

/-- The event of a selector (R7, R191); a BREAKER-OPEN's parameter is not kept. -/
def eventOf (event parameter : Nat) : SelectorEvent :=
  match event with
  | 2 => .inputOperate (Fin.ofNat 8 parameter)
  | 3 => .inputReset (Fin.ofNat 8 parameter)
  | 4 => .markSent (byte parameter)
  | 5 => .breakerOpen
  | _ => .stateEntry (Fin.ofNat 24 parameter)

/-- The checks on the selector at position `i` (R7). -/
def selectorChecks (p : List Byte) (i : Nat) : List (Nat × Bool) :=
  [(i, decide (byteAt p i < 16)), (i + 1, decide (1 ≤ byteAt p (i + 1) ∧ byteAt p (i + 1) ≤ 5)),
    (i + 2, parameterOk (byteAt p (i + 1)) (byteAt p (i + 2))),
    (i + 3, decide (1 ≤ byteAt p (i + 3) ∧ byteAt p (i + 3) ≤ 4))]

/-- The selector at position `i`. -/
def selectorAt (p : List Byte) (i : Nat) : Selector where
  station := Fin.ofNat 16 (byteAt p i)
  event := eventOf (byteAt p (i + 1)) (byteAt p (i + 2))
  occurrence := byteAt p (i + 3)

/-- REPORT-TERM (R7). -/
def readReportTerm (t : TermNo) (p : List Byte) : Reading where
  checks :=
    (3, decide (byteAt p 3 < 2)) :: selectorChecks p 4 ++ selectorChecks p 8 ++ [(12, decide (snum4 p 12 ≤ snum4 p 16))]
  item := .reportTerm t
    { enabled := byteAt p 3 == 1
      selA := selectorAt p 4
      selB := selectorAt p 8
      bandMin := snum4 p 12
      bandMax := snum4 p 16 }
  clamped := 0

/-- STATE-CONTROL (R8). -/
def readStateControl (st : StateNo) (p : List Byte) : Reading :=
  let f := clampNat 15000 75000 (num4 p 3)
  let b := clampNat 0 3600000 (num4 p 7)
  let d : Fin 4 → Nat := fun i => clampNat 0 1000 (num2 p (13 + 2 * i.val))
  { checks :=
      [(7, decide (num4 p 7 ≠ 0)), (11, okOrNone 24 (byteAt p 11)), (12, decide (byteAt p 12 < 16)),
        (21, codeOrNoneOk (byteAt p 21))]
    item := .stateControl st
      { frequency := f
        backstop := b
        backstopTarget := targetOf (byteAt p 11)
        boLevels := bitFlags 4 (byteAt p 12)
        boDelays := tabulate d
        entryMark := codeOrNone (byteAt p 21) }
    clamped := changed (num4 p 3) f + changed (num4 p 7) b + changed (num2 p 13) (d 0) + changed (num2 p 15) (d 1) +
      changed (num2 p 17) (d 2) + changed (num2 p 19) (d 3) }

/-- The largest magnitude of a channel: mV on CH1..CH3, mA on CH4..CH6 (R9). -/
def magnitudeLimit (ch : ChannelNo) : Nat := if ch.val < 3 then 300000 else 32000

/-- The DC mode a byte spells (R191). -/
def dcModeOf (v : Nat) : DcMode :=
  match v with
  | 0 => .off
  | 1 => .fixed
  | _ => .continuous

/-- STATE-CHANNEL (R9). -/
def readStateChannel (st : StateNo) (ch : ChannelNo) (p : List Byte) : Reading :=
  let m := clampNat 0 (magnitudeLimit ch) (num4 p 3)
  let order := byteAt p 9
  let hm := if order = 0 then 0 else clampNat 0 1000 (num2 p 10)
  let fixed := byteAt p 14 == 1
  let dc : Int := if fixed then max (-32767) (snum2 p 15) else 0
  { checks := [(9, decide (order = 0 ∨ 2 ≤ order ∧ order ≤ 25)), (14, decide (byteAt p 14 < 3))]
    item := .stateChannel st ch
      { magnitude := m
        angle := num2 p 7 % 36000
        harmonicOrder := order
        harmonicMagnitude := hm
        harmonicAngle := if order = 0 then 0 else num2 p 12 % 36000
        dcMode := dcModeOf (byteAt p 14)
        dcInitial := dc
        kd := num2 p 17 }
    clamped := changed (num4 p 3) m + (if order = 0 then 0 else changed (num2 p 10) hm) +
      (if fixed && decide (snum2 p 15 ≠ dc) then 1 else 0) }

/-- STATE-TRIGGER (R10). -/
def readStateTrigger (st : StateNo) (n : SlotNo) (p : List Byte) : Reading :=
  let target := targetOf (byteAt p 12)
  let targetCheck := (12, okOrNone 24 (byteAt p 12))
  let coordCheck := (13, codeOrNoneOk (byteAt p 13))
  let noCoordCheck := (13, byteAt p 13 == 255)
  match byteAt p 3 with
  | 0 => { checks := [], item := .stateTrigger st n .empty, clamped := 0 }
  | 1 =>
    let d := clampNat 0 3600000 (num4 p 4)
    { checks := [(4, decide (num4 p 4 ≠ 0)), targetCheck, coordCheck]
      item := .stateTrigger st n (.timer d target (codeOrNone (byteAt p 13)))
      clamped := changed (num4 p 4) d }
  | 2 =>
    { checks :=
        [(8, decide (byteAt p 8 < 8)), (9, decide (byteAt p 9 = 1 ∨ byteAt p 9 = 2)), targetCheck, coordCheck]
      item := .stateTrigger st n
        (.input (Fin.ofNat 8 (byteAt p 8)) (if byteAt p 9 = 1 then .operate else .reset) target
          (codeOrNone (byteAt p 13)))
      clamped := 0 }
  | 3 =>
    { checks := [(10, codeOk (byteAt p 10)), (11, okOrNone 16 (byteAt p 11)), targetCheck, noCoordCheck]
      item := .stateTrigger st n (.mark (byte (byteAt p 10)) (indexOrNone 16 (byteAt p 11)) target)
      clamped := 0 }
  | 4 => { checks := [targetCheck, noCoordCheck], item := .stateTrigger st n (.step target), clamped := 0 }
  | _ => { checks := [(3, false)], item := .stateTrigger st n .empty, clamped := 0 }

/-- STATE-WINDOW (R11). -/
def readStateWindow (st : StateNo) (bi : InputNo) (p : List Byte) : Reading :=
  match byteAt p 3 with
  | 0 => { checks := [], item := .stateWindow st bi .dontCare, clamped := 0 }
  | 1 =>
    let lo := clampNat 0 600000 (num4 p 4)
    let hi := clampNat 0 600000 (num4 p 8)
    { checks := [(4, decide (lo ≤ hi))]
      item := .stateWindow st bi (.operate lo hi)
      clamped := changed (num4 p 4) lo + changed (num4 p 8) hi }
  | 2 => { checks := [], item := .stateWindow st bi .noOperate, clamped := 0 }
  | _ => { checks := [(3, false)], item := .stateWindow st bi .dontCare, clamped := 0 }

/-- STATE-MARKS (R12). -/
def readStateMarks (st : StateNo) (p : List Byte) : Reading where
  checks := (List.range 8).map fun i => (3 + i, codeOrNoneOk (byteAt p (3 + i)))
  item := .stateMarks st (tabulate fun i => codeOrNone (byteAt p (3 + i.val)))
  clamped := 0

/-- The reading of a PLAN-WRITE's fields for the item it addresses (R3). -/
def readItem (id : ItemId) (p : List Byte) : Reading :=
  match id with
  | .header => readHeader p
  | .inputSetup bi => readInputSetup bi p
  | .breakerSetup => readBreakerSetup p
  | .reportTerm t => readReportTerm t p
  | .stateControl st => readStateControl st p
  | .stateChannel st ch => readStateChannel st ch p
  | .stateTrigger st n => readStateTrigger st n p
  | .stateWindow st bi => readStateWindow st bi p
  | .stateMarks st => readStateMarks st p

/-! ### The fields of a stored item (R14, R191) -/

/-- The byte of a target (R191). -/
def Target.code : Target → Nat
  | .state st => st.val
  | .endRun => 255

/-- The byte of an optional mark code. -/
def markByte (c : Option MarkCode) : Byte :=
  match c with
  | some c => c
  | none => 255

/-- The four bytes of a selector (R191). -/
def Selector.bytes (x : Selector) : List Byte :=
  let ep : Nat × Nat := match x.event with
    | .stateEntry st => (1, st.val)
    | .inputOperate bi => (2, bi.val)
    | .inputReset bi => (3, bi.val)
    | .markSent c => (4, c.toNat)
    | .breakerOpen => (5, 0)
  [byte x.station.val, byte ep.1, byte ep.2, byte x.occurrence]

/-- The code of a DC mode (R191). -/
def DcMode.code : DcMode → Nat
  | .off => 0 | .fixed => 1 | .continuous => 2

/-- The fields of a trigger (R10, R191): what does not belong to its kind is 0; a MARK or STEP trigger's coordinating
code is NONE. -/
def Trigger.fields : Trigger → List Byte
  | .empty => List.replicate 11 0
  | .timer d t c => [1] ++ bytes4 d ++ [0, 0, 0, 0, byte t.code, markByte c]
  | .input bi e t c =>
    [2, 0, 0, 0, 0, byte bi.val, if e == .operate then 1 else 2, 0, 0, byte t.code, markByte c]
  | .mark m o t => [3, 0, 0, 0, 0, 0, 0, m, byte (orNone (o.map (·.val))), byte t.code, 255]
  | .step t => [4, 0, 0, 0, 0, 0, 0, 0, 0, byte t.code, 255]

/-- The fields of a window (R11, R191). -/
def Window.fields : Window → List Byte
  | .dontCare => List.replicate 9 0
  | .operate lo hi => [1] ++ bytes4 lo ++ bytes4 hi
  | .noOperate => [2, 0, 0, 0, 0, 0, 0, 0, 0]

/-- The fields of an item (R191). -/
def PlanItem.fields : PlanItem → List Byte
  | .header h =>
    [byte h.visitLimit, byte h.initialState.val] ++ bytes2 (flagBits h.startSet) ++
      [if h.rounding == .nearestEven then 0 else 1, byte (orNone (h.gatherStation.map (·.val)))] ++
      bytes2 (flagBits h.gatherSet) ++ [byte (flagBits h.boRest)]
  | .inputSetup _ u =>
    [if u.activeHigh then 1 else 0, byte u.debounce, byte u.chatterLimit] ++ bytes2 u.chatterWindow ++ bytes2 u.quietGap
  | .breakerSetup b =>
    [if b.enabled then 1 else 0, byte b.tripInput.val, byte (orNone (b.closeInput.map (·.val)))] ++ bytes2 b.openTime ++
      bytes2 b.closeTime ++ [byte (orNone (b.out52a.map (·.val))), byte (orNone (b.out52b.map (·.val)))]
  | .reportTerm _ r =>
    [if r.enabled then 1 else 0] ++ r.selA.bytes ++ r.selB.bytes ++ sbytes4 r.bandMin ++ sbytes4 r.bandMax
  | .stateControl _ c =>
    bytes4 c.frequency ++ bytes4 c.backstop ++ [byte c.backstopTarget.code, byte (flagBits c.boLevels)] ++
      c.boDelays.toList.flatMap bytes2 ++ [markByte c.entryMark]
  | .stateChannel _ _ it =>
    bytes4 it.magnitude ++ bytes2 it.angle ++ [byte it.harmonicOrder] ++ bytes2 it.harmonicMagnitude ++
      bytes2 it.harmonicAngle ++ [byte it.dcMode.code] ++ sbytes2 it.dcInitial ++ bytes2 it.kd
  | .stateTrigger _ _ t => t.fields
  | .stateWindow _ _ w => w.fields
  | .stateMarks _ m => m.toList.map markByte

/-- The address bytes of an item: kind, index A, index B. -/
def ItemId.bytes (id : ItemId) : List Byte := [byte id.codes.1, byte id.codes.2.1, byte id.codes.2.2]

/-- The PLAN-WRITE payload that spells an item. -/
def PlanItem.payload (it : PlanItem) : List Byte := it.id.bytes ++ it.fields

/-! ### Storing and fetching -/

/-- Change the items of one plan state. -/
def modState (m : PlanItems) (st : StateNo) (f : StateItems → StateItems) : PlanItems :=
  { m with states := modAt m.states st f }

/-- The stored item of an address (R14). -/
def fetchItem (id : ItemId) (m : PlanItems) : PlanItem :=
  match id with
  | .header => .header m.header
  | .inputSetup bi => .inputSetup bi (m.inputs.get bi)
  | .breakerSetup => .breakerSetup m.breaker
  | .reportTerm t => .reportTerm t (m.terms.get t)
  | .stateControl st => .stateControl st (m.states.get st).control
  | .stateChannel st ch => .stateChannel st ch ((m.states.get st).channels.get ch)
  | .stateTrigger st n => .stateTrigger st n ((m.states.get st).triggers.get n)
  | .stateWindow st bi => .stateWindow st bi ((m.states.get st).windows.get bi)
  | .stateMarks st => .stateMarks st (m.states.get st).marks

/-- The whole addressed item is replaced; a STATE-CONTROL defines its state (R2). -/
def storeItem (it : PlanItem) (m : PlanItems) : PlanItems :=
  match it with
  | .header h => { m with header := h }
  | .inputSetup bi u => { m with inputs := setAt m.inputs bi u }
  | .breakerSetup b => { m with breaker := b }
  | .reportTerm t r => { m with terms := setAt m.terms t r }
  | .stateControl st c => modState m st fun x => { x with control := c, defined := true }
  | .stateChannel st ch c => modState m st fun x => { x with channels := setAt x.channels ch c }
  | .stateTrigger st n t => modState m st fun x => { x with triggers := setAt x.triggers n t }
  | .stateWindow st bi w => modState m st fun x => { x with windows := setAt x.windows bi w }
  | .stateMarks st v => modState m st fun x => { x with marks := v }

/-- The plan state an item belongs to, for the state item kinds. -/
def ItemId.stateNo : ItemId → Option StateNo
  | .stateControl st | .stateChannel st _ | .stateTrigger st _ | .stateWindow st _ | .stateMarks st => some st
  | .header | .inputSetup _ | .breakerSetup | .reportTerm _ => none

/-- The item belongs to a state in the defined-state set (R14). -/
def itemDefined (id : ItemId) (m : PlanItems) : Bool :=
  match id.stateNo with
  | some st => (m.states.get st).defined
  | none => false

end Sys2Proof.Machine
end

