-- ==== Sys2Proof/Machine/Service.lean ====
section
/-! DEFINITION. The service of a request in hand (R181 to R183): judging, answering and ending the service. -/

namespace Sys2Proof.Machine

/-- The block that serves a request kind and owns its replies (section 11.6). For an unknown kind the section names no
block, and the Status Unit is taken (log entry 37, DESIGN CHOICE). -/
def ownerOf (kind : Nat) : Owner :=
  if 38 ≤ kind ∧ kind ≤ 41 then .planMemory
  else if kind = 34 ∨ kind = 35 then .resultStore
  else if kind = 36 ∨ kind = 37 then .gatherEngine
  else .statusUnit

/-- A reply to a request (R183). -/
def replyTo (r : Request) (kind : Nat) (payload : List Byte) : TxFrame :=
  { dest := some r.origin, tag := r.tag, body := .reply kind payload, owner := ownerOf r.kind }

/-- The reply is built and waits for the end of service (R181, R183). -/
def answer (r : Request) (kind : Nat) (payload : List Byte) (s : State) : State :=
  s.modStatus fun u =>
    { u with service := match u.service with
        | .taken _ since => .answered r kind payload since
        | x => x }

/-- REFUSE with a code; `position` is that of the failing field for RANGE, else 0 (R182, R190). -/
def refuse (r : Request) (code : RefusalCode) (position : Nat) (s : State) : State :=
  answer r 17 [byte r.kind, byte code.code, byte position]
    (s.modStatus fun u => { u with refused := satAdd Config.countLimit u.refused 1 })

/-- ACCEPT with nothing but the request kind (R190). -/
def accept (r : Request) (s : State) : State := answer r 16 [byte r.kind] s

/-- The service is over, and the next request is taken (R181). -/
def serviceOver (s : State) : State := takeNext (s.modStatus fun u => { u with service := .idle })

/-- The service of a judged request ends with its reply in the transmit queue (R181). -/
def endService (s : State) : State :=
  match s.status.service with
  | .answered r kind payload _ => settle (serviceOver (place (replyTo r kind payload) false s))
  | .idle | .taken _ _ => s

/-- A reply placed at once with the end of the service, for the requests whose rule fixes the instant (R165, R187). -/
def acceptNow (r : Request) (s : State) : State := place (replyTo r 16 [byte r.kind]) false s

/-- Judge the request in hand when it is of the kinds that `isKind` names. -/
def serve (isKind : Nat → Bool) (judge : Request → State → State) (s : State) : State :=
  match s.status.service with
  | .taken r _ => if isKind r.kind then settle (judge r s) else s
  | .idle | .answered _ _ _ _ => s

/-- The checks of R182 in their order: LENGTH, then RANGE at the first failing position, then `k`. -/
def judged (r : Request) (length : Nat) (checks : List (Nat × Bool)) (k : State → State) (s : State) : State :=
  if r.payload.length = length then
    match firstBad checks with
    | some i => refuse r .range i s
    | none => k s
  else refuse r .length 0 s

end Sys2Proof.Machine
end

