-- ==== Sys2Proof/Machine/PlanOps.lean ====
section
/-! DEFINITION. Plan Memory (chapter 1): writing, reading, clearing, the commit check, and emptying. -/

namespace Sys2Proof.Machine

/-! ### The commit check (R16) -/

/-- A state is defined. -/
def isDefined (m : PlanItems) (st : StateNo) : Bool := (m.states.get st).defined

/-- A target names a state that is not defined. -/
def dangles (m : PlanItems) : Target → Bool
  | .state st => !isDefined m st
  | .endRun => false

/-- A non-empty trigger whose target dangles. -/
def triggerDangles (m : PlanItems) : Trigger → Bool
  | .empty => false
  | .timer _ t _ | .input _ _ t _ | .mark _ _ t | .step t => dangles m t

/-- The first dangling target of a defined state: slots 0 to 3, then the backstop. -/
def danglingPlace (m : PlanItems) (st : StateNo) : Option TargetPlace :=
  let x := m.states.get st
  match (List.finRange 4).find? fun n => triggerDangles m (x.triggers.get n) with
  | some n => some (.slot n)
  | none => if dangles m x.control.backstopTarget then some .backstop else none

/-- The first dangling target of the plan, by ascending state. -/
def firstDangling (m : PlanItems) : Option (StateNo × TargetPlace) :=
  (List.finRange 24).findSome? fun st =>
    if isDefined m st then (danglingPlace m st).map fun p => (st, p) else none

/-- A selector takes the entry of a state that is not defined. -/
def selectorUndefined (m : PlanItems) (x : Selector) : Bool :=
  match x.event with
  | .stateEntry st => !isDefined m st
  | .inputOperate _ | .inputReset _ | .markSent _ | .breakerOpen => false

/-- The first enabled term with such a selector, A before B. -/
def firstBadTerm (m : PlanItems) : Option (TermNo × Bool) :=
  (List.finRange 12).findSome? fun t =>
    let x := m.terms.get t
    if x.enabled then
      if selectorUndefined m x.selA then some (t, false)
      else if selectorUndefined m x.selB then some (t, true)
      else none
    else none

/-- The enabled breaker's fields conflict. -/
def breakerConflicts (b : BreakerSetup) : Bool :=
  b.enabled && (b.closeInput == some b.tripInput || (b.out52a.isSome && b.out52a == b.out52b))

/-- A gather station is named and its gather set is empty. -/
def gatherSetMissing (h : Header) : Bool := h.gatherStation.isSome && !h.gatherSet.toList.any id

/-- The first error of the plan (R16). -/
def commitCheck (m : PlanItems) : FirstError :=
  if !isDefined m m.header.initialState then .noInitial m.header.initialState
  else match firstDangling m with
    | some (st, p) => .danglingTarget st p
    | none =>
      if breakerConflicts m.breaker then .breakerConflict
      else match firstBadTerm m with
        | some (t, b) => .termState t b
        | none => if gatherSetMissing m.header then .gatherSet else .none

/-- The payload of a PLAN-RESULT (R190). -/
def planResultPayload (e : FirstError) (clamps : Nat) : List Byte :=
  [if e = .none then 1 else 2, byte e.code] ++ e.location ++ bytes2 clamps

/-- The commit check ends (R15): the plan is VALID or INVALID, the first error is set, and a PLAN-RESULT is queued. -/
def endCommitCheck (s : State) : State :=
  if s.plan.state == .checking then
    let e := commitCheck s.plan.items
    let committer := s.plan.committer
    let s := s.modPlan fun p =>
      { p with
        state := if e = .none then .valid else .invalid
        firstError := e
        committer := none
        checkBegan := none }
    let s := if e = .none then s else s.latch fun l => { l with planInvalid := true }
    match committer with
    | some (st, tag) =>
      settle (place
        { dest := some st
          tag := tag
          body := .reply 20 (planResultPayload e s.plan.clampCount)
          owner := .planMemory }
        false s)
    | none => s
  else s

/-! ### Requests -/

/-- A PLAN-WRITE that is not refused (R2, R3, R13): the item is stored, its clamps are counted, a HEADER's rest levels
and an INPUT-SETUP take effect. -/
def writePlan (r : Request) (x : Reading) (s : State) : State :=
  let s := s.modPlan fun p =>
    { p with
      items := storeItem x.item p.items
      state := .editing
      clampCount := satAdd Config.countLimit p.clampCount x.clamped }
  let s := match x.item with
    | .header _ => outputsToRest s
    | .inputSetup bi _ => applySetup bi s
    | _ => s
  answer r 16 ([byte r.kind, byte x.clamped] ++ bytes2 s.plan.clampCount) s

/-- PLAN-WRITE (R3, R13, R17, R182). -/
def judgeWrite (r : Request) (s : State) : State :=
  if r.payload.length < 3 then refuse r .length 0 s
  else match writeLength (byteAt r.payload 0) with
    | none => refuse r .range 0 s
    | some n =>
      let x := readItem (itemIdOf r.payload) r.payload
      judged r n (addressChecks r.payload ++ x.checks)
        (fun s =>
          if s.runActive then refuse r .locked 0 s
          else if s.plan.state == .checking then refuse r .busy 0 s
          else writePlan r x s)
        s

/-- The payload of a PLAN-ITEM (R14, R190). -/
def planItemPayload (id : ItemId) (p : PlanMemory) : List Byte :=
  id.bytes ++ [byte (p.state.code + bit (itemDefined id p.items) 8)] ++ (fetchItem id p.items).fields

/-- PLAN-READ (R14). -/
def judgeRead (r : Request) (s : State) : State :=
  judged r 3 (addressChecks r.payload)
    (fun s =>
      if s.plan.state == .checking then refuse r .busy 0 s
      else answer r 19 (planItemPayload (itemIdOf r.payload) s.plan) s)
    s

/-- The check begins (R15), and the service of its PLAN-COMMIT ends (R181). -/
def beginCheck (r : Request) (s : State) : State :=
  serviceOver (s.modPlan fun p =>
    { p with state := .checking, committer := some (r.origin, r.tag), checkBegan := some s.clock.elapsed })

/-- PLAN-COMMIT (R15). -/
def judgeCommit (r : Request) (s : State) : State :=
  judged r 0 []
    (fun s => match s.plan.state with
      | .empty => refuse r .noPlan 0 s
      | .checking => refuse r .busy 0 s
      | .valid => accept r s
      | .editing | .invalid => beginCheck r s)
    s

/-- The plan is emptied, and the default setups take effect (R13, R18, R76). -/
def emptyPlan (s : State) : State := applySetups (s.modPlan fun _ => .emptied)

/-- PLAN-CLEAR (R13, R17). -/
def judgeClear (r : Request) (s : State) : State :=
  judged r 0 []
    (fun s =>
      if s.runActive then refuse r .locked 0 s
      else if s.plan.state == .checking then refuse r .busy 0 s
      else accept r (outputsToRest (emptyPlan s)))
    s

end Sys2Proof.Machine
end

