-- ==== Sys2Proof/Machine/StatusOps.lean ====
section
/-! DEFINITION. The requests of the Result Store, the Gather Engine and the Status Unit: RECORD-READ and RELEASE (R159,
R161), GATHER and REPORT-READ (R165, R178), STATUS-READ (R184, R193), RESET-STATION (R187), and unknown kinds (R182). -/

namespace Sys2Proof.Machine

/-! ### Result Store -/

/-- The check on a label byte at position 0. -/
def labelCheck (p : List Byte) : Nat × Bool := (0, labelOk (p.getD 0 0))

/-- RECORD-READ (R159). -/
def judgeRecordRead (r : Request) (s : State) : State :=
  judged r 4 [labelCheck r.payload]
    (fun s =>
      let l := r.payload.getD 0 0
      let i := num2 r.payload 1
      match readStore l i s with
      | .record h x => answer r 21 (recordPayload h x (decide (byteAt r.payload 3 ≠ 0))) s
      | .notYet => answer r 23 (l :: bytes2 i) s
      | .none => answer r 22 (l :: bytes2 i) s)
    s

/-- RELEASE (R161). -/
def judgeRelease (r : Request) (s : State) : State :=
  judged r 1 [labelCheck r.payload]
    (fun s =>
      let l := r.payload.getD 0 0
      if s.engine.runLabel == some l && s.runActive then refuse r .state 0 s
      else match findLabel s.store l with
        | none => refuse r .noLabel 0 s
        | some h =>
          answer r 16 ([byte r.kind, byte h.chain.length] ++ bytes2 h.count) (s.modStore (releaseLabel h)))
    s

/-! ### Gather Engine -/

/-- The checks on a GATHER's fields (R165). -/
def gatherChecks (p : List Byte) : List (Nat × Bool) :=
  [labelCheck p, (1, decide (1 ≤ byteAt p 1 ∧ byteAt p 1 ≤ 3)),
    (2, match byteAt p 1 with
        | 1 => decide (num2 p 2 < 16)
        | 2 => decide (num2 p 2 ≠ 0)
        | _ => true),
    (4, decide (1 ≤ byteAt p 4 ∧ byteAt p 4 ≤ 2)), (5, decide (1 ≤ byteAt p 5 ∧ byteAt p 5 ≤ 2)),
    (6, decide (1 ≤ byteAt p 6 ∧ byteAt p 6 ≤ 2))]

/-- The fields of a GATHER (R165, R190). -/
def gatherRequestOf (p : List Byte) : GatherRequest where
  label := p.getD 0 0
  sweep := match byteAt p 1 with
    | 1 => .one (Fin.ofNat 16 (num2 p 2))
    | 2 => .set (bitFlags 16 (num2 p 2))
    | _ => .roll
  waitPending := byteAt p 4 == 1
  haltSilence := byteAt p 5 == 2
  merge := byteAt p 6 == 2

/-- GATHER (R165): the ACCEPT is queued, the service ends, and the gather begins at this instant. -/
def judgeGather (r : Request) (s : State) : State :=
  judged r 7 (gatherChecks r.payload)
    (fun s =>
      let q := gatherRequestOf r.payload
      if q.merge && s.gather.report.label.isSome && s.gather.report.label != some q.label then refuse r .state 0 s
      else if gatherBusy s then refuse r .busy 0 s
      else beginGather q (some (r.origin, r.tag)) (serviceOver (acceptNow r s)))
    s

/-- REPORT-READ (R178). -/
def judgeReportRead (r : Request) (s : State) : State :=
  judged r 2 [(0, decide (num2 r.payload 0 ≤ 524))]
    (fun s =>
      if gatherBusy s then refuse r .state 0 s
      else if s.gather.report.label.isNone then refuse r .noReport 0 s
      else answer r 25 (reportLine (num2 r.payload 0) s.gather) s)
    s

/-! ### Status Unit -/

/-- An input is operated (R66). -/
def isOperated (s : State) (i : InputNo) : Bool := (s.input i).accepted == (s.inputSetup i).activeHigh

/-- Part 0 of the STATUS reply (R193). -/
def statusPart0 (s : State) : List Byte :=
  let st := s.link.straps
  let g := s.engine
  [0, byte (st.station.val * 16 + st.group.val * 2 + bit st.amplifierPresent 1), byte st.cableDelay.val,
    byte s.link.state.code, byte g.runState.code, g.runLabel.getD 0,
    byte (orNone (g.visit.map (·.state.val))),
    byte (match g.visit with
      | some v => v.number
      | none => 0),
    byte g.visitCount, byte g.endReason.code, byte (orNone (g.lastState.map (·.val))), byte s.plan.state.code,
    byte s.plan.firstError.code] ++
    s.plan.firstError.location ++ bytes2 s.plan.clampCount ++
    [byte s.amp.state.code, byte s.breaker.state.code,
      byte (flagBits (tabulate fun i : InputNo => (s.input i).accepted)),
      byte (flagBits (tabulate fun i : InputNo => isOperated s i)),
      byte (flagBits (tabulate fun i : InputNo => (s.input i).lockout.isSome)),
      byte (flagBits g.boLevels), byte (freeBlocks s.store).length, byte s.gather.state.code,
      byte s.status.latch.bits, byte s.status.latch.causeCode] ++
    bytes4 s.now

/-- A held-label entry: label, then the count in the upper 10 bits and the end state in the lowest 2 (R193). -/
def heldEntry (h : HeldLabel) : List Byte := h.label :: bytes2 (h.count * 64 + h.endState.code)

/-- Insert by ascending label. -/
def insertHeld (h : HeldLabel) : List HeldLabel → List HeldLabel
  | [] => [h]
  | x :: xs => if h.label.toNat < x.label.toNat then h :: x :: xs else x :: insertHeld h xs

/-- The held labels in ascending order (R193). -/
def heldAscending (st : Store) : List HeldLabel := st.heldLabels.foldl (fun q h => insertHeld h q) []

/-- Part 1 of the STATUS reply (R193). -/
def statusPart1 (s : State) : List Byte :=
  let u := s.status
  [1] ++ bytes4 s.now ++ [byte u.latch.bits, byte u.latch.causeCode] ++ bytes2 u.served ++ bytes2 u.refused ++
    bytes2 u.turnedAway ++ bytes2 u.dropped ++
    (((heldAscending s.store).flatMap heldEntry) ++ List.replicate 24 0).take 24

/-- The fault latch is emptied and the four counts are 0 (R186). -/
def clearLatch (s : State) : State :=
  s.modStatus fun u => { u with latch := .cleared, served := 0, refused := 0, turnedAway := 0, dropped := 0 }

/-- STATUS-READ (R184, R186): the reply is built first, then the clear acts. -/
def judgeStatusRead (r : Request) (s : State) : State :=
  judged r 2 [(0, decide (byteAt r.payload 0 < 2))]
    (fun s =>
      let s' := answer r 18 (if byteAt r.payload 1 = 0 then statusPart0 s else statusPart1 s) s
      if byteAt r.payload 0 = 1 then clearLatch s' else s')
    s

/-- A request of an unknown kind (R182). -/
def judgeUnknown (r : Request) (s : State) : State := refuse r .unknownKind 0 s

/-! ### Station reset (R187) -/

/-- Step 1: the run is aborted with its ABORT frame queued (R61). The age of that frame, where there is one. -/
def resetRun (s : State) : State × Option Nat :=
  if s.runActive then
    let s := abortRun .stationReset s
    (queueAbort .stationReset false s, some s.link.nextAge)
  else (s, none)

/-- An entry that step 6 leaves: on the wire, or the ABORT frame of step 1. -/
def keptByReset (abortAge : Option Nat) (e : TxEntry) : Bool := e.onWire || abortAge == some e.age

/-- A removed MARK is logged as a late MARK-SENT with outcome DROPPED (R157, R187). -/
def logRemoved (e : TxEntry) (s : State) : State :=
  match e.frame.body with
  | .mark l c d => logMark l c d .dropped none s
  | .abort _ _ | .start _ | .rollcall _ | .recordRead _ _ | .reply _ _ => s

/-- Step 6: the transmit queue (R187). Several MARKs removed are logged in queue order, head first: no order is given
(log entry 45, DESIGN CHOICE). -/
def resetTx (abortAge : Option Nat) (s : State) : State :=
  let removed := s.link.tx.filter fun e => !keptByReset abortAge e
  removed.foldl (fun s e => logRemoved e s)
    (s.modLink fun l => { l with tx := l.tx.filter (keptByReset abortAge) })

/-- The synthesizer after a station reset (R40). The last emitted codes are 0 at once, not with the first zero frame (R39;
log entry 17), so what is left of a frame being sent carries zeros too (log entry 48, DESIGN CHOICE). -/
def synthReset (s : State) : State :=
  s.modSynth fun y =>
    let y := synthDiscard y
    { y with channels := tabulate fun i => { y.channels.get i with lastEmitted := 0 } }

/-- The requester of a gather in progress, with its label (R180). -/
def resetRequester (s : State) : Option (Label × Option (StationNo × Byte)) :=
  s.gather.cursor.map fun c => (c.label, c.requester)

/-- The station reset's steps in their order (R187). Where step 1's ABORT pushes an entry out of a full queue, its owner
acts on DROPPED between the steps 1 and 2 (log entry 38, DESIGN CHOICE). -/
def stationReset (r : Request) (s : State) : State :=
  let (s, abortAge) := resetRun s
  let s := settle s
  let s := synthReset (outputsToRest (emptyPlan s))
  let s := resetBreaker (ampReset s)
  let done := resetRequester s
  let s := resetTx abortAge (gatherReset s)
  let s := pollerOff (clearLatch (s.modLink fun l => { l with requests := [] }))
  let s := serviceOver (acceptNow r s)
  match done with
  | some (l, q) => sendGatherDone l q s
  | none => s

/-- RESET-STATION (R187). -/
def judgeReset (r : Request) (s : State) : State := judged r 0 [] (stationReset r) s

end Sys2Proof.Machine
end

