-- ==== Sys2Proof/Machine/RequestCmds.lean ====
section
/-! DEFINITION. The requests as they are judged, the end of a commit check and the end of a service: PLAN_WRITE,
PLAN_READ, PLAN_COMMIT, PLAN_CLEAR, RECORD_READ, RELEASE, GATHER, REPORT_READ, STATUS_READ, RESET_STATION,
UNKNOWN_KIND_REQUEST, COMMIT_CHECK_END, REQUEST_SERVICE_END. -/

namespace Sys2Proof.Machine

/-- PLAN_WRITE (R2, R3, R13, R17). -/
def execPlanWrite (s : State) : Host.Outcome State Fault Refusal := .next (serve (· == 38) judgeWrite s)

/-- PLAN_READ (R14). -/
def execPlanRead (s : State) : Host.Outcome State Fault Refusal := .next (serve (· == 39) judgeRead s)

/-- PLAN_COMMIT (R15). -/
def execPlanCommit (s : State) : Host.Outcome State Fault Refusal := .next (serve (· == 40) judgeCommit s)

/-- PLAN_CLEAR (R13, R17). -/
def execPlanClear (s : State) : Host.Outcome State Fault Refusal := .next (serve (· == 41) judgeClear s)

/-- RECORD_READ (R159). -/
def execRecordRead (s : State) : Host.Outcome State Fault Refusal := .next (serve (· == 35) judgeRecordRead s)

/-- RELEASE (R161). -/
def execRelease (s : State) : Host.Outcome State Fault Refusal := .next (serve (· == 34) judgeRelease s)

/-- GATHER (R165, R166). -/
def execGather (s : State) : Host.Outcome State Fault Refusal := .next (serve (· == 36) judgeGather s)

/-- REPORT_READ (R178). -/
def execReportRead (s : State) : Host.Outcome State Fault Refusal := .next (serve (· == 37) judgeReportRead s)

/-- STATUS_READ (R184, R186). -/
def execStatusRead (s : State) : Host.Outcome State Fault Refusal := .next (serve (· == 32) judgeStatusRead s)

/-- RESET_STATION (R187). -/
def execResetStation (s : State) : Host.Outcome State Fault Refusal := .next (serve (· == 33) judgeReset s)

/-- UNKNOWN_KIND_REQUEST (R182). -/
def execUnknownKindRequest (s : State) : Host.Outcome State Fault Refusal :=
  .next (serve (fun k => !isRequestKind k) judgeUnknown s)

/-- COMMIT_CHECK_END (R15, R16). -/
def execCommitCheckEnd (s : State) : Host.Outcome State Fault Refusal := .next (endCommitCheck s)

/-- REQUEST_SERVICE_END (R181). -/
def execRequestServiceEnd (s : State) : Host.Outcome State Fault Refusal := .next (endService s)

end Sys2Proof.Machine
end

