-- ==== Sys2Proof/Machine/Due.lean ====
section
/-! DEFINITION. Which of the part's own instants have come, and the order in which the model takes events that fall at
one instant when the queue of commands does not say otherwise (log entry 7). -/

namespace Sys2Proof.Machine

/-- The head of the pending-evaluation list is evaluated, and an ENDING run may be FINISHED (R103, R111). -/
def takeHorizon (s : State) : State := finishIfDone (evaluateHead s)

/-- Something at an input is due. -/
def inputDue (i : InputNo) (s : State) : Bool := (dueCandidate i s).isSome || releaseDue i s

/-- An event is due that may close the current visit at this instant. -/
def closingDue (s : State) : Bool :=
  clockLimitDue s || exitDue s || backstopDue s || fallbackDue s || (List.finRange 4).any (fun n => timerDue n s) ||
    (List.finRange 8).any (fun i => inputDue i s)

/-- A BO level is applied only when nothing is due that may close its visit: a delay as long as the visit never shows
(R62). Where a frame comes later at the same boundary and closes the visit there, the close takes the level back
(`levelsAtClose`). -/
def boLevelDue (o : OutputNo) (s : State) : Bool := boDelayDue o s && !closingDue s

/-- The command that judges a request kind (section 11.6). -/
def judgeCommand (kind : Nat) : Instr :=
  match kind with
  | 32 => .statusRead | 33 => .resetStation | 34 => .release | 35 => .recordRead | 36 => .gather | 37 => .reportRead
  | 38 => .planWrite | 39 => .planRead | 40 => .planCommit | 41 => .planClear | _ => .unknownKindRequest

/-- What the service of requests is due for: the judging of a request in hand at once, the end of a service at the
latest instant the manual allows (R181). -/
def serviceDue (s : State) : Option Instr :=
  match s.status.service with
  | .idle => none
  | .taken r _ => some (judgeCommand r.kind)
  | .answered _ _ _ since => if since + Config.serviceBound ≤ s.clock.elapsed then some .requestServiceEnd else none

/-- The commit check is due to end at the latest instant the manual allows (R15). -/
def checkDue (s : State) : Bool :=
  s.plan.state == .checking &&
    (match s.plan.checkBegan with
     | some t => decide (t + Config.commitBound ≤ s.clock.elapsed)
     | none => false)

/-- The events due at this instant, the sample boundary excepted, in the order the model takes them. -/
def dueList (s : State) : List Instr :=
  [(clockLimitDue s, .clockLimit), (initialEntryDue s, .initialStateEntry)].filterMap pick ++
    ((List.finRange 8).flatMap fun i =>
      [((dueCandidate i s).isSome, .debounceDeadline i), (releaseDue i s, .lockoutRelease i)]).filterMap pick ++
    ((List.finRange 4).map fun n => (timerDue n s, .timerExpiry n)).filterMap pick ++
    [(backstopDue s, .backstopExpiry), (fallbackDue s, .fallbackDeadline), (exitDue s, .exitBoundary),
      (openTimerDue s, .openTimerExpiry), (closeTimerDue s, .closeTimerExpiry)].filterMap pick ++
    ((List.finRange 4).map fun o => (boLevelDue o s, .boDelayExpiry o)).filterMap pick ++
    [(horizonDue s, .settleHorizon), (overloadDue 0 s, .overloadReport 0), (overloadDue 1 s, .overloadReport 1),
      (warmUpDue s, .warmUpExpiry), (idleDue s, .idleTimerExpiry), (pollDue s, .pollInstant),
      (replyDeadlineDue s, .gatherReplyDeadline), (repeatDue s, .gatherRepeatInstant),
      (onFinishDue s, .gatherOnFinish)].filterMap pick ++
    (serviceDue s).toList ++ [(checkDue s, .commitCheckEnd)].filterMap pick
where
  pick (x : Bool × Instr) : Option Instr := if x.1 then some x.2 else none

/-- This instant is a sample boundary whose samples have not been formed (R32): a multiple of 100 µs of the test clock,
or of the time since the end of reset while that clock stands. -/
def sampleDue (s : State) : Bool :=
  !s.clock.sampleTaken &&
    (if s.clock.running then decide (s.now % Config.samplePeriod = 0)
     else decide (0 < s.clock.elapsed ∧ s.clock.elapsed % Config.samplePeriod = 0))

/-- The next event of the part's own that is due: the sample of a boundary comes after everything else at its instant
(R23, R44). -/
def dueCommand (s : State) : Option Instr :=
  match dueList s with
  | c :: _ => some c
  | [] => if sampleDue s then some .sampleBoundary else none

/-- The sample boundary (R31): a sample of the visit, or six zeros. -/
def takeSample (s : State) : State :=
  let s := if s.engine.visit.isSome then sampleVisit s else sampleZero s
  s.modClock fun c => { c with sampleTaken := true }

/-- A microsecond passes with nothing due: operates held at this boundary belong to the visit that is still current
(R55, R105), what a check field ending now is judged by is remembered (R120, R121), and every count rises. -/
def tick (s : State) : State := advance (remember (settle (resolveHeld s)))

end Sys2Proof.Machine
end

