-- ==== Sys2Proof/Machine/RunCmds.lean ====
section
/-! DEFINITION. The instants of a run: INITIAL_STATE_ENTRY, TIMER_EXPIRY, BACKSTOP_EXPIRY, EXIT_BOUNDARY,
FALLBACK_DEADLINE, CLOCK_LIMIT, BO_DELAY_EXPIRY, SAMPLE_BOUNDARY, SETTLE_HORIZON. A command whose instant has not come
leaves the part as it stands (log entry 8). -/

namespace Sys2Proof.Machine

/-- INITIAL_STATE_ENTRY at t = 1000 (R43, R44). -/
def execInitialStateEntry (s : State) : Host.Outcome State Fault Refusal :=
  .next (if initialEntryDue s then settle (takeInitialEntry s) else s)

/-- TIMER_EXPIRY of a slot (R46). -/
def execTimerExpiry (slot : SlotNo) (s : State) : Host.Outcome State Fault Refusal :=
  .next (if timerDue slot s then settle (takeTimer slot s) else s)

/-- BACKSTOP_EXPIRY (R46). -/
def execBackstopExpiry (s : State) : Host.Outcome State Fault Refusal :=
  .next (if backstopDue s then settle (takeBackstop s) else s)

/-- EXIT_BOUNDARY (R45, R56, R58). -/
def execExitBoundary (s : State) : Host.Outcome State Fault Refusal :=
  .next (if exitDue s then settle (takeExit s) else s)

/-- FALLBACK_DEADLINE (R53). -/
def execFallbackDeadline (s : State) : Host.Outcome State Fault Refusal :=
  .next (if fallbackDue s then settle (takeFallback s) else s)

/-- CLOCK_LIMIT (R57). -/
def execClockLimit (s : State) : Host.Outcome State Fault Refusal :=
  .next (if clockLimitDue s then settle (takeClockLimit s) else s)

/-- BO_DELAY_EXPIRY of an output (R62). -/
def execBoDelayExpiry (out : OutputNo) (s : State) : Host.Outcome State Fault Refusal :=
  .next (if boLevelDue out s then takeBoDelay out s else s)

/-- SAMPLE_BOUNDARY: taken when nothing else is due at its instant (R23, R31). -/
def execSampleBoundary (s : State) : Host.Outcome State Fault Refusal :=
  .next (if sampleDue s && (dueList s).isEmpty then takeSample s else s)

/-- SETTLE_HORIZON of the oldest pending entry (R103, R111). -/
def execSettleHorizon (s : State) : Host.Outcome State Fault Refusal :=
  .next (if horizonDue s then settle (takeHorizon s) else s)

end Sys2Proof.Machine
end

