-- ==== Sys2Proof/Machine/Dispatch.lean ====
section
/-! DEFINITION. The meaning of every command: one arm per constructor of Instr. -/

namespace Sys2Proof.Machine

def exec (i : Instr) (s : State) : Host.Outcome State Fault Refusal :=
  match i with
  | .powerOnReset pins => Sys2Proof.Machine.execPowerOnReset pins s
  | .supplyFailAsserted => Sys2Proof.Machine.execSupplyFailAsserted s
  | .supplyFailDeasserted => Sys2Proof.Machine.execSupplyFailDeasserted s
  | .cableIdle rivals => Sys2Proof.Machine.execCableIdle rivals s
  | .frameCorrupt => Sys2Proof.Machine.execFrameCorrupt s
  | .frameOutcome ack busy answers => Sys2Proof.Machine.execFrameOutcome ack busy answers s
  | .linkOnline rivals => Sys2Proof.Machine.execLinkOnline rivals s
  | .overlengthFrameResync rivals => Sys2Proof.Machine.execOverlengthFrameResync rivals s
  | .duplicateOriginFrame f => Sys2Proof.Machine.execDuplicateOriginFrame f s
  | .requestArrival f => Sys2Proof.Machine.execRequestArrival f s
  | .replyReceived f => Sys2Proof.Machine.execReplyReceived f s
  | .arm f => Sys2Proof.Machine.execArm f s
  | .disarm f => Sys2Proof.Machine.execDisarm f s
  | .start f => Sys2Proof.Machine.execStart f s
  | .stop f => Sys2Proof.Machine.execStop f s
  | .step f => Sys2Proof.Machine.execStep f s
  | .abort f => Sys2Proof.Machine.execAbort f s
  | .mark f => Sys2Proof.Machine.execMark f s
  | .rollcall f => Sys2Proof.Machine.execRollcall f s
  | .planWrite => Sys2Proof.Machine.execPlanWrite s
  | .planRead => Sys2Proof.Machine.execPlanRead s
  | .planCommit => Sys2Proof.Machine.execPlanCommit s
  | .planClear => Sys2Proof.Machine.execPlanClear s
  | .recordRead => Sys2Proof.Machine.execRecordRead s
  | .release => Sys2Proof.Machine.execRelease s
  | .gather => Sys2Proof.Machine.execGather s
  | .reportRead => Sys2Proof.Machine.execReportRead s
  | .statusRead => Sys2Proof.Machine.execStatusRead s
  | .resetStation => Sys2Proof.Machine.execResetStation s
  | .unknownKindRequest => Sys2Proof.Machine.execUnknownKindRequest s
  | .commitCheckEnd => Sys2Proof.Machine.execCommitCheckEnd s
  | .initialStateEntry => Sys2Proof.Machine.execInitialStateEntry s
  | .timerExpiry slot => Sys2Proof.Machine.execTimerExpiry slot s
  | .backstopExpiry => Sys2Proof.Machine.execBackstopExpiry s
  | .exitBoundary => Sys2Proof.Machine.execExitBoundary s
  | .fallbackDeadline => Sys2Proof.Machine.execFallbackDeadline s
  | .clockLimit => Sys2Proof.Machine.execClockLimit s
  | .boDelayExpiry out => Sys2Proof.Machine.execBoDelayExpiry out s
  | .sampleBoundary => Sys2Proof.Machine.execSampleBoundary s
  | .rawTransition bi => Sys2Proof.Machine.execRawTransition bi s
  | .debounceDeadline bi => Sys2Proof.Machine.execDebounceDeadline bi s
  | .lockoutRelease bi => Sys2Proof.Machine.execLockoutRelease bi s
  | .openTimerExpiry => Sys2Proof.Machine.execOpenTimerExpiry s
  | .closeTimerExpiry => Sys2Proof.Machine.execCloseTimerExpiry s
  | .warmUpExpiry => Sys2Proof.Machine.execWarmUpExpiry s
  | .idleTimerExpiry => Sys2Proof.Machine.execIdleTimerExpiry s
  | .overloadLineAsserted line => Sys2Proof.Machine.execOverloadLineAsserted line s
  | .overloadLineDeasserted line => Sys2Proof.Machine.execOverloadLineDeasserted line s
  | .overloadReport line => Sys2Proof.Machine.execOverloadReport line s
  | .settleHorizon => Sys2Proof.Machine.execSettleHorizon s
  | .pollInstant => Sys2Proof.Machine.execPollInstant s
  | .gatherReplyDeadline => Sys2Proof.Machine.execGatherReplyDeadline s
  | .gatherRepeatInstant => Sys2Proof.Machine.execGatherRepeatInstant s
  | .gatherOnFinish => Sys2Proof.Machine.execGatherOnFinish s
  | .requestServiceEnd => Sys2Proof.Machine.execRequestServiceEnd s

end Sys2Proof.Machine
end

