-- ==== Sys2Proof/Machine/Step.lean ====
section
/-! DEFINITION. One step of the part: the command at the front of the queue, or with an empty queue the next of the
part's own events that is due, or the passing of a microsecond. -/

namespace Sys2Proof.Machine

/-- One step (log entry 7). A command at the front of the queue is taken with the rest of the queue left. With an empty
queue the part does not stand still: an event of its own that is due is taken, and with none due one microsecond
passes. -/
def step (s : State) : Host.Outcome State Fault Refusal :=
  match s.pending with
  | c :: rest => exec c (s.withPending rest)
  | [] => match dueCommand s with
    | some c => exec c s
    | none => .next (tick s)

/-- The command a word of the table's bits spells, put at the front of the queue; the table gives no row any bits, so no
word spells one (log entry 2). -/
def State.withFetchWord (s : State) (nbits w : Nat) : State :=
  match decodeTableWord nbits w with
  | some c => s.withPending (c :: s.pending)
  | none => s

end Sys2Proof.Machine
end

