-- ==== Sys2Proof/Safety.lean ====
section
/-! DEFINITION. What the part promises of its states: the laws of the data manual (Law 1 to Law 12) and the shapes of
the run, the queues and the store that they rest on, as predicates of one state. -/

namespace Sys2Proof.Safety

open Sys2Proof.Machine

/-- Between commands no outcome waits to be told: the model's own work list is empty. -/
def Quiet (s : State) : Prop := s.link.notices = []

/-- Law 1: every code a channel has computed or emitted lies within −32767..32767 (R29, R31). -/
def CodesBounded (s : State) : Prop :=
  ∀ i : ChannelNo,
    (s.synth.channels.get i).lastEmitted.natAbs ≤ 32767 ∧ (s.synth.channels.get i).lastComputed.natAbs ≤ 32767

/-- Law 5: whenever the run is ARMED, RUNNING or ENDING, the plan is VALID (R17). -/
def PlanHeld (s : State) : Prop := s.runActive = true → s.plan.state = .valid

/-- Two entries stand in report order (R173). -/
def InReportOrder (a b : ReportEntry) : Prop :=
  a.time < b.time ∨ a.time = b.time ∧ (a.origin < b.origin ∨ a.origin = b.origin ∧ a.index < b.index)

/-- Law 11: at most 512 entries, in report order, so that no two have the same origin station and index, and so that
record times do not decrease; no two share origin and index (R173). -/
def ReportOk (s : State) : Prop :=
  s.gather.report.entries.length ≤ 512 ∧
    s.gather.report.entries.Pairwise InReportOrder ∧
    s.gather.report.entries.Pairwise fun a b => ¬(a.origin = b.origin ∧ a.index = b.index)

/-- The transmit queue (R124, R125, R130): at most 8 entries in priority order, ages all different and below the next
age, at most one entry on the wire and that one BEGUN, none while MUTED; at most 4 requests wait (R127); and the frames
the Coordination Unit holds as its own were queued before now (R141, R142). -/
def QueuesOk (s : State) : Prop :=
  s.link.tx.length ≤ 8 ∧
    (s.link.tx.Pairwise fun a b => a.priority ≤ b.priority) ∧
    (s.link.tx.Pairwise fun a b => a.age ≠ b.age) ∧
    (∀ e ∈ s.link.tx, e.age < s.link.nextAge ∧ (e.onWire = true → e.begun = true)) ∧
    s.link.tx.countP (fun e => e.onWire) ≤ 1 ∧
    (s.link.state = .muted → s.link.tx = []) ∧
    s.link.requests.length ≤ 4 ∧
    (∀ a, s.coord.ownRoll = some a ∨ s.coord.ownStart = some a ∨ s.coord.gatherRoll = some a → a < s.link.nextAge)

/-- What belongs to a visit stands only while a visit is current, a visit is current only while the run is RUNNING, and
pending evaluations stand only while it is RUNNING or ENDING (R42, R50, R59, R100). -/
def RunShape (s : State) : Prop :=
  (s.engine.visit.isSome = true → s.engine.runState = .running) ∧
    (s.engine.visit = none → s.engine.decided = none ∧ s.engine.pendingMark = none ∧ s.engine.pendingFallback = none ∧
      s.engine.held = [] ∧ s.eval.working = none) ∧
    (s.eval.pendingList ≠ [] → s.runUnderWay = true)

/-- Law 9: a run never has more visits than the plan's visit limit, which is at least 1; an ARMED run has none (R4, R41,
R56). -/
def VisitsBounded (s : State) : Prop :=
  1 ≤ s.header.visitLimit ∧ s.header.visitLimit ≤ 64 ∧ (s.engine.runState = .armed → s.engine.visitCount = 0) ∧
    (s.runUnderWay = true → s.engine.visitCount ≤ s.header.visitLimit)

/-- Law 10: a run is RUNNING only up to t = 3,600,000,000, so that the test clock does not wrap within it (R57). -/
def ClockBounded (s : State) : Prop := s.engine.runState = .running → s.now ≤ Config.clockLimit

/-- A run that is ARMED, RUNNING or ENDING has a label, 1..254, and its reserve bookkeeping stands exactly then (R41,
R158). -/
def RunLabelled (s : State) : Prop :=
  (s.runActive = true → ∃ l, s.engine.runLabel = some l ∧ labelOk l = true) ∧
    (s.store.reserve.isSome = s.runActive)

/-- A held label and its chain (R150, R151, R155): the chain's blocks are its own, linked in order, full but for the
last, which holds at least one record; the records stand with indices 0, 1, 2 and onward. -/
def ChainOk (st : Store) (h : HeldLabel) : Prop :=
  h.chain ≠ [] ∧
    (∀ b ∈ h.chain, (st.blocks.get b).owner = some h.label) ∧
    (∀ k, k < h.chain.length → ∃ b, h.chain[k]? = some b ∧
      (st.blocks.get b).next = h.chain[k + 1]? ∧
      (st.blocks.get b).records.length = min 8 (h.count - 8 * k) ∧
      ∀ j r, (st.blocks.get b).records[j]? = some r → r.index = 8 * k + j) ∧
    8 * (h.chain.length - 1) < h.count ∧ h.count ≤ 8 * h.chain.length

/-- Law 6 and the first part of Law 8: every block is FREE or belongs to exactly one held label, no two held labels are
the same, and the records of each are indexed consecutively from 0 (R150 to R152, R155). -/
def StoreOk (st : Store) : Prop :=
  (∀ h ∈ st.heldLabels, ChainOk st h) ∧
    (st.heldLabels.Pairwise fun a b => a.label ≠ b.label) ∧
    (st.heldLabels.flatMap (·.chain)).Nodup ∧
    (∀ b, (∃ l, (st.blocks.get b).owner = some l) ↔ b ∈ st.heldLabels.flatMap (·.chain)) ∧
    (∀ b, (st.blocks.get b).owner = none → (st.blocks.get b) = StoreBlock.free)

/-- Law 6, the number of labels: at most 8 are held, and the run's label, while it is not yet held, has a place among
them (R136, R151). -/
def LabelsBounded (s : State) : Prop :=
  s.store.heldLabels.length ≤ 8 ∧
    (s.runActive = true → ∀ l, s.engine.runLabel = some l → isHeld s.store l = false → s.store.heldLabels.length ≤ 7)

/-- Law 7: while the run's bookkeeping stands, its free record capacity is at least the required reserve (R156); and
every visit begun is evaluated, pending or current. -/
def ReserveKept (s : State) : Prop :=
  ∀ r l, s.store.reserve = some r → s.engine.runLabel = some l →
    requiredReserve s.header.visitLimit r ≤ freeCapacity s.store l ∧
      r.evaluations + s.eval.pendingList.length + s.engine.visit.toList.length = s.engine.visitCount

/-- All that the run laws rest on together. -/
def RunInvariant (s : State) : Prop :=
  Quiet s ∧ PlanHeld s ∧ RunShape s ∧ VisitsBounded s ∧ RunLabelled s ∧ StoreOk s.store ∧ LabelsBounded s ∧
    ReserveKept s

/-- The gather's cursor stands exactly while the engine is busy (R164). -/
def GatherShape (s : State) : Prop := s.gather.cursor.isSome = gatherBusy s

/-- What every item of the plan reads back as: itself, with nothing clamped and nothing refused (R2, R14). -/
def ItemOk (it : PlanItem) : Prop :=
  let x := readItem it.id it.payload
  firstBad (addressChecks it.payload ++ x.checks) = none ∧ itemIdOf it.payload = it.id ∧ x.item = it ∧ x.clamped = 0 ∧
    writeLength (byteAt it.payload 0) = some it.payload.length

/-- Every stored item is in its ranges (R3 to R12). -/
def PlanInRange (s : State) : Prop := ∀ id : ItemId, ItemOk (fetchItem id s.plan.items)

/-- The overload debouncers of an ABSENT supervisor are CLEAR, and a timer runs only in the state that has it (R92, R94,
R95). -/
def AmplifierShape (s : State) : Prop :=
  (s.amp.state = .absent → s.amp.debouncers = Vector.replicate 2 .clear) ∧
    (s.amp.warmUp.isSome = true → s.amp.state = .warming) ∧ (s.amp.idle.isSome = true → s.amp.state = .ready)

/-- The simulated breaker is away from CLOSED, and a current channel is watched or forced, only while the run is RUNNING
(R38, R79, R80). -/
def BreakerShape (s : State) : Prop := s.engine.runState ≠ .running → s.breaker = Breaker.initial

end Sys2Proof.Safety
end

