-- ==== Sys2Proof/Certificates/Slice0/Obligations.lean ====
section
/-! DEFINITION. The statements for the provers. A statement says what a command does by the rules of the data manual: the
new values, and, as an equation `t = { s with … }` or block by block, that nothing else changes. `Sys2Proof.Claims` holds
the words the statements share. Where a statement says that nothing happens, before an instant has come or without the
condition a command needs, that is the model's choice, log entry 8. -/

namespace Sys2Proof.Claims

open Sys2Proof.Machine Sys2Proof.Safety

/-- A received frame meets the conditions of R119 at the station: its check is good, it was read to the end of a payload
of at most 40 bytes, its destination is the station, its group or ALL, and its form is one its kind allows. -/
def Acceptable (f : RxFrame) (s : State) : Prop :=
  crc16 (frameBits f) = f.check ∧ f.length.toNat ≤ 40 ∧ f.payload.length = f.length.toNat ∧
    ((f.destForm = 0 ∧ f.destNumber.toNat = s.link.straps.station.val) ∨
      (f.destForm = 1 ∧ f.destNumber.toNat = s.link.straps.group.val) ∨ f.destForm = 2) ∧
    (if 1 ≤ f.kind.toNat ∧ f.kind.toNat ≤ 8 then f.destForm = 1 ∨ f.destForm = 2 else f.destForm = 0)

/-- The station receives another station's frame and accepts it, with no outcome of its own frames left to be told. -/
def Heard (f : RxFrame) (s : State) : Prop :=
  Acceptable f s ∧ s.link.resync = false ∧ f.origin ≠ s.link.straps.station ∧ Quiet s

/-- A frame of a kind with a one-byte payload that names the run `l`, 1..254 (R132, R190). -/
def Names (k : Nat) (l : Label) (f : RxFrame) : Prop :=
  f.kind.toNat = k ∧ f.payload = [l] ∧ 1 ≤ l.toNat ∧ l.toNat ≤ 254

/-- The state with the slots driven (R120, R121). -/
def driven (d : SlotDrive) (s : State) : State := { s with link := { s.link with drive := d } }

/-- What a receiver drives for a group frame: ack while ONLINE, and a bit of the roll-call field (R120, R121). -/
def groupSlots (s : State) (bit : Bool) : SlotDrive :=
  { ack := s.link.state == .online, busy := false, rollBit := s.link.state == .online && bit }

/-- The state after the slots of a group frame that is no ROLLCALL. -/
def acked (s : State) : State := driven (groupSlots s false) s

/-- No slot driven. -/
def noSlots : SlotDrive := { ack := false, busy := false, rollBit := false }

/-- A frame placed now finds a place in the queue: the station is not MUTED and fewer than 8 entries wait (R125, R130). -/
def Room (s : State) : Prop := s.link.state ≠ .muted ∧ s.link.tx.length < 8

/-- The entry a block's frame gets when it is placed now. -/
def newEntry (t : TxFrame) (s : State) : TxEntry :=
  { frame := t, age := s.link.nextAge, begun := false, onWire := false }

/-- A group frame of the part's own: to its group, with tag 0 (R115, R116). -/
def groupFrame (b : FrameBody) (o : Owner) : TxFrame := { dest := none, tag := 0, body := b, owner := o }

/-- A reply to a request (R183). -/
def replyFrame (r : Request) (o : Owner) (kind : Nat) (payload : List Byte) : TxFrame :=
  { dest := some r.origin, tag := r.tag, body := .reply kind payload, owner := o }

/-- The queue `q'` is the queue `q` with `e` behind the entries of its own or a higher priority and ahead of the others
(R124, R125). -/
def Inserted (e : TxEntry) (q q' : List TxEntry) : Prop :=
  ∃ a b, q = a ++ b ∧ q' = a ++ e :: b ∧ (∀ x ∈ a, x.priority ≤ e.priority) ∧ (∀ x ∈ b.head?, e.priority < x.priority)

/-- The first sample boundary at or after `x` that is later than `entry` (R50, R58). -/
def IsExitBoundary (entry x b : Instant) : Prop :=
  b % 100 = 0 ∧ x ≤ b ∧ entry < b ∧ ∀ c, c % 100 = 0 → x ≤ c → entry < c → b ≤ c

/-- The request in hand, taken at the elapsed time `since`, and no outcome left to be told. -/
def InHand (r : Request) (since : Nat) (s : State) : Prop := s.status.service = .taken r since ∧ Quiet s

/-- The state with the request answered: its reply waits for the end of service (R181). -/
def answered (r : Request) (since kind : Nat) (payload : List Byte) (s : State) : State :=
  { s with status := { s.status with service := .answered r kind payload since } }

/-- The state with the request refused: REFUSE with the kind as received, the code and the position, and the count of
requests refused up by 1 (R182, R190). -/
def refused (r : Request) (since code position : Nat) (s : State) : State :=
  { s with
    status :=
      { s.status with
        service := .answered r 17 [byte r.kind, byte code, byte position] since
        refused := min 65535 (s.status.refused + 1) } }

/-- The service is over: the oldest waiting request is taken, and counted as served; with none waiting the service is
IDLE (R181). -/
def serviceNext (s : State) : State :=
  match s.link.requests with
  | [] => { s with status := { s.status with service := .idle } }
  | r :: rest =>
    { s with
      link := { s.link with requests := rest }
      status :=
        { s.status with service := .taken r s.clock.elapsed, served := min 65535 (s.status.served + 1) } }

/-- The outputs at the rest levels of the stored HEADER (R63). -/
def atRest (s : State) : Engine :=
  { s.engine with boLevels := s.plan.items.header.boRest, boSchedule := Vector.replicate 4 none }

/-- The poller in OFF: no poll instant and no frame whose outcome it waits for (R144). -/
def pollerOffOf (c : Coordination) : Coordination :=
  { c with poller := .off, nextPoll := none, ownRoll := none, ownStart := none }

/-- The record that stands last under a label. -/
def LastRecord (l : Label) (time : Instant) (c : Contents) (s : State) : Prop :=
  ∃ h r, h ∈ s.store.heldLabels ∧ h.label = l ∧ recordAt s.store h (h.count - 1) = some r ∧ r.index = h.count - 1 ∧
    r.time = time ∧ r.contents = c

/-- The run's RUN-SUMMARY stands last under its label, and the label's end state is `e` (R151, R154). -/
def Summarised (l : Label) (time : Instant) (e : EndState) (c : Contents) (s : State) : Prop :=
  LastRecord l time c s ∧ ∀ h ∈ s.store.heldLabels, h.label = l → h.endState = e

/-- What is judged at the end of a check field that ends now (R120, R121): room for a fifth place of the request queue,
and the conditions of the three roll-call classes (R140). -/
def viewNow (s : State) : CheckView where
  room := decide (s.link.requests.length < 4)
  ready := decide (s.engine.runState = .armed ∧ (s.amp.state = .ready ∨ s.amp.state = .absent))
  done := decide ((s.engine.runState = .finished ∨ s.engine.runState = .aborted) ∧
    ∃ h ∈ s.store.heldLabels, s.engine.runLabel = some h.label)
  fault := decide (s.status.latch.planInvalid = true ∨ s.status.latch.armRefused ≠ none ∨
    s.status.latch.ampFault = true ∨ s.status.latch.notReady = true ∨ s.status.latch.txDropped = true ∨
    s.status.latch.markUncoordinated = true)

/-- What was judged `n` µs ago, as it is remembered (log entry 9): 2 µs before the frame instant of a request its check
field ended, 18 µs before that of a ROLLCALL. With less than that remembered since reset, it is judged as it stands. -/
def judgedAt (n : Nat) (s : State) : CheckView := s.past[n - 1]?.getD (viewNow s)

/-- The free record capacity that a label sees (R150): 8 for each FREE block, and the empty places of its tail block. -/
def capacity (st : Store) (l : Label) : Nat :=
  (freeBlocks st).length * 8 +
    ((st.heldLabels.find? fun h => h.label == l).map fun h => 8 * h.chain.length - h.count).getD 0

/-- From `s` to `t` one record is appended under `l`, with this time, and nothing else changes (R152, R155): it stands
last with the label's next index, a label not held before is held OPEN with this one record, and every record held
before stands where it stood. -/
def Appended (l : Label) (c : Contents) (s t : State) : Prop :=
  LastRecord l s.now c t ∧ t = { s with store := t.store } ∧ t.store.reserve = s.store.reserve ∧
    (∀ h ∈ s.store.heldLabels, ∃ g ∈ t.store.heldLabels, g.label = h.label ∧ g.endState = h.endState ∧
      g.count = h.count + (if h.label = l then 1 else 0) ∧
      ∀ i, i < h.count → recordAt t.store g i = recordAt s.store h i) ∧
    (∀ g ∈ t.store.heldLabels, (∀ h ∈ s.store.heldLabels, h.label ≠ g.label) →
      g.label = l ∧ g.count = 1 ∧ g.endState = .opened)

/-- The EVALUATION record of a pending entry (R110). -/
def evaluated (p : PendingEntry) : Contents :=
  .evaluation p.state p.number p.entry p.exit p.cause p.uncoordinated p.clipped p.clipTotal
    (p.judged.map (verdictEntry p.entry))

/-- The records of an abort of a RUNNING or ENDING run (R60 steps 2, 5 and 6, R61, R112, R152, R154): under the run's
label, whose end state is ABORTED, stand the EVALUATION of every pending entry, the visit closed at the abort the last
of them, oldest first, and behind them the RUN-SUMMARY, all with the abort instant as record time. They are the last
records of the label, but for the late ones of a station reset (R157). The dropped-record count is the run's, with no
MARK of it to be logged in between. -/
def AbortRecords (reason : EndReason) (s t : State) : Prop :=
  let ps := (closeVisit s.now .abort s).eval.pendingList
  ∀ l, s.engine.runLabel = some l → ∃ h ∈ t.store.heldLabels, h.label = l ∧ h.endState = .aborted ∧
    ∃ n d, ps.length < n ∧ n ≤ h.count ∧ (reason ≠ .stationReset → n = h.count) ∧
      (∀ k p, ps[k]? = some p → ∃ r, recordAt t.store h (n - 1 - ps.length + k) = some r ∧
        r.index = n - 1 - ps.length + k ∧ r.time = s.now ∧ r.contents = evaluated p) ∧
      (∃ r, recordAt t.store h (n - 1) = some r ∧ r.index = n - 1 ∧ r.time = s.now ∧
        r.contents =
          .runSummary reason s.engine.visitCount d s.engine.latestVisit s.link.straps.cableDelay.val) ∧
      (s.engine.pendingMark = none → (∀ e ∈ s.link.tx, ∀ m c x, e.frame.body ≠ .mark m c x) →
        s.store.reserve.map (·.dropped) = some d)

/-- The pending coordinated mark `p` of the run `l` is given up from `s` to `t` (R54): while it waits, its frame leaves
the queue and a MARK-SENT record with outcome DROPPED and no frame instant is handed to the store; once begun, its frame
stands and nothing is logged. -/
def GivenUp (p : PendingMark) (l : Label) (s t : State) : Prop :=
  t.engine.pendingMark = none ∧
    ((∃ e ∈ s.link.tx, e.age = p.age ∧ e.begun = false) →
      t.link = { s.link with tx := s.link.tx.filter fun u => u.age ≠ p.age } ∧
        t.store = (storeEvent l (.markSent p.code p.detection .dropped none) s).store) ∧
    ((∀ e ∈ s.link.tx, e.age = p.age → e.begun = true) → t.link = s.link ∧ t.store = s.store)

/-- Of the pending list `ps` the entries whose horizon has come leave the head, oldest first, each with its EVALUATION
under the run's label and this instant as record time (R103). -/
def EvaluatedWhileDue (ps : List PendingEntry) (s t : State) : Prop :=
  ∃ k, t.eval.pendingList = ps.drop k ∧ (∀ p ∈ ps.take k, p.horizon ≤ s.now) ∧
    (∀ p ∈ (ps.drop k).head?, s.now < p.horizon) ∧
    ∀ l, RunInvariant s → s.engine.runLabel = some l → ∀ p ∈ ps.take k, ∃ h ∈ t.store.heldLabels, h.label = l ∧
      ∃ i r, i < h.count ∧ recordAt t.store h i = some r ∧ r.time = s.now ∧ r.contents = evaluated p

/-- The exit cause `c` of a visit that `d` decided (R42, R45). -/
def CauseIs (ts : Vector Trigger 4) (d : Decider) (c : ExitCause) : Prop :=
  (d = .backstop → c = .backstop) ∧ (d = .stop → c = .stop) ∧
    ∀ n, d = .slot n →
      (∀ x target code, ts.get n = .timer x target code → c = .timer n) ∧
        (∀ bi dir target code, ts.get n = .input bi dir target code → c = .input n) ∧
        (∀ code origin target, ts.get n = .mark code origin target → c = .mark n) ∧
        (∀ target, ts.get n = .step target → c = .step n)

/-- `w` is `v` brought to the nearer limit of the range `lo`..`hi` (R3). -/
def Clamped (lo hi v w : Nat) : Prop := (v < lo → w = lo) ∧ (hi < v → w = hi) ∧ (lo ≤ v → v ≤ hi → w = v)

/-- A byte that names one of `n` things, or NONE, END or ANY (R189). -/
def NamedOrNone (n v : Nat) : Prop := v < n ∨ v = 255

/-- What such a byte is stored as. -/
def StoredAs {n : Nat} (v : Nat) (x : Option (Fin n)) : Prop := (v = 255 → x = none) ∧ (v < n → x.map (·.val) = some v)

/-- What a target byte is stored as (R8, R10). -/
def TargetAs (v : Nat) (t : Target) : Prop :=
  (v = 255 → t = .endRun) ∧ (v < 24 → ∃ st, t = .state st ∧ st.val = v)

/-- A byte that names a mark code, or NONE (R8, R10, R12). -/
def CodeOrNone (v : Nat) : Prop := (1 ≤ v ∧ v ≤ 63) ∨ v = 255

/-- What such a byte is stored as. -/
def CodeAs (v : Nat) (c : Option MarkCode) : Prop := (v = 255 → c = none) ∧ (v < 255 → c.map (·.toNat) = some v)

/-- How many of the pairs differ: the clamped fields of a write (R3). -/
def differing (zs : List (Nat × Nat)) : Nat := zs.countP fun z => decide (z.1 ≠ z.2)

/-- A selector's four bytes from `i` are in their ranges (R7). -/
def SelectorInRange (p : List Byte) (i : Nat) : Prop :=
  let event := byteAt p (i + 1)
  let parameter := byteAt p (i + 2)
  byteAt p i < 16 ∧ 1 ≤ event ∧ event ≤ 5 ∧ (event = 1 → parameter < 24) ∧ (event = 2 ∨ event = 3 → parameter < 8) ∧
    (event = 4 → 1 ≤ parameter ∧ parameter ≤ 63) ∧ 1 ≤ byteAt p (i + 3) ∧ byteAt p (i + 3) ≤ 4

/-- What a selector's four bytes from `i` are stored as (R7). -/
def SelectorAs (p : List Byte) (i : Nat) (x : Selector) : Prop :=
  let event := byteAt p (i + 1)
  let parameter := byteAt p (i + 2)
  (byteAt p i < 16 → x.station.val = byteAt p i) ∧
    (event = 1 → parameter < 24 → ∃ st, x.event = .stateEntry st ∧ st.val = parameter) ∧
    (event = 2 → parameter < 8 → ∃ bi, x.event = .inputOperate bi ∧ bi.val = parameter) ∧
    (event = 3 → parameter < 8 → ∃ bi, x.event = .inputReset bi ∧ bi.val = parameter) ∧
    (event = 4 → ∃ code, x.event = .markSent code ∧ code.toNat = parameter) ∧ (event = 5 → x.event = .breakerOpen) ∧
    x.occurrence = byteAt p (i + 3)

/-- The ranges of HEADER, INPUT-SETUP and BREAKER-SETUP (R4, R5, R6): which fields refuse the write, and what the others
are stored as. -/
def SetupRanges : Prop :=
  (∀ p, let x := readItem .header p
    (firstBad x.checks = none ↔ 1 ≤ byteAt p 3 ∧ byteAt p 3 ≤ 64 ∧ byteAt p 4 < 24 ∧ byteAt p 7 < 2 ∧
      NamedOrNone 16 (byteAt p 8) ∧ byteAt p 11 < 16) ∧ x.clamped = 0 ∧
    ∃ h, x.item = .header h ∧ h.visitLimit = byteAt p 3 ∧ (byteAt p 4 < 24 → h.initialState.val = byteAt p 4) ∧
      (∀ i, h.startSet.get i = (num2 p 5).testBit i.val) ∧ (h.rounding = .nearestEven ↔ byteAt p 7 = 0) ∧
      StoredAs (byteAt p 8) h.gatherStation ∧ (∀ i, h.gatherSet.get i = (num2 p 9).testBit i.val) ∧
      ∀ o, h.boRest.get o = (byteAt p 11).testBit o.val) ∧
    (∀ bi p, let x := readItem (.inputSetup bi) p
      (firstBad x.checks = none ↔ byteAt p 3 < 2) ∧
      ∃ u, x.item = .inputSetup bi u ∧ (u.activeHigh = true ↔ byteAt p 3 = 1) ∧ Clamped 0 250 (byteAt p 4) u.debounce ∧
        (byteAt p 5 = 0 → u.chatterLimit = 0) ∧ (byteAt p 5 ≠ 0 → Clamped 3 15 (byteAt p 5) u.chatterLimit) ∧
        Clamped 10 1000 (num2 p 6) u.chatterWindow ∧ Clamped 10 2000 (num2 p 8) u.quietGap ∧
        x.clamped = differing [(byteAt p 4, u.debounce), (byteAt p 5, u.chatterLimit), (num2 p 6, u.chatterWindow),
          (num2 p 8, u.quietGap)]) ∧
    ∀ p, let x := readItem .breakerSetup p
      (firstBad x.checks = none ↔ byteAt p 3 < 2 ∧ byteAt p 4 < 8 ∧ NamedOrNone 8 (byteAt p 5) ∧
        NamedOrNone 4 (byteAt p 10) ∧ NamedOrNone 4 (byteAt p 11)) ∧
      ∃ b, x.item = .breakerSetup b ∧ (b.enabled = true ↔ byteAt p 3 = 1) ∧
        (byteAt p 4 < 8 → b.tripInput.val = byteAt p 4) ∧ StoredAs (byteAt p 5) b.closeInput ∧
        Clamped 0 500 (num2 p 6) b.openTime ∧ Clamped 0 500 (num2 p 8) b.closeTime ∧
        StoredAs (byteAt p 10) b.out52a ∧ StoredAs (byteAt p 11) b.out52b ∧
        x.clamped = differing [(num2 p 6, b.openTime), (num2 p 8, b.closeTime)]

/-- The ranges of REPORT-TERM, STATE-CONTROL and STATE-CHANNEL (R7, R8, R9). -/
def TermAndStateRanges : Prop :=
  (∀ k p, let x := readItem (.reportTerm k) p
    (firstBad x.checks = none ↔
      byteAt p 3 < 2 ∧ SelectorInRange p 4 ∧ SelectorInRange p 8 ∧ snum4 p 12 ≤ snum4 p 16) ∧ x.clamped = 0 ∧
    ∃ r, x.item = .reportTerm k r ∧ (r.enabled = true ↔ byteAt p 3 = 1) ∧ r.bandMin = snum4 p 12 ∧
      r.bandMax = snum4 p 16 ∧ SelectorAs p 4 r.selA ∧ SelectorAs p 8 r.selB) ∧
    (∀ st p, let x := readItem (.stateControl st) p
      (firstBad x.checks = none ↔ num4 p 7 ≠ 0 ∧ NamedOrNone 24 (byteAt p 11) ∧ byteAt p 12 < 16 ∧
        CodeOrNone (byteAt p 21)) ∧
      ∃ c, x.item = .stateControl st c ∧ Clamped 15000 75000 (num4 p 3) c.frequency ∧
        Clamped 0 3600000 (num4 p 7) c.backstop ∧ TargetAs (byteAt p 11) c.backstopTarget ∧
        (∀ o, c.boLevels.get o = (byteAt p 12).testBit o.val) ∧
        (∀ o, Clamped 0 1000 (num2 p (13 + 2 * o.val)) (c.boDelays.get o)) ∧ CodeAs (byteAt p 21) c.entryMark ∧
        x.clamped = differing ([(num4 p 3, c.frequency), (num4 p 7, c.backstop)] ++
          (List.finRange 4).map fun o => (num2 p (13 + 2 * o.val), c.boDelays.get o))) ∧
    ∀ st ch p, let x := readItem (.stateChannel st ch) p
      (firstBad x.checks = none ↔ (byteAt p 9 = 0 ∨ (2 ≤ byteAt p 9 ∧ byteAt p 9 ≤ 25)) ∧ byteAt p 14 < 3) ∧
      ∃ i, x.item = .stateChannel st ch i ∧ Clamped 0 (if ch.val < 3 then 300000 else 32000) (num4 p 3) i.magnitude ∧
        i.angle = num2 p 7 % 36000 ∧ i.harmonicOrder = byteAt p 9 ∧
        (byteAt p 9 = 0 → i.harmonicMagnitude = 0 ∧ i.harmonicAngle = 0) ∧
        (byteAt p 9 ≠ 0 → Clamped 0 1000 (num2 p 10) i.harmonicMagnitude ∧ i.harmonicAngle = num2 p 12 % 36000) ∧
        (i.dcMode = .off ↔ byteAt p 14 = 0) ∧ (i.dcMode = .fixed ↔ byteAt p 14 = 1) ∧
        (byteAt p 14 ≠ 1 → i.dcInitial = 0) ∧
        (byteAt p 14 = 1 → i.dcInitial = if snum2 p 15 = -32768 then -32767 else snum2 p 15) ∧ i.kd = num2 p 17 ∧
        x.clamped = differing [(num4 p 3, i.magnitude)] +
          (if byteAt p 9 = 0 then 0 else differing [(num2 p 10, i.harmonicMagnitude)]) +
          (if byteAt p 14 = 1 ∧ snum2 p 15 = -32768 then 1 else 0)

/-- The ranges of STATE-TRIGGER, STATE-WINDOW and STATE-MARKS (R10, R11, R12). -/
def TriggerRanges : Prop :=
  (∀ st n p, let x := readItem (.stateTrigger st n) p
    let kind := byteAt p 3
    let named := NamedOrNone 24 (byteAt p 12)
    (firstBad x.checks = none ↔ kind = 0 ∨
      (kind = 1 ∧ num4 p 4 ≠ 0 ∧ named ∧ CodeOrNone (byteAt p 13)) ∨
      (kind = 2 ∧ byteAt p 8 < 8 ∧ (byteAt p 9 = 1 ∨ byteAt p 9 = 2) ∧ named ∧ CodeOrNone (byteAt p 13)) ∨
      (kind = 3 ∧ 1 ≤ byteAt p 10 ∧ byteAt p 10 ≤ 63 ∧ NamedOrNone 16 (byteAt p 11) ∧ named ∧ byteAt p 13 = 255) ∨
      (kind = 4 ∧ named ∧ byteAt p 13 = 255)) ∧
    ∃ t, x.item = .stateTrigger st n t ∧ (kind = 0 → t = .empty ∧ x.clamped = 0) ∧
      (kind = 1 → ∃ d target code, t = .timer d target code ∧ Clamped 0 3600000 (num4 p 4) d ∧ TargetAs (byteAt p 12) target ∧
        CodeAs (byteAt p 13) code ∧ x.clamped = differing [(num4 p 4, d)]) ∧
      (kind = 2 → ∃ bi edge target code, t = .input bi edge target code ∧ (byteAt p 8 < 8 → bi.val = byteAt p 8) ∧
        (edge = .operate ↔ byteAt p 9 = 1) ∧ TargetAs (byteAt p 12) target ∧ CodeAs (byteAt p 13) code ∧ x.clamped = 0) ∧
      (kind = 3 → ∃ code origin target, t = .mark code origin target ∧ code.toNat = byteAt p 10 ∧
        StoredAs (byteAt p 11) origin ∧ TargetAs (byteAt p 12) target ∧ x.clamped = 0) ∧
      (kind = 4 → ∃ target, t = .step target ∧ TargetAs (byteAt p 12) target ∧ x.clamped = 0)) ∧
    (∀ st bi p, let x := readItem (.stateWindow st bi) p
      (firstBad x.checks = none ↔ byteAt p 3 = 0 ∨ byteAt p 3 = 2 ∨
        (byteAt p 3 = 1 ∧ min 600000 (num4 p 4) ≤ min 600000 (num4 p 8))) ∧
      ∃ w, x.item = .stateWindow st bi w ∧ (byteAt p 3 = 0 → w = .dontCare ∧ x.clamped = 0) ∧
        (byteAt p 3 = 2 → w = .noOperate ∧ x.clamped = 0) ∧
        (byteAt p 3 = 1 → ∃ lo hi, w = .operate lo hi ∧ Clamped 0 600000 (num4 p 4) lo ∧
          Clamped 0 600000 (num4 p 8) hi ∧ x.clamped = differing [(num4 p 4, lo), (num4 p 8, hi)])) ∧
    ∀ st p, let x := readItem (.stateMarks st) p
      (firstBad x.checks = none ↔ ∀ i : InputNo, CodeOrNone (byteAt p (3 + i.val))) ∧ x.clamped = 0 ∧
      ∃ m, x.item = .stateMarks st m ∧ ∀ i : InputNo, CodeAs (byteAt p (3 + i.val)) (m.get i)

/-- The payload of a GATHER-DONE (R174, R190) for the label `l` and the report `r`: the label, the outcome, the halting
station, the sixteen 3-bit statuses with station 0 first, the entry count and TRUNCATED. -/
def DonePayload (l : Label) (r : Report) (p : List Byte) : Prop :=
  p.length = 12 ∧ p.getD 0 0 = l ∧ (r.outcome = .completed → byteAt p 1 = 1 ∧ byteAt p 2 = 255) ∧
    (∀ x, r.outcome = .failed x → byteAt p 1 = 2 ∧ byteAt p 2 = (x.map (·.val)).getD 255) ∧
    (∀ i : StationNo, (num4 p 3 * 65536 + num2 p 7) / 8 ^ (15 - i.val) % 8 = (r.status.get i).code) ∧
    (r.entries.length < 65536 → num2 p 9 = r.entries.length) ∧ byteAt p 11 = if r.truncated = true then 1 else 0

/-- The gather under the cursor `c` ends with outcome `o` and the statuses `v`, with the queue `q` before (R174, R176):
the engine is DONE with no cursor, every term is evaluated by the plan's terms and rounding mode over the report, the
rest of which stands, and GATHER-DONE is queued to the requester, if there is one. -/
def GatherEnded (c : Cursor) (o : GatherOutcome) (v : Vector StationStatus 16) (q : List TxEntry) (s t : State) : Prop :=
  let r := t.gather.report
  t.gather = { s.gather with
      state := .done, cursor := none
      report := { s.gather.report with
        status := v, outcome := o, rounding := s.plan.items.header.rounding, terms := r.terms } } ∧
    (∀ k, r.terms.get k = termResult s.plan.items.header.rounding (s.plan.items.terms.get k) r) ∧
    (c.requester = none → t.link.tx = q) ∧
    ∀ st tag, c.requester = some (st, tag) → q.length < 8 → s.link.state ≠ .muted → ∃ p, DonePayload c.label r p ∧
      Inserted (newEntry { dest := some st, tag := tag, body := .reply 24 p, owner := .gatherEngine } s) q t.link.tx

/-- The station `st` of the cursor `c` is closed with status `x`, with the queue `q` before (R168, R170 to R172): with no
later station of the sweep set the gather ends COMPLETED, and otherwise goes on with the next one, another station than
the own being read at index 0 with the next tag. Beside the queue and the gather nothing changes. -/
def StationClosed (x : StationStatus) (c : Cursor) (st : StationNo) (q : List TxEntry) (s t : State) : Prop :=
  let isNext (i : StationNo) : Prop := c.sweepSet.get i = true ∧ st < i ∧ ∀ j, st < j → j < i → c.sweepSet.get j = false
  let v := setAt s.gather.report.status st x
  t.gather.report.status.get st = x ∧ t = { s with gather := t.gather, link := t.link } ∧
    ((∀ i, ¬isNext i) → GatherEnded c .completed v q s t ∧ t.link.outstanding = none) ∧
    ∀ i, isNext i → i ≠ s.link.straps.station →
      t.gather =
          { s.gather with
            tagCounter := s.gather.tagCounter + 1
            report := { s.gather.report with status := v }
            cursor := some
              { c with
                station := some i, index := 0, notYetSince := none, readTag := some s.gather.tagCounter
                deadline := none, repeatAt := none } } ∧
        t.link.outstanding = some { station := i, tag := s.gather.tagCounter } ∧
        (q.length < 8 → s.link.state ≠ .muted → Inserted
          (newEntry { dest := some i, tag := s.gather.tagCounter, body := .recordRead c.label 0, owner := .gatherEngine }
            s) q t.link.tx)

/-- After a silent read of station `st` under the cursor `c` (R172, R174), with the queue `q` before: the station is
NO-ANSWER and keeps what was merged. Under HALT the gather ends FAILED with that station halting; under SKIP the station
is closed and the sweep moves on. Beside the queue and the gather nothing changes. -/
def SilentRead (c : Cursor) (st : StationNo) (q : List TxEntry) (s t : State) : Prop :=
  t.gather.report.status.get st = .noAnswer ∧ t = { s with gather := t.gather, link := t.link } ∧
    (c.haltSilence = true →
      GatherEnded c (.failed (some st)) (setAt s.gather.report.status st .noAnswer) q s t ∧ t.link.outstanding = none) ∧
    (c.haltSilence = false → StationClosed .noAnswer c st q s t)

/-- What the outcome `o`, DROPPED or CORRUPT, of the part's own frame `e` does at its owner, from `s` to `t`, when the
queue `q` is left (R53, R142, R143, R145, R167, R169, R172). -/
def Lost (e : TxEntry) (o : FrameOutcome) (q : List TxEntry) (s t : State) : Prop :=
  let left : State := { s with link := { s.link with tx := q, notices := [] } }
  let free : Prop := q.length < 8 ∧ s.link.state ≠ .muted
  ((∃ k p, e.frame.body = .reply k p) ∨ (∃ l r, e.frame.body = .abort l r) → t = left) ∧
    (∀ l c d p, e.frame.body = .mark l c d → s.engine.pendingMark = some p → p.age = e.age →
      t = { left with
            engine := { s.engine with
              pendingMark := none
              pendingFallback := some { slot := p.slot, instant := p.detection + 20000 } }
            store := (storeEvent l (.markSent c d o none) s).store }) ∧
    (∀ l c d, e.frame.body = .mark l c d → (∀ p, s.engine.pendingMark = some p → p.age ≠ e.age) →
      t = { left with store := (storeEvent l (.markSent c d o none) s).store }) ∧
    (∀ l, e.frame.body = .start l → s.coord.ownStart = some e.age → s.engine.runState = .armed →
      (s.amp.state = .ready ∨ s.amp.state = .absent) →
      t = { left with
            coord := { s.coord with ownStart := none, poller := .polling, nextPoll := some (s.coord.count + 20000) } }) ∧
    (∀ l, e.frame.body = .start l → s.coord.ownStart = some e.age →
      ¬(s.engine.runState = .armed ∧ (s.amp.state = .ready ∨ s.amp.state = .absent)) →
      t.coord = pollerOffOf s.coord ∧ t = { s with link := t.link, coord := t.coord }) ∧
    (∀ l, e.frame.body = .start l → s.coord.ownStart ≠ some e.age → t = left) ∧
    (∀ cls, e.frame.body = .rollcall cls → s.coord.ownRoll = some e.age →
      t = { left with coord := { s.coord with ownRoll := none } }) ∧
    (∀ cls, e.frame.body = .rollcall cls → s.coord.ownRoll ≠ some e.age → s.coord.gatherRoll ≠ some e.age → t = left) ∧
    (∀ cls c, e.frame.body = .rollcall cls → s.coord.ownRoll ≠ some e.age → s.coord.gatherRoll = some e.age →
      s.gather.cursor = some c →
      t.gather.state = .done ∧ t.gather.cursor = none ∧ t.gather.report.outcome = .failed none ∧
        t.gather.report.entries = s.gather.report.entries ∧ t.gather.report.status = s.gather.report.status ∧
        t.coord.gatherRoll = none ∧
        (free → GatherEnded c (.failed none) s.gather.report.status q s t ∧
          t = { s with coord := { s.coord with gatherRoll := none }, gather := t.gather, link := t.link })) ∧
    (∀ l i st c, e.frame.body = .recordRead l i → e.frame.dest = some st →
      s.link.outstanding = some { station := st, tag := e.frame.tag } → s.gather.cursor = some c → c.station = some st →
      t.gather.report.status.get st = .noAnswer ∧ (free → SilentRead c st q s t) ∧
        (c.haltSilence = true → t.gather.state = .done ∧ t.gather.report.outcome = .failed (some st))) ∧
    ∀ l i st, e.frame.body = .recordRead l i → e.frame.dest = some st →
      s.link.outstanding ≠ some { station := st, tag := e.frame.tag } → t = left

/-- An input `x` becomes `y` when the setup `u` is stored for it at the conditioning count `n` (R76, with R69, R71, R72
and R74): a candidate waits for its new deadline, or is accepted now when that has passed; a lockout's release deadline
is taken from the new quiet gap, and the input is released now when that has passed; a STEADY input stands. -/
def UnderSetup (u : InputSetup) (n : Nat) (x y : InputState) : Prop :=
  (x.lockout = none → x.candidate = none → y = x) ∧
    (∀ T, x.lockout = none → x.candidate = some T → n < T + u.debounce * 100 → y = x) ∧
    (∀ T, x.lockout = none → x.candidate = some T → T + u.debounce * 100 ≤ n →
      let edges := (x.history ++ [T]).countP fun e => decide (n < e + u.chatterWindow * 1000 ∧ e ≤ n)
      let locks : Prop := 3 ≤ u.chatterLimit ∧ u.chatterLimit < edges
      y.raw = x.raw ∧ y.accepted = (!x.accepted) ∧ y.candidate = none ∧
        (x.history.length < 15 → y.history = x.history ++ [T]) ∧
        (x.history.length = 15 → y.history = x.history.drop 1 ++ [T]) ∧
        (locks → y.lockout =
          some { held := !x.accepted, lastRaw := n, release := n + u.quietGap * 1000, began := n }) ∧
        (¬locks → y.lockout = none)) ∧
    (∀ k, x.lockout = some k → n < k.lastRaw + u.quietGap * 1000 →
      y = { x with lockout := some { k with release := k.lastRaw + u.quietGap * 1000 } }) ∧
    (∀ k, x.lockout = some k → k.lastRaw + u.quietGap * 1000 ≤ n →
      (x.raw = x.accepted → y = { x with lockout := none, history := [] }) ∧
        (x.raw ≠ x.accepted →
          y = { raw := x.raw, accepted := x.raw, candidate := none, history := [n], lockout := none }))

end Sys2Proof.Claims

open Sys2Proof Sys2Proof.Machine Sys2Proof.Safety Sys2Proof.Claims

/-! ### The queue of commands, and reset -/

/-- A step takes the command at the front of the queue: it runs that command on the state with the rest of the queue. -/
def Obligations.StepTakesTheFrontCommand : Prop :=
  ∀ (c : Instr) (rest : List Instr) (s : State), s.pending = c :: rest → step s = exec c (s.withPending rest)

/-- The model's choice (log entry 7): with no command waiting, a step runs the part's own event that is due; with none
due, one microsecond passes, and every count of the part rises by 1, the test clock only once it runs; and what a check
field that ends now is judged by is remembered for 18 µs (log entry 9). -/
def Obligations.StepOnAnEmptyQueue : Prop :=
  ∀ s : State, s.pending = [] →
    (∀ c, dueCommand s = some c → step s = exec c s) ∧
      (dueCommand s = none → s.engine.held = [] → Quiet s →
        step s = .next
          { s with
            clock :=
              { s.clock with
                now := if s.clock.running = true then s.clock.now + 1 else s.clock.now
                elapsed := s.clock.elapsed + 1
                sampleTaken := false }
            cond := { s.cond with count := s.cond.count + 1 }
            amp := { s.amp with count := s.amp.count + 1 }
            coord := { s.coord with count := s.coord.count + 1 }
            gather := { s.gather with count := s.gather.count + 1 }
            past := (viewNow s :: s.past).take 18 })

/-- Every command runs to a next state in every state, and leaves the queue of commands as it was. That a command whose
condition does not hold answers the state as it stands is the model's choice (log entry 8), and so is that a power-on
or pin reset leaves the commands that wait (log entry 32). -/
def Obligations.EveryCommandAnswersAndKeepsTheQueue : Prop :=
  ∀ (c : Instr) (s : State), ∃ t, exec c s = .next t ∧ t.pending = s.pending

/-- POWER-ON RESET. Every block takes the values the chapters' reset rules give, with the straps and lines as sampled;
the commands that wait are left, which is the model's choice (log entry 32). -/
def Obligations.PowerOnResetTakesEveryBlock : Prop :=
  ∀ (p : PinSample) (s : State), ∃ t, exec (.powerOnReset p) s = .next t ∧ t.pending = s.pending ∧
    -- R18
    t.plan.state = .empty ∧ t.plan.clampCount = 0 ∧ t.plan.firstError = .none ∧ t.plan.committer = none ∧
    t.plan.items = PlanItems.initial ∧ (∀ st, (t.plan.items.states.get st).defined = false) ∧
    -- R40
    t.synth.thetaRef = 0 ∧ t.synth.freqWord = 0 ∧ t.synth.sampleIndex = 0 ∧
    (∀ c, t.synth.channels.get c = ChannelState.initial) ∧ (∀ i, t.breaker.forcing.get i = .unforced) ∧
    -- R64
    t.engine = Engine.initial ∧
    -- R77
    t.cond.count = 0 ∧
    (∀ i, t.input i = { raw := p.inputs.get i, accepted := p.inputs.get i, candidate := none, history := [],
                        lockout := none }) ∧
    -- R90
    t.breaker.state = .closed ∧ t.breaker.timer = .off ∧
    -- R97
    t.amp.state = (if p.amplifierPresent = true then .standby else .absent) ∧ t.amp.warmUp = none ∧ t.amp.idle = none ∧
    t.amp.count = 0 ∧ t.amp.aen = false ∧
    (p.amplifierPresent = true → ∀ i, t.amp.debouncers.get i = if p.overload.get i = true then .timing 0 else .clear) ∧
    -- R113
    t.eval.working = none ∧ t.eval.pendingList = [] ∧
    -- R129, R131
    t.link.straps = { station := p.station, group := p.group, cableDelay := p.cableDelay,
                      amplifierPresent := p.amplifierPresent } ∧
    t.link.state = .silent ∧ t.link.tx = [] ∧ t.link.requests = [] ∧ t.link.replySlot = none ∧ t.link.outstanding = none ∧
    -- R133, R149
    t.clock.running = false ∧ t.clock.now = 0 ∧ t.coord = Coordination.initial ∧
    -- R163
    (∀ b, t.store.blocks.get b = StoreBlock.free) ∧ t.store.heldLabels = [] ∧ t.store.reserve = none ∧
    -- R180
    t.gather.state = .idle ∧ t.gather.cursor = none ∧ t.gather.onFinish = none ∧ t.gather.tagCounter = 0 ∧
    t.gather.report.label = none ∧ t.gather.report.entries = [] ∧ t.gather.report.truncated = false ∧
    t.gather.report.dropped = 0 ∧ t.gather.report.outcome = .none ∧
    (∀ i, t.gather.report.status.get i = .notSwept ∧ t.gather.report.taken.get i = 0) ∧
    (∀ i, t.gather.report.terms.get i = .notEvaluated) ∧
    -- R186
    t.status = { service := .idle, latch := FaultLatch.cleared, served := 0, refused := 0, turnedAway := 0, dropped := 0 } ∧
    -- the line, and nothing remembered of the ends of check fields (log entry 9)
    t.supplyFail = p.supplyFail ∧ t.past = []

/-! ### The supply-fail line -/

/-- SUPPLY_FAIL_ASSERTED (R98, R60) and SUPPLY_FAIL_DEASSERTED (R99). At an assertion the outputs go to rest, the
supervisor becomes STANDBY out of WARMING, READY or FAULTED and at once FAULTED again while in overload, and an ARMED,
RUNNING or ENDING run is aborted with reason SUPPLY and its ABORT at the head of the queue, a RUNNING or ENDING one with
its records. A line that stands asserted is not asserted again (the model's choice, log entry 31). A deassertion leaves
every block as it stands. -/
def Obligations.SupplyFailLine : Prop :=
  (∀ s : State, s.supplyFail = false → Quiet s → (s.runActive = true → s.link.state ≠ .muted ∧ s.link.tx.length + s.engine.held.length < 8) →
    ∃ t, exec .supplyFailAsserted s = .next t ∧ t.supplyFail = true ∧
      t.engine.boLevels = s.plan.items.header.boRest ∧
      (s.amp.state = .absent → t.amp.state = .absent) ∧
      (s.amp.state ≠ .absent → s.amp.state ≠ .standby → inOverload s.amp = false →
        t.amp.state = .standby ∧ t.amp.warmUp = none ∧ t.amp.idle = none ∧ t.amp.aen = false ∧
          t.status.latch.ampFault = s.status.latch.ampFault) ∧
      (s.amp.state ≠ .absent → s.amp.state ≠ .standby → inOverload s.amp = true →
        t.amp.state = .faulted ∧ t.amp.aen = false ∧ t.status.latch.ampFault = true) ∧
      (s.amp.state = .standby → t.amp.state = .standby) ∧
      t.amp.debouncers = s.amp.debouncers ∧
      (s.runActive = false →
        t = { s with supplyFail := true, engine := atRest s, amp := t.amp, status := t.status } ∧
          t.status = { s.status with latch := { s.status.latch with ampFault := t.status.latch.ampFault } }) ∧
      (s.runActive = true →
        t.engine.runState = .aborted ∧ t.engine.endReason = .supply ∧ t.engine.runLabel = s.engine.runLabel ∧
          t.store.reserve = none ∧ (s.runUnderWay = true → t.engine.visit = none ∧ t.eval.pendingList = []) ∧
          (s.runUnderWay = true → RunInvariant s → s.engine.held = [] → AbortRecords .supply s t) ∧
          (∀ l, s.engine.runLabel = some l → t.link.tx.head?.map (·.frame) = some (groupFrame (.abort l .supply) .engine)) ∧
          t.plan = s.plan ∧ t.cond = s.cond ∧ t.gather = s.gather ∧ t.clock = s.clock)) ∧
    (∀ s : State, s.supplyFail = true → Quiet s → exec .supplyFailAsserted s = .next s) ∧
    (∀ s : State, exec .supplyFailDeasserted s = .next { s with supplyFail := false })

/-! ### The bay link -/

/-- CABLE_IDLE (R114, R117, R124). An ONLINE station with a queue and nothing on the wire contends with its head: the
head is BEGUN, it is on the wire exactly when its arbitration field (priority, then station number) is no higher than
that of any rival, and the Sequence Engine is told the first time that its own pending mark has begun. A station that
may not contend, one that is not SILENT and one whose reception goes on are left as they stand (the model's choice, log
entry 8). LINK_ONLINE (R129): a SILENT station is ONLINE and contends at once. OVERLENGTH_FRAME_RESYNC (R119): the
cable is idle again for the station, and it contends. That the seven arbitration bits are compared within this one step
is the model's choice (log entry 10). What goes out on the cable (R115, R116, R189): the dominant start bit (a recessive
bit is `true`), then every field in the table's order, its most significant bit first, with the priority, the kind and
the payload of the frame, the destination form STATION or GROUP, and the check over every bit from the priority to the
end of the payload: a register of 16 ones, through which each bit goes by x¹⁶ + x¹² + x⁵ + 1. -/
def Obligations.IdleCableArbitration : Prop :=
  ((∀ (x : Straps) (u : TxFrame), u.body.kindCode < 64 → u.body.payload.length ≤ 40 →
     let p := u.body.payload
     let form := if u.dest = none then 1 else 0
     let number := (u.dest.map (·.val)).getD x.group.val
     ∃ checked, sentBits x u = false :: checked ++ bitsOf 16 (crc16 checked).toNat ∧
       checked = bitsOf 3 u.body.priority ++ bitsOf 4 x.station.val ++ bitsOf 2 form ++ bitsOf 4 number ++
         bitsOf 6 u.body.kindCode ++ bitsOf 8 u.tag.toNat ++ bitsOf 6 p.length ++ p.flatMap (fun b => bitsOf 8 b.toNat) ∧
       (∀ l r, u.body = .abort l r → u.body.kindCode = 1 ∧ u.body.priority = 0 ∧ p = [l, byte r.code]) ∧
       (∀ l c d, u.body = .mark l c d → u.body.kindCode = 2 ∧ u.body.priority = 1 ∧ p = [l, c] ++ bytes4 d) ∧
       (∀ l, u.body = .start l → u.body.kindCode = 3 ∧ u.body.priority = 2 ∧ p = [l]) ∧
       (∀ cls, u.body = .rollcall cls → u.body.kindCode = 8 ∧ u.body.priority = 4 ∧ p = [byte cls.code]) ∧
       (∀ k q, u.body = .reply k q → u.body.kindCode = k ∧ u.body.priority = 5 ∧ p = q) ∧
       (∀ l i, u.body = .recordRead l i → u.body.kindCode = 35 ∧ u.body.priority = 6 ∧ p = [l] ++ bytes2 i ++ [0])) ∧
    (∀ k n, (bitsOf k n).length = k ∧ ∀ j, j < k → (bitsOf k n)[j]? = some (n.testBit (k - 1 - j))) ∧
    crc16 [] = 65535#16 ∧
    ∀ (bs : List Bool) (b : Bool), crc16 (bs ++ [b]) =
      if (crc16 bs).msb = b then crc16 bs <<< 1 else crc16 bs <<< 1 ^^^ 4129#16) ∧
  (∀ (rivals : List (BitVec 7)) (h : TxEntry) (q : List TxEntry) (s : State),
    s.link.state = .online → s.link.resync = false → s.link.tx = h :: q → (∀ e ∈ h :: q, e.onWire = false) →
    ∃ t won, exec (.cableIdle rivals) s = .next t ∧
      (won = true ↔ ∀ r ∈ rivals, h.priority * 16 + s.link.straps.station.val ≤ r.toNat) ∧
      t = { s with
            link := { s.link with tx := { h with begun := true, onWire := won } :: q }
            engine :=
              if h.begun = true then s.engine
              else
                { s.engine with
                  pendingMark := s.engine.pendingMark.map fun p => if p.age = h.age then { p with onWire := true } else p } }) ∧
    (∀ (rivals : List (BitVec 7)) (s : State),
      (s.link.state ≠ .online ∨ s.link.resync = true ∨ s.link.tx = [] ∨ ∃ e ∈ s.link.tx, e.onWire = true) →
      exec (.cableIdle rivals) s = .next s) ∧
    (∀ (rivals : List (BitVec 7)) (s : State), s.link.state = .silent →
      ∃ t, exec (.linkOnline rivals) s = .next t ∧ t.link.state = .online ∧ t.link.resync = false ∧
        exec (.cableIdle rivals) { s with link := { s.link with state := .online, resync := false } } = .next t) ∧
    (∀ (rivals : List (BitVec 7)) (s : State), s.link.state ≠ .silent → exec (.linkOnline rivals) s = .next s) ∧
    (∀ (rivals : List (BitVec 7)) (s : State), s.link.resync = true →
      ∃ t, exec (.overlengthFrameResync rivals) s = .next t ∧ t.link.resync = false ∧
        exec (.cableIdle rivals) { s with link := { s.link with resync := false } } = .next t) ∧
    (∀ (rivals : List (BitVec 7)) (s : State), s.link.resync = false → exec (.overlengthFrameResync rivals) s = .next s)

/-- A block places a frame (R125, R130): in a queue with fewer than 8 entries it stands by priority and age; in a full
one it pushes out the youngest entry of the lowest priority that is not on the wire, when its own priority is higher,
and is refused otherwise; a MUTED station refuses it. A frame placed at the head (the ABORT of a SUPPLY abort) stands
before every entry, and in a full queue always takes a place: that same entry is pushed out, whatever its priority,
and its owner is to be told DROPPED. Every drop is counted and latched, and the owner of the frame pushed out or
refused is to be told. An owner that is told DROPPED (R53, R142, R143, R145, R167, R169, R172): a pending coordinated
mark becomes the pending fallback (at its deadline's own instant too: the model's choice, log entry 43), and a
MARK-SENT with outcome DROPPED and no frame instant is handed to the store; the poller's START takes it back to
POLLING, with no roll-call queued then (the model's choice, log entry 53), or to OFF, its roll-call lost leaves it
waiting for the next poll instant; a gather's roll-call ends the gather FAILED; its outstanding read is silent; any
other frame changes nothing more. A block withdraws a frame (R126): a WAITING one leaves the queue and nothing is
counted, latched or reported; a BEGUN one stays. -/
def Obligations.PlacingAndWithdrawingFrames : Prop :=
  ((∀ (f : TxFrame) (s : State), s.link.state = .muted →
     (place f false s).link.tx = s.link.tx ∧ (place f false s).status.dropped = min 65535 (s.status.dropped + 1) ∧
       (place f false s).status.latch.txDropped = true ∧
       (place f false s).link.notices = s.link.notices ++ [{ entry := newEntry f s, outcome := .dropped }]) ∧
     (∀ (f : TxFrame) (s : State), Room s →
       Inserted (newEntry f s) s.link.tx (place f false s).link.tx ∧ (place f false s).status = s.status ∧
         (place f false s).link.notices = s.link.notices) ∧
     (∀ (f : TxFrame) (v : TxEntry) (s : State), QueuesOk s → s.link.state ≠ .muted → s.link.tx.length = 8 →
       v ∈ s.link.tx → v.onWire = false →
       (∀ u ∈ s.link.tx, u.onWire = false → u.priority < v.priority ∨ (u.priority = v.priority ∧ u.age ≤ v.age)) →
       (place f false s).status.dropped = min 65535 (s.status.dropped + 1) ∧
         (place f false s).status.latch.txDropped = true ∧
         (f.body.priority < v.priority →
           Inserted (newEntry f s) (s.link.tx.filter fun u => u.age ≠ v.age) (place f false s).link.tx ∧
             (place f false s).link.notices = s.link.notices ++ [{ entry := v, outcome := .dropped }]) ∧
         (v.priority ≤ f.body.priority → (place f false s).link.tx = s.link.tx ∧
           (place f false s).link.notices = s.link.notices ++ [{ entry := newEntry f s, outcome := .dropped }])) ∧
     (∀ (f : TxFrame) (s : State), Room s → (place f true s).link.tx = newEntry f s :: s.link.tx) ∧
     (∀ (f : TxFrame) (v : TxEntry) (s : State), QueuesOk s → s.link.state ≠ .muted → s.link.tx.length = 8 →
       v ∈ s.link.tx → v.onWire = false →
       (∀ u ∈ s.link.tx, u.onWire = false → u.priority < v.priority ∨ (u.priority = v.priority ∧ u.age ≤ v.age)) →
       (place f true s).link.tx = newEntry f s :: (s.link.tx.filter fun u => u.age ≠ v.age) ∧
         (place f true s).link.notices = s.link.notices ++ [{ entry := v, outcome := .dropped }] ∧
         (place f true s).status.dropped = min 65535 (s.status.dropped + 1) ∧
         (place f true s).status.latch.txDropped = true)) ∧
    (∀ (e : TxEntry) (s : State), QueuesOk s → e ∈ s.link.tx →
       (e.begun = false →
         withdraw e.age s = { s with link := { s.link with tx := s.link.tx.filter fun u => u.age ≠ e.age } }) ∧
         (e.begun = true → withdraw e.age s = s)) ∧
    (∀ (e : TxEntry) (s : State), s.link.notices = [{ entry := e, outcome := .dropped }] →
       Lost e .dropped s.link.tx s (settle s))

/-- FRAME_CORRUPT of the frame on the wire (R118, R53, R142, R143, R145, R167, R169, R172). The entry leaves the queue.
A pending coordinated mark becomes the pending fallback, at its detection time + 20,000 µs (at the deadline's own
instant too, which is the model's choice, log entry 43), and a MARK-SENT with outcome CORRUPT and no frame instant is
handed to the store. The poller's START lost while ARMED with the amplifier ready returns it to POLLING, with no
roll-call queued then (the model's choice, log entry 53); its roll-call
lost leaves it waiting for the next poll instant. A gather whose DONE roll-call is lost ends FAILED with no halting
station, its terms evaluated and GATHER-DONE queued to its requester (R174). The gather's outstanding RECORD-READ lost is
a silent read of its station; a read that is not outstanding any more changes nothing. A reply or an ABORT lost, and a
START or roll-call that has been given up, change nothing more. With nothing on the wire nothing happens (log entry 8).
-/
def Obligations.CorruptFrameOutcomes : Prop :=
  (∀ s : State, (∀ e ∈ s.link.tx, e.onWire = false) → exec .frameCorrupt s = .next s) ∧
    ∀ (e : TxEntry) (s : State), QueuesOk s → Quiet s → e ∈ s.link.tx → e.onWire = true →
      ∃ t, exec .frameCorrupt s = .next t ∧
        Lost e .corrupt (s.link.tx.filter fun u => u.age ≠ e.age) s t

/-- FRAME_OUTCOME of the pending coordinated MARK (R52, R122, R123, R145), DELIVERED or UNHEARD by the ack slot,
whatever the busy slot reads (the model's reading, log entry 20): the frame instant decides the exit, from the
coordinating slot, or from the lowest slot below it that listens to the same mark; the exit boundary is the first
boundary at or after the instant that is later than the entry; the mark is pending no more; and a MARK-SENT record with
the outcome and the frame instant is handed to the store. -/
def Obligations.CoordinatedMarkDecidesTheExit : Prop :=
  ∀ (e : TxEntry) (p : PendingMark) (v : Visit) (l : Label) (c : MarkCode) (d : Instant) (ack busy : Bool)
    (answers : BitVec 16) (s : State),
    QueuesOk s → Quiet s → e ∈ s.link.tx → e.onWire = true → e.frame.body = .mark l c d →
    s.engine.pendingMark = some p → p.age = e.age → s.engine.visit = some v → s.engine.decided = none →
    s.engine.runState = .running → s.engine.runLabel = some l →
    ∃ t dec, exec (.frameOutcome ack busy answers) s = .next t ∧ t.engine.decided = some dec ∧ dec.instant = s.now ∧
      (∃ n : SlotNo, dec.decider = .slot n ∧ n ≤ p.slot ∧
        dec.target = some (triggerTarget ((s.plan.items.states.get v.state).triggers.get n)) ∧
        (n = p.slot ∨
          ∃ origin target, (s.plan.items.states.get v.state).triggers.get n = .mark c origin target ∧
            (origin = none ∨ origin = some s.link.straps.station)) ∧
        ∀ k origin target, k < n → (origin = none ∨ origin = some s.link.straps.station) →
          (s.plan.items.states.get v.state).triggers.get k ≠ .mark c origin target) ∧
      IsExitBoundary v.entry s.now dec.boundary ∧ t.engine.pendingMark = none ∧
      t.engine.visit = some { v with uncoordinated := false } ∧
      t.store = (storeEvent l (.markSent c d (if ack = true then .delivered else .unheard) (some s.now)) s).store ∧
      t.link = { s.link with tx := s.link.tx.filter (fun u => u.age ≠ e.age), drive := noSlots } ∧
      t = { s with engine := t.engine, link := t.link, store := t.store }

/-- FRAME_OUTCOME of the station's other frames (R48, R122, R123, R128, R134, R141, R142, R145, R167, R169, R172). A
MARK that is not the pending coordinated one, an announcement among them, leaves its MARK-SENT record with this frame
instant, and the station's own MARK slots hear it like any other's. A reply ends with nothing more to do. A DELIVERED
read of the Gather Engine sets its reply deadline 20,000 µs later; one that ends BUSY or UNHEARD is a silent read of its
station; one that is not outstanding any more changes nothing. A map of the poller's own roll-call that holds the whole
start set queues START and takes the poller to STARTING, another map leaves it POLLING. The station's own START is the
epoch for it like any other. The map of a ROLL gather's roll-call becomes its sweep set: its lowest station, where that
is another one, is read at index 0, and an empty map ends the gather COMPLETED, with no station read, its terms
evaluated and GATHER-DONE queued to the requester. The own bit of a
map is that of the condition at the end of the check field, 18 µs before (log entry 9). For a group frame and a reply
the busy slot is not read (the model's, log entry 20). With nothing on the wire nothing happens (log entry 8). -/
def Obligations.OwnFrameOutcomes : Prop :=
  (∀ ack busy answers, ∀ s : State, (∀ e ∈ s.link.tx, e.onWire = false) →
      exec (.frameOutcome ack busy answers) s = .next s) ∧
    ∀ (e : TxEntry) (ack busy : Bool) (answers : BitVec 16) (s : State),
      QueuesOk s → Quiet s → e ∈ s.link.tx → e.onWire = true →
      ∃ t, exec (.frameOutcome ack busy answers) s = .next t ∧
        (∀ k p, e.frame.body = .reply k p →
          t = { s with link := { s.link with tx := s.link.tx.filter (fun u => u.age ≠ e.age), drive := noSlots } }) ∧
        (∀ l i st, e.frame.body = .recordRead l i → e.frame.dest = some st → ack = true → busy = false →
          s.link.outstanding = some { station := st, tag := e.frame.tag } →
          t = { s with
                link := { s.link with tx := s.link.tx.filter (fun u => u.age ≠ e.age), drive := noSlots }
                gather := { s.gather with
                  cursor := s.gather.cursor.map fun c => { c with deadline := some (s.gather.count + 20000) } } }) ∧
        (∀ l i st c, e.frame.body = .recordRead l i → e.frame.dest = some st → (busy = true ∨ ack = false) →
          s.link.outstanding = some { station := st, tag := e.frame.tag } → s.gather.cursor = some c →
          c.station = some st → SilentRead c st (s.link.tx.filter fun u => u.age ≠ e.age) s t) ∧
        (∀ l i st, e.frame.body = .recordRead l i → e.frame.dest = some st →
          s.link.outstanding ≠ some { station := st, tag := e.frame.tag } →
          t = { s with link := { s.link with tx := s.link.tx.filter (fun u => u.age ≠ e.age), drive := noSlots } }) ∧
        (∀ l, e.frame.body = .rollcall .ready → s.coord.ownRoll = some e.age → s.coord.poller = .polling →
          s.engine.runLabel = some l →
          (∀ i : StationNo, s.plan.items.header.startSet.get i = true →
            answers.getLsbD i.val = true ∨ (i = s.link.straps.station ∧ (judgedAt 18 s).ready = true)) →
          t.coord = { s.coord with
              ownRoll := none, poller := .starting, nextPoll := none, ownStart := some s.link.nextAge } ∧
            Inserted (newEntry (groupFrame (.start l) .coordination) s) (s.link.tx.filter fun u => u.age ≠ e.age)
              t.link.tx ∧
            t = { s with coord := t.coord, link := t.link }) ∧
        (∀ i : StationNo, e.frame.body = .rollcall .ready → s.coord.ownRoll = some e.age →
          s.plan.items.header.startSet.get i = true → answers.getLsbD i.val = false → i ≠ s.link.straps.station →
          t.coord = { s.coord with ownRoll := none } ∧ t = { s with coord := t.coord, link := t.link }) ∧
        (∀ l, e.frame.body = .start l → s.engine.runState = .armed → s.engine.runLabel = some l →
          (s.amp.state = .ready ∨ s.amp.state = .absent) →
          t.engine.runState = .running ∧ t.clock.running = true ∧ t.clock.now.toNat = s.link.straps.cableDelay.val ∧
            t.coord.poller = .off) ∧
        (∀ cls c, e.frame.body = .rollcall cls → s.coord.ownRoll ≠ some e.age → s.coord.gatherRoll = some e.age →
          s.gather.cursor = some c → answers = 0 → (judgedAt 18 s).condition cls = false →
          GatherEnded c .completed s.gather.report.status (s.link.tx.filter fun u => u.age ≠ e.age) s t ∧
            t = { s with coord := { s.coord with gatherRoll := none }, gather := t.gather, link := t.link }) ∧
        (∀ cls c i, e.frame.body = .rollcall cls → s.coord.ownRoll ≠ some e.age → s.coord.gatherRoll = some e.age →
          s.gather.cursor = some c →
          let inMap (j : StationNo) : Prop := answers.getLsbD j.val = true ∨
            (j = s.link.straps.station ∧ (judgedAt 18 s).condition cls = true)
          inMap i → (∀ j, j < i → ¬inMap j) → i ≠ s.link.straps.station →
          t.coord = { s.coord with gatherRoll := none } ∧ t.gather.state = .sweeping ∧
            (∃ u, t.gather.cursor = some u ∧ (∀ j, u.sweepSet.get j = true ↔ inMap j) ∧ u.label = c.label ∧
              u.station = some i ∧ u.index = 0 ∧ u.readTag = some s.gather.tagCounter ∧ u.requester = c.requester) ∧
            t.gather.report.entries = s.gather.report.entries ∧
            (∀ j, (c.merge = true ∧ inMap j →
                t.gather.report.status.get j = .notSwept ∧ t.gather.report.taken.get j = 0) ∧
              (¬(c.merge = true ∧ inMap j) → t.gather.report.status.get j = s.gather.report.status.get j ∧
                t.gather.report.taken.get j = s.gather.report.taken.get j)) ∧
            t.link.outstanding = some { station := i, tag := s.gather.tagCounter } ∧
            Inserted
              (newEntry { dest := some i, tag := s.gather.tagCounter, body := .recordRead c.label 0
                          owner := .gatherEngine } s) (s.link.tx.filter fun u => u.age ≠ e.age) t.link.tx ∧
            t = { s with coord := t.coord, gather := t.gather, link := t.link }) ∧
        (∀ l code d, e.frame.body = .mark l code d → (∀ p, s.engine.pendingMark = some p → p.age ≠ e.age) →
          let outcome : FrameOutcome := if ack = true then .delivered else .unheard
          let logged : State :=
            { s with
              link := { s.link with tx := s.link.tx.filter (fun u => u.age ≠ e.age), drive := noSlots }
              store := (storeEvent l (.markSent code d outcome (some s.now)) s).store }
          let listens (x : Trigger) : Prop := ∃ origin target, x = .mark code origin target ∧
            (origin = none ∨ origin = some s.link.straps.station)
          (s.engine.runLabel ≠ some l ∨ s.engine.runState ≠ .running ∨ s.engine.visit = none → t = logged) ∧
            (∀ v, s.engine.visit = some v → s.engine.decided = none →
              (∀ n, ¬listens ((s.plan.items.states.get v.state).triggers.get n)) → t = logged) ∧
            (∀ v n origin target, s.engine.runLabel = some l → s.engine.runState = .running →
              s.engine.visit = some v → s.engine.decided = none → s.engine.pendingMark = none →
              (s.plan.items.states.get v.state).triggers.get n = .mark code origin target →
              (origin = none ∨ origin = some s.link.straps.station) →
              (∀ k, k < n → ¬listens ((s.plan.items.states.get v.state).triggers.get k)) →
              ∃ b, IsExitBoundary v.entry s.now b ∧
                t = { logged with
                      engine := { s.engine with
                        decided := some { instant := s.now, decider := .slot n, target := some target, boundary := b }
                        visit := some { v with uncoordinated := false } } }))

/-- DUPLICATE_ORIGIN_FRAME (R130, Law 12). A frame of the station's own number that it accepts without having sent it
mutes the station (judged at its reception: log entry 23): it is MUTED, its transmit queue is empty, it drives no slot,
and a run that was ARMED, RUNNING or ENDING is aborted with reason MUTED, a RUNNING or ENDING one with its records. The
outstanding read of a gather is silent, also a DELIVERED one that awaits its reply (R179; which is not counted as a drop:
log entry 47), and no read is outstanding any more; under HALT the gather ends FAILED at that station. A MUTED station
stays MUTED. -/
def Obligations.DuplicateOriginMutes : Prop :=
  ∀ (f : RxFrame) (s : State), Acceptable f s → s.link.resync = false → f.origin = s.link.straps.station → Quiet s →
    QueuesOk s →
    ∃ t, exec (.duplicateOriginFrame f) s = .next t ∧ t.link.state = .muted ∧ t.link.tx = [] ∧ t.link.drive = noSlots ∧
      (s.link.state = .muted → t = driven noSlots s) ∧
      (s.link.state ≠ .muted →
        t.runActive = false ∧
          (s.runActive = true → t.engine.runState = .aborted ∧ t.engine.endReason = .muted) ∧
          (s.runActive = false → t.engine.runState = s.engine.runState ∧ t.engine.endReason = s.engine.endReason) ∧
          (s.runUnderWay = true → RunInvariant s → s.engine.held = [] → AbortRecords .muted s t) ∧
          t.engine.runLabel = s.engine.runLabel ∧ (s.link.tx ≠ [] → t.status.latch.txDropped = true) ∧
          (∀ c st tag, s.gather.cursor = some c → c.station = some st → s.coord.gatherRoll = none →
            s.link.outstanding = some { station := st, tag := tag } →
            t.gather.report.status.get st = .noAnswer ∧ t.link.outstanding = none ∧
              (c.haltSilence = true → t.gather.state = .done ∧ t.gather.report.outcome = .failed (some st) ∧
                t.gather.report.entries = s.gather.report.entries)) ∧
          t.link.straps = s.link.straps ∧ t.link.requests = s.link.requests ∧
          t.plan = s.plan ∧ t.cond = s.cond ∧ t.clock = s.clock ∧ t.supplyFail = s.supplyFail)

/-- REQUEST_ARRIVAL (R116, R120, R127, R181, R185). A request that finds four waiting is answered busy, discarded and
counted as turned away. One that finds room is acked: with no service going on it is taken at once and counted as
served, and otherwise it waits last in the queue. A station that is not ONLINE does the same with no slot driven. The
room is that of the end of the check field, 2 µs before (behind every event of that instant: log entry 9); that a queue
full since is not overfilled matters only to an order of requests that no cable brings (log entries 4 and 9). -/
def Obligations.RequestArrival : Prop :=
  ∀ (f : RxFrame) (s : State), Heard f s → 25 < f.kind.toNat ∨ f.kind.toNat = 0 ∨ (8 < f.kind.toNat ∧ f.kind.toNat < 16) →
    let r : Request :=
      { origin := f.origin, tag := f.tag, kind := f.kind.toNat, payload := f.payload, instant := s.now }
    let online := s.link.state == .online
    let room : Prop := (judgedAt 2 s).room = true ∧ s.link.requests.length < 4
    (¬room →
        exec (.requestArrival f) s = .next
          { driven { ack := false, busy := online, rollBit := false } s with
            status := { s.status with turnedAway := min 65535 (s.status.turnedAway + 1) } }) ∧
      (room → s.status.service = .idle →
        ∃ first rest, s.link.requests ++ [r] = first :: rest ∧
          exec (.requestArrival f) s = .next
            { s with
              link :=
                { s.link with drive := { ack := online, busy := false, rollBit := false }, requests := rest }
              status :=
                { s.status with
                  service := .taken first s.clock.elapsed
                  served := min 65535 (s.status.served + 1) } }) ∧
      (room → s.status.service ≠ .idle →
        exec (.requestArrival f) s = .next
          { s with
            link :=
              { s.link with
                drive := { ack := online, busy := false, rollBit := false }
                requests := s.link.requests ++ [r] } })

/-- REPLY_RECEIVED (R128, R169 to R173). A reply whose origin and tag are not those of the outstanding read is acked and
discarded. A RECORD of the cursor's label and index is merged into the report, unless the report has it already or is
full; it counts as taken, and the next index is read at once with the next tag. NONE closes the station COMPLETE; NOT-
YET repeats the read 5,000 µs later under WAIT, unless its run of NOT-YETs has lasted 2 s, when it closes the station
TIMED-OUT, and closes the station PARTIAL under TAKE-AS-IS; the next station is then read at index 0 with the next tag,
and with none left the gather ends COMPLETED. Any other reply (log entry 24), and a RECORD of another label or index, is
a silent read: the station is NO-ANSWER, and the sweep moves on under SKIP or ends FAILED under HALT. -/
def Obligations.ReplyReceived : Prop :=
  ∀ (f : RxFrame) (s : State), Heard f s → 16 ≤ f.kind.toNat → f.kind.toNat ≤ 25 →
    (s.link.outstanding ≠ some { station := f.origin, tag := f.tag } →
        exec (.replyReceived f) s = .next (acked s)) ∧
      ∀ c : Cursor, s.link.outstanding = some { station := f.origin, tag := f.tag } → s.gather.cursor = some c →
        c.station = some f.origin → Room s → s.link.straps.station ≠ f.origin →
        ∃ t, exec (.replyReceived f) s = .next t ∧
          t = { s with link := t.link, gather := t.gather, status := t.status } ∧ t.link.drive = (acked s).link.drive ∧
          (f.kind.toNat = 21 → 10 ≤ f.payload.length → f.payload.getD 0 0 = c.label → num2 f.payload 1 = c.index →
            t.status = s.status ∧ t.gather.tagCounter = s.gather.tagCounter + 1 ∧
              t.gather.cursor = some
                { c with
                  index := c.index + 1, notYetSince := none, readTag := some s.gather.tagCounter, deadline := none
                  repeatAt := none } ∧
              t.link.outstanding = some { station := f.origin, tag := s.gather.tagCounter } ∧
              Inserted
                (newEntry { dest := some f.origin, tag := s.gather.tagCounter
                            body := .recordRead c.label (c.index + 1), owner := .gatherEngine } s) s.link.tx t.link.tx ∧
              (∀ i, t.gather.report.taken.get i = s.gather.report.taken.get i + if i = f.origin then 1 else 0) ∧
              t.gather.report.status = s.gather.report.status ∧
              t.gather.report =
                { mergeEntry
                    { origin := f.origin, index := c.index, kind := byteAt f.payload 5 / 32, time := num4 f.payload 6
                      contents := f.payload.drop 10 } s.gather.report with taken := t.gather.report.taken }) ∧
          (f.kind.toNat = 22 → StationClosed .complete c f.origin s.link.tx s t) ∧
          (f.kind.toNat = 23 → c.waitPending = false → StationClosed .partialRead c f.origin s.link.tx s t) ∧
          (f.kind.toNat = 23 → c.waitPending = true →
            s.gather.count < c.notYetSince.getD s.gather.count + 2000000 →
            t.gather = { s.gather with
                cursor := some
                  { c with
                    notYetSince := some (c.notYetSince.getD s.gather.count), readTag := none, deadline := none
                    repeatAt := some (s.gather.count + 5000) } } ∧
              t = { acked s with gather := t.gather, link := { (acked s).link with outstanding := none } }) ∧
          (f.kind.toNat = 23 → c.waitPending = true →
            c.notYetSince.getD s.gather.count + 2000000 ≤ s.gather.count →
            StationClosed .timedOut c f.origin s.link.tx s t) ∧
          (f.kind.toNat < 21 ∨ 23 < f.kind.toNat ∨
              (f.kind.toNat = 21 ∧ (f.payload.getD 0 0 ≠ c.label ∨ num2 f.payload 1 ≠ c.index)) →
            SilentRead c f.origin s.link.tx s t)

/-- A frame the station does not accept (R119) leaves it as it was; one whose length field exceeds 40 stops reception
until the cable has been recessive long enough; and a group frame of another station that is accepted but whose payload
is to be ignored (R132) changes nothing but the slots the station drives. -/
def Obligations.FramesNotTaken : Prop :=
  (∀ (f : RxFrame) (c : Instr) (s : State),
    c ∈ [Instr.arm f, .disarm f, .start f, .stop f, .step f, .abort f, .mark f, .rollcall f, .requestArrival f,
         .replyReceived f, .duplicateOriginFrame f] →
    (s.link.resync = true → exec c s = .next s) ∧
      (s.link.resync = false → 40 < f.length.toNat →
        exec c s = .next { s with link := { s.link with resync := true } }) ∧
      (f.length.toNat ≤ 40 → ¬Acceptable f s → exec c s = .next s)) ∧
    (∀ (f : RxFrame) (c : Instr) (s : State), Heard f s →
      ((c ∈ [Instr.arm f, .disarm f, .start f, .stop f, .step f] ∧
          ∀ l, f.payload = [l] → ¬(1 ≤ l.toNat ∧ l.toNat ≤ 254)) ∨
        (c = .abort f ∧ ∀ l r, f.payload = [l, r] → ¬(1 ≤ l.toNat ∧ l.toNat ≤ 254)) ∨
        (c = .mark f ∧ (f.payload.length = 6 → f.payload.getD 0 0 = 0 ∨ f.payload.getD 0 0 = 255 ∨
          f.payload.getD 1 0 = 0 ∨ 63 < (f.payload.getD 1 0).toNat))) →
      1 ≤ f.kind.toNat → f.kind.toNat ≤ 7 →
      exec c s = .next (acked s))

/-! ### Group frames of other stations -/

/-- ARM(L) (R136). An ARM for the label already armed changes nothing. Otherwise the first condition of the table that
holds refuses it: the latch receives ARM-REFUSED with that cause and nothing else changes. ARM(L) accepted (R137, R41,
R93, R142, R158): when no condition of R136 holds, the run is ARMED with label L and everything of the last run's is
put back; the reserve bookkeeping stands at 0 and 0; the supervisor acts by R93; and the poller passes to POLLING with
its roll-call queued when the start set is not empty and the amplifier counts as ready. -/
def Obligations.ArmIsJudgedAndAccepted : Prop :=
  (∀ (f : RxFrame) (l : Label) (s : State), Heard f s → Names 6 l f →
     let refusedWith (c : ArmCause) : Prop :=
       exec (.arm f) s = .next
         { acked s with status := { s.status with latch := { s.status.latch with armRefused := some c } } }
     let c1 := s.engine.runState = .armed ∧ s.engine.runLabel = some l
     let c2 := s.engine.runState = .armed ∨ s.engine.runState = .running ∨ s.engine.runState = .ending ∨
       s.link.state ≠ .online
     let c3 := s.plan.state ≠ .valid
     let c4 := ∃ h ∈ s.store.heldLabels, h.label = l
     let c5 := 8 ≤ s.store.heldLabels.length
     let c6 := (freeBlocks s.store).length * 8 < s.plan.items.header.visitLimit + 1
     let c7 := s.amp.state = .faulted ∧ ∃ i, s.amp.debouncers.get i ≠ .clear
     (c1 → exec (.arm f) s = .next (acked s)) ∧
       (¬c1 → c2 → refusedWith .state) ∧
       (¬c2 → c3 → refusedWith .noPlan) ∧
       (¬c2 → ¬c3 → c4 → refusedWith .labelHeld) ∧
       (¬c2 → ¬c3 → ¬c4 → c5 → refusedWith .storeFull) ∧
       (¬c2 → ¬c3 → ¬c4 → ¬c5 → c6 → refusedWith .storeFull) ∧
       (¬c2 → ¬c3 → ¬c4 → ¬c5 → ¬c6 → c7 → refusedWith .ampFault)) ∧
    (∀ (f : RxFrame) (l : Label) (s : State), Heard f s → Names 6 l f → s.runActive = false → s.link.state = .online →
       s.plan.state = .valid → (∀ h ∈ s.store.heldLabels, h.label ≠ l) → s.store.heldLabels.length < 8 →
       s.plan.items.header.visitLimit + 1 ≤ (freeBlocks s.store).length * 8 →
       (s.amp.state = .faulted → ∀ i, s.amp.debouncers.get i = .clear) → s.coord.poller = .off → s.link.tx.length < 8 →
       let polls := (∃ i, s.plan.items.header.startSet.get i = true) ∧ (s.amp.state = .ready ∨ s.amp.state = .absent)
       ∃ t, exec (.arm f) s = .next t ∧
         t.engine =
           { s.engine with
             runState := .armed, runLabel := some l, visit := none, visitCount := 0, decided := none, pendingMark := none
             pendingFallback := none, latestVisit := none, endReason := .none, lastState := none } ∧
         t.store = { s.store with reserve := some { evaluations := 0, dropped := 0 } } ∧
         (s.amp.state = .absent ∨ s.amp.state = .warming → t.amp = s.amp) ∧
         (s.amp.state = .ready → t.amp = { s.amp with idle := some (s.amp.count + 60000000) }) ∧
         ((s.amp.state = .standby ∨ s.amp.state = .faulted) → s.supplyFail = false → inOverload s.amp = false →
           t.amp = { s.amp with state := .warming, warmUp := some (s.amp.count + 400000), idle := none } ∧
             t.amp.aen = true) ∧
         (s.amp.state = .standby → s.supplyFail = true → t.amp = s.amp) ∧
         (s.amp.state = .faulted → s.supplyFail = true → t.amp.state = .standby ∧ t.amp.aen = false) ∧
         (s.amp.state = .standby → s.supplyFail = false → inOverload s.amp = true →
           t.amp.state = .faulted ∧ t.status.latch.ampFault = true) ∧
         (¬(s.amp.state = .standby ∧ s.supplyFail = false ∧ inOverload s.amp = true) → t.status = s.status) ∧
         (¬polls → t.coord = s.coord ∧ t.link = (acked s).link) ∧
         (polls → readyRollQueued s = false →
           t.coord = { s.coord with
               poller := .polling, nextPoll := some (s.coord.count + 20000), ownRoll := some s.link.nextAge } ∧
             Inserted (newEntry (groupFrame (.rollcall .ready) .coordination) s) s.link.tx t.link.tx) ∧
         t = { s with
               engine := t.engine, store := t.store, amp := t.amp, status := t.status, coord := t.coord, link := t.link })

/-- DISARM(L) (R138, R97, R144, R158): of the armed label it makes the run IDLE with no label, ends the reserve
bookkeeping, takes the poller to OFF, and takes a FAULTED supervisor with both debouncers CLEAR to STANDBY; in any
other state or of any other label it has no effect. -/
def Obligations.DisarmOfTheArmedLabel : Prop :=
  ∀ (f : RxFrame) (l : Label) (s : State), Heard f s → Names 7 l f → QueuesOk s →
    (¬(s.engine.runState = .armed ∧ s.engine.runLabel = some l) → exec (.disarm f) s = .next (acked s)) ∧
      (s.engine.runState = .armed → s.engine.runLabel = some l →
        ∃ t, exec (.disarm f) s = .next t ∧
          t.engine = { s.engine with runState := .idle, runLabel := none } ∧
          t.store = { s.store with reserve := none } ∧ t.coord = pollerOffOf s.coord ∧
          (∀ e ∈ t.link.tx, e ∈ s.link.tx) ∧
          (∀ e ∈ t.link.tx, some e.age = s.coord.ownRoll ∨ some e.age = s.coord.ownStart → e.begun = true) ∧
          (s.amp.state = .faulted → (∀ i, s.amp.debouncers.get i = .clear) →
            t.amp = { s.amp with state := .standby, warmUp := none, idle := none }) ∧
          (¬(s.amp.state = .faulted ∧ ∀ i, s.amp.debouncers.get i = .clear) → t.amp = s.amp) ∧
          t = { s with engine := t.engine, store := t.store, coord := t.coord, link := t.link, amp := t.amp })

/-- START(L) for the armed label with the amplifier READY or ABSENT is the epoch (R133, R134, R43, R80, R95, R144):
the test clock becomes the strapped compensation and runs, the run is RUNNING, the breaker is CLOSED with no timer and
every channel UNFORCED, the outputs of an enabled breaker take 52a = 1 and 52b = 0, the idle timer is gone and the
poller is OFF. With a compensation of 0 the epoch's own boundary gets a sample of its own, whatever was sent before on
the old clock (`sampleTaken`): the model's choice, log entry 42. A START of another label or in another run state has
no effect. START(L) for the armed label with the amplifier in STANDBY, WARMING or FAULTED (R60, R134, R154): the run
is aborted with reason NOT-READY, the reason is latched, a RUN-SUMMARY of no visits with the strapped compensation
stands under the label, now ABORTED, the ABORT frame is queued, and the test clock is left as it stands. -/
def Obligations.StartIsTheEpochOrNotReady : Prop :=
  (∀ (f : RxFrame) (l : Label) (s : State), Heard f s → Names 3 l f → QueuesOk s →
     (¬(s.engine.runState = .armed ∧ s.engine.runLabel = some l) → exec (.start f) s = .next (acked s)) ∧
       (s.engine.runState = .armed → s.engine.runLabel = some l → (s.amp.state = .ready ∨ s.amp.state = .absent) →
         ∃ t, exec (.start f) s = .next t ∧
           t.clock = { s.clock with
               running := true, now := BitVec.ofNat 32 s.link.straps.cableDelay.val, sampleTaken := false } ∧
           t.engine = { s.engine with runState := .running, boLevels := t.engine.boLevels } ∧
           (∀ o, t.engine.boLevels.get o =
             if s.plan.items.breaker.enabled = true ∧ s.plan.items.breaker.out52a = some o then true
             else if s.plan.items.breaker.enabled = true ∧ s.plan.items.breaker.out52b = some o then false
             else s.engine.boLevels.get o) ∧
           t.breaker = { state := .closed, timer := .off, forcing := Vector.replicate 3 .unforced } ∧
           t.amp = { s.amp with idle := none } ∧ t.coord = pollerOffOf s.coord ∧
           (∀ e ∈ t.link.tx, some e.age = s.coord.ownRoll ∨ some e.age = s.coord.ownStart → e.begun = true) ∧
           t = { s with
                 clock := t.clock, engine := t.engine, breaker := t.breaker, amp := t.amp, coord := t.coord
                 link := t.link })) ∧
    (∀ (f : RxFrame) (l : Label) (s : State), Heard f s → Names 3 l f → s.engine.runState = .armed →
       s.engine.runLabel = some l → s.amp.state ≠ .ready → s.amp.state ≠ .absent → RunInvariant s → Room s →
       s.store.reserve = some { evaluations := 0, dropped := 0 } →
       ∃ t, exec (.start f) s = .next t ∧
         t.engine = { s.engine with runState := .aborted, endReason := .notReady } ∧
         t.status = { s.status with latch := { s.status.latch with notReady := true } } ∧ t.store.reserve = none ∧
         Summarised l s.now .aborted (.runSummary .notReady 0 0 none s.link.straps.cableDelay.val) t ∧
         t.coord = pollerOffOf s.coord ∧
         (∃ e ∈ t.link.tx, e.frame = groupFrame (.abort l .notReady) .engine ∧ e.begun = false) ∧
         t = { s with engine := t.engine, status := t.status, store := t.store, coord := t.coord, link := t.link })

/-- STOP(L) (R58, R147) taken at an instant x while RUNNING with a visit current: with no exit decided, or one decided
to a state, the decided exit becomes STOP, with no target, at the first boundary at or after x that is later than the
entry; an exit decided to END, or a STOP decided already, stands (log entry 14). A visit whose abandoned exit was
decided at a fallback instant stays UNCOORDINATED (the model's choice, log entry 50). Before the first visit the run
ends at once, with reason STOP; at t = 1000 exactly, before the entry, that is the model's choice (log entry 34). In any
other run state, or for another label, it has no effect. -/
def Obligations.StopEndsTheVisit : Prop :=
  ∀ (f : RxFrame) (l : Label) (s : State), Heard f s → Names 4 l f →
    (s.engine.runLabel ≠ some l ∨ s.engine.runState ≠ .running → exec (.stop f) s = .next (acked s)) ∧
      (∀ v, s.engine.runLabel = some l → s.engine.runState = .running → s.engine.visit = some v →
        (∀ d, s.engine.decided = some d → ∃ st, d.target = some (.state st)) →
        ∃ t b, exec (.stop f) s = .next t ∧ IsExitBoundary v.entry s.now b ∧
          t = { acked s with
                engine := { s.engine with
                  decided := some { instant := s.now, decider := .stop, target := none, boundary := b } } }) ∧
      (∀ v d, s.engine.runLabel = some l → s.engine.runState = .running → s.engine.visit = some v →
        s.engine.decided = some d → d.target = none ∨ d.target = some .endRun → exec (.stop f) s = .next (acked s)) ∧
      (s.engine.runLabel = some l → s.engine.runState = .running → s.engine.visit = none → s.eval.pendingList = [] →
        ∃ t, exec (.stop f) s = .next t ∧ t.engine.runState = .finished ∧ t.engine.endReason = .stop ∧
          t.engine.boLevels = s.plan.items.header.boRest ∧ t.engine.visitCount = s.engine.visitCount ∧
          t.breaker = Breaker.initial ∧ t.store.reserve = none ∧ t.eval = s.eval ∧ t.plan = s.plan ∧ t.cond = s.cond ∧
          t.clock = s.clock ∧ t.link = (acked s).link ∧ t.status = s.status)

/-- STEP(L) (R49, R50, R147): the first STEP slot of the current visit's state decides the exit, where none is decided;
a pending coordinated mark of another slot is given up (R54, also where R50 differs: log entry 35); after the exit was
decided and before its boundary it is ignored; a state with no STEP slot, a run that is not RUNNING, a label that is not
the run's, or no current visit, leaves everything as it stands. -/
def Obligations.StepFiresTheStepSlot : Prop :=
  ∀ (f : RxFrame) (l : Label) (s : State), Heard f s → Names 5 l f →
    (s.engine.runLabel ≠ some l ∨ s.engine.runState ≠ .running ∨ s.engine.visit = none →
        exec (.step f) s = .next (acked s)) ∧
      (∀ d, s.engine.decided = some d → d.instant < s.now → s.now < d.boundary →
        exec (.step f) s = .next (acked s)) ∧
      (∀ v, s.engine.visit = some v → s.engine.decided = none →
        (∀ n target, (s.plan.items.states.get v.state).triggers.get n ≠ .step target) →
        exec (.step f) s = .next (acked s)) ∧
      (∀ v n target, s.engine.runLabel = some l → s.engine.runState = .running → s.engine.visit = some v →
        s.engine.decided = none → s.engine.pendingMark = none →
        (s.plan.items.states.get v.state).triggers.get n = .step target →
        (∀ k target', k < n → (s.plan.items.states.get v.state).triggers.get k ≠ .step target') →
        ∃ t b, exec (.step f) s = .next t ∧ IsExitBoundary v.entry s.now b ∧
          t = { acked s with
                engine := { s.engine with
                  decided := some { instant := s.now, decider := .slot n, target := some target, boundary := b }
                  visit := some { v with uncoordinated := false } } }) ∧
      (∀ v n target p, QueuesOk s → s.engine.runLabel = some l → s.engine.runState = .running →
        s.engine.visit = some v → s.engine.decided = none → s.engine.pendingMark = some p → p.slot ≠ n →
        (s.plan.items.states.get v.state).triggers.get n = .step target →
        (∀ k target', k < n → (s.plan.items.states.get v.state).triggers.get k ≠ .step target') →
        ∃ t b, exec (.step f) s = .next t ∧ IsExitBoundary v.entry s.now b ∧ GivenUp p l (acked s) t ∧
          t.engine = { s.engine with
            pendingMark := none
            decided := some { instant := s.now, decider := .slot n, target := some target, boundary := b }
            visit := some { v with uncoordinated := false } } ∧
          t = { acked s with engine := t.engine, link := t.link, store := t.store })

/-- ABORT(L) (R61, R148): whatever its reason byte, a RUNNING run of the label is aborted with reason PEER-ABORT, its
visit closed, its EVALUATIONs written oldest first and its RUN-SUMMARY last under the label, now ABORTED, with no ABORT
frame queued; an ARMED one becomes ABORTED with no record; in any other run state, or for another label, it has no
effect. -/
def Obligations.PeerAbort : Prop :=
  ∀ (f : RxFrame) (l : Label) (reason : Byte) (s : State), Heard f s → f.kind.toNat = 1 → f.payload = [l, reason] →
    1 ≤ l.toNat → l.toNat ≤ 254 → QueuesOk s → RunShape s →
    (s.engine.runLabel ≠ some l ∨ (s.engine.runState ≠ .running ∧ s.engine.runState ≠ .armed) →
        exec (.abort f) s = .next (acked s)) ∧
      (s.engine.runLabel = some l → s.engine.runState = .armed →
        ∃ t, exec (.abort f) s = .next t ∧ t.engine = { s.engine with runState := .aborted, endReason := .peerAbort } ∧
          t.store = { s.store with reserve := none } ∧ t.coord = pollerOffOf s.coord ∧
          (∀ e ∈ t.link.tx, e ∈ s.link.tx) ∧
          t = { s with engine := t.engine, store := t.store, coord := t.coord, link := t.link }) ∧
      (s.engine.runLabel = some l → s.engine.runState = .running → s.engine.held = [] →
        ∃ t, exec (.abort f) s = .next t ∧ t.engine.runState = .aborted ∧ t.engine.endReason = .peerAbort ∧
          t.engine.runLabel = some l ∧ t.engine.visit = none ∧ t.engine.decided = none ∧ t.engine.pendingMark = none ∧
          t.engine.pendingFallback = none ∧ t.engine.boLevels = s.plan.items.header.boRest ∧
          t.engine.lastState = s.engine.latestVisit ∧ t.eval.pendingList = [] ∧ t.store.reserve = none ∧
          (RunInvariant s → AbortRecords .peerAbort s t) ∧
          t.breaker = Breaker.initial ∧ (∀ e ∈ t.link.tx, e ∈ s.link.tx) ∧
          (∀ e ∈ t.link.tx, ∀ c d, e.frame.body = .mark l c d → e.begun = true) ∧
          (s.amp.state = .ready → t.amp = { s.amp with idle := some (s.amp.count + 60000000) }) ∧
          (s.amp.state ≠ .ready → t.amp = s.amp) ∧ t.plan = s.plan ∧ t.cond = s.cond ∧ t.clock = s.clock ∧
          t.coord = s.coord ∧ t.gather = s.gather ∧ t.status = s.status ∧ t.supplyFail = s.supplyFail)

/-- MARK(L) of another station (R48, R50, R132, R146): in RUNNING and ENDING the store receives a MARK-HEARD record with
the origin, the code and the detection time carried; in RUNNING the first MARK slot of the visit that listens to the
code from that station decides the exit, where none is decided; a pending coordinated mark of another slot is given up
(R54, also where R50 differs: log entry 35), its MARK-SENT DROPPED record standing behind the MARK-HEARD record (the
model's order, log entry 15: R146 and R152 leave it open). With no visit current nothing fires; at t = 1000 exactly,
before the entry, that is the model's choice (log entry 34). In any other run state, or for another label, it has no
effect. -/
def Obligations.MarkHeard : Prop :=
  ∀ (f : RxFrame) (l : Label) (code d0 d1 d2 d3 : Byte) (s : State), Heard f s → f.kind.toNat = 2 →
    f.payload = [l, code, d0, d1, d2, d3] → 1 ≤ l.toNat → l.toNat ≤ 254 → 1 ≤ code.toNat → code.toNat ≤ 63 →
    let detection := ((d0.toNat * 256 + d1.toNat) * 256 + d2.toNat) * 256 + d3.toNat
    let logged := (storeEvent l (.markHeard f.origin code detection) s).store
    let listens (t : Trigger) : Prop :=
      ∃ origin target, t = .mark code origin target ∧ (origin = none ∨ origin = some f.origin)
    (s.engine.runLabel ≠ some l ∨ s.runUnderWay = false → exec (.mark f) s = .next (acked s)) ∧
      (s.engine.runLabel = some l → s.engine.runState = .ending →
        exec (.mark f) s = .next { acked s with store := logged }) ∧
      (s.engine.runLabel = some l → s.engine.runState = .running → s.engine.visit = none →
        exec (.mark f) s = .next { acked s with store := logged }) ∧
      (∀ d, s.engine.runLabel = some l → s.engine.runState = .running → s.engine.decided = some d →
        d.instant < s.now → s.now < d.boundary → exec (.mark f) s = .next { acked s with store := logged }) ∧
      (∀ v, s.engine.runLabel = some l → s.engine.runState = .running → s.engine.visit = some v →
        s.engine.decided = none → (∀ n, ¬listens ((s.plan.items.states.get v.state).triggers.get n)) →
        exec (.mark f) s = .next { acked s with store := logged }) ∧
      (∀ v n origin target, s.engine.runLabel = some l → s.engine.runState = .running → s.engine.visit = some v →
        s.engine.decided = none → s.engine.pendingMark = none →
        (s.plan.items.states.get v.state).triggers.get n = .mark code origin target →
        (origin = none ∨ origin = some f.origin) →
        (∀ k, k < n → ¬listens ((s.plan.items.states.get v.state).triggers.get k)) →
        ∃ t b, exec (.mark f) s = .next t ∧ IsExitBoundary v.entry s.now b ∧
          t = { acked s with
                store := logged
                engine := { s.engine with
                  decided := some { instant := s.now, decider := .slot n, target := some target, boundary := b }
                  visit := some { v with uncoordinated := false } } }) ∧
      (∀ v n origin target p, QueuesOk s → s.engine.runLabel = some l → s.engine.runState = .running →
        s.engine.visit = some v → s.engine.decided = none → s.engine.pendingMark = some p → p.slot ≠ n →
        (s.plan.items.states.get v.state).triggers.get n = .mark code origin target →
        (origin = none ∨ origin = some f.origin) →
        (∀ k, k < n → ¬listens ((s.plan.items.states.get v.state).triggers.get k)) →
        ∃ t b, exec (.mark f) s = .next t ∧ IsExitBoundary v.entry s.now b ∧
          GivenUp p l { acked s with store := logged } t ∧
          t.engine = { s.engine with
            pendingMark := none
            decided := some { instant := s.now, decider := .slot n, target := some target, boundary := b }
            visit := some { v with uncoordinated := false } } ∧
          t = { acked s with engine := t.engine, link := t.link, store := t.store })

/-- ROLLCALL (R121, R132, R140): an ONLINE station acks it and drives its own bit exactly when its condition for the
class holds: READY while ARMED with the amplifier READY or ABSENT; DONE while FINISHED or ABORTED with its label held;
FAULT while the latch holds a reason. It drives no bit for a class that does not exist, and none at all while SILENT or
MUTED. Nothing else changes, and the map it reads is not kept. The condition is that of the end of the check field, 18
µs before the frame instant (behind every event of that instant: log entry 9). -/
def Obligations.RollcallAnswersByClass : Prop :=
  ∀ (f : RxFrame) (cls : Byte) (s : State), Heard f s → f.kind.toNat = 8 → f.payload = [cls] →
    ∃ t bit, exec (.rollcall f) s = .next t ∧ t = driven (groupSlots s bit) s ∧
      (cls = 1 → bit = (judgedAt 18 s).ready) ∧ (cls = 2 → bit = (judgedAt 18 s).done) ∧
      (cls = 3 → bit = (judgedAt 18 s).fault) ∧
      (cls.toNat = 0 ∨ 3 < cls.toNat → bit = false)

/-! ### Requests -/

/-- A request is judged by checks in a fixed order (R182): a kind that is none of the ten is refused UNKNOWN-KIND; a
payload of another length than its kind requires (R190, R191) is refused LENGTH; and a refused request changes nothing
but the service and the count of requests refused, which rises by 1. A bad item kind is refused RANGE at position 0
(positions count from 0, the model's reading, log entry 6). -/
def Obligations.RequestsRefusedForKindOrLength : Prop :=
  (∀ (r : Request) (since : Nat) (s : State), InHand r since s → r.kind < 32 ∨ 41 < r.kind →
    exec .unknownKindRequest s = .next (refused r since 1 0 s)) ∧
    (∀ (c : Instr) (kind n : Nat) (r : Request) (since : Nat) (s : State), InHand r since s →
      (c, kind, n) ∈ [(Instr.statusRead, 32, 2), (.resetStation, 33, 0), (.release, 34, 1), (.recordRead, 35, 4),
        (.gather, 36, 7), (.reportRead, 37, 2), (.planRead, 39, 3), (.planCommit, 40, 0), (.planClear, 41, 0)] →
      r.kind = kind → r.payload.length ≠ n → exec c s = .next (refused r since 2 0 s)) ∧
    (∀ (r : Request) (since : Nat) (s : State), InHand r since s → r.kind = 38 →
      (r.payload.length < 3 ∨ ∃ n, writeLength (byteAt r.payload 0) = some n ∧ r.payload.length ≠ n) →
      exec .planWrite s = .next (refused r since 2 0 s)) ∧
    (∀ (r : Request) (since : Nat) (s : State), InHand r since s → r.kind = 38 → 3 ≤ r.payload.length →
      (byteAt r.payload 0 = 0 ∨ 9 < byteAt r.payload 0) → exec .planWrite s = .next (refused r since 3 0 s))

/-- PLAN_WRITE (R2, R3, R13, R17, R76). With every check passed, a write while a run holds the plan is refused LOCKED,
and one while a check runs BUSY. Otherwise the whole item is replaced by the fields as clamped and wrapped, the plan is
EDITING, the clamp count rises by the clamped fields and saturates, and ACCEPT carries both figures. A HEADER takes
effect on the outputs; an INPUT-SETUP takes effect on its input at this instant, and on nothing else but the plan and
the service; an item that is neither a HEADER nor an INPUT-SETUP touches nothing else. A field that is refused stores
nothing: REFUSE carries RANGE and its position (positions count from 0, the model's reading, log entry 6; of a pair of
fields refused as a pair it is the first field's, log entry 11). The ranges of the nine kinds of item (R4 to R12): which
values refuse the write, which are clamped and to which limit, which wrap, and which are stored as they come. -/
def Obligations.PlanWriteStoresTheItem : Prop :=
  SetupRanges ∧ TermAndStateRanges ∧ TriggerRanges ∧
  ∀ (r : Request) (since n : Nat) (s : State), InHand r since s → r.kind = 38 →
    writeLength (byteAt r.payload 0) = some n → r.payload.length = n →
    let x := readItem (itemIdOf r.payload) r.payload
    let bad := firstBad (addressChecks r.payload ++ x.checks)
    (∀ i, bad = some i → exec .planWrite s = .next (refused r since 3 i s)) ∧
      (bad = none → s.runActive = true → exec .planWrite s = .next (refused r since 5 0 s)) ∧
      (bad = none → s.runActive = false → s.plan.state = .checking →
        exec .planWrite s = .next (refused r since 6 0 s)) ∧
      (bad = none → s.runActive = false → s.plan.state ≠ .checking →
        let count := min 65535 (s.plan.clampCount + x.clamped)
        let plan := { s.plan with items := storeItem x.item s.plan.items, state := .editing, clampCount := count }
        let reply := [38, byte x.clamped, byte (count / 256), byte count]
        ∃ t, exec .planWrite s = .next t ∧ t.plan = plan ∧
          t.status.service = .answered r 16 reply since ∧ fetchItem (itemIdOf r.payload) t.plan.items = x.item ∧
          ((∀ bi u, x.item ≠ .inputSetup bi u) → (∀ h, x.item ≠ .header h) →
            t = { answered r since 16 reply s with plan := plan }) ∧
          (∀ h, x.item = .header h →
            t = { answered r since 16 reply s with
                  plan := plan
                  engine := { s.engine with boLevels := h.boRest, boSchedule := Vector.replicate 4 none } }) ∧
          (∀ bi u, x.item = .inputSetup bi u → RunShape s →
            t = { answered r since 16 reply s with plan := plan, cond := t.cond } ∧ t.cond.count = s.cond.count ∧
              (∀ i, i ≠ bi → t.input i = s.input i) ∧ UnderSetup u s.cond.count (s.input bi) (t.input bi)))

/-- PLAN_READ (R14, R190). A bad address is refused RANGE at its byte (positions count from 0, the model's reading, log
entry 6), a read while a check runs BUSY; otherwise the answer is a PLAN-ITEM with the address, the plan state in bits
2..0, bit 3 set for an item of a defined state, and the stored fields. Nothing of the plan changes. PLAN_CLEAR (R13,
R17): refused LOCKED while a run holds the plan and BUSY while a check runs; otherwise the plan is EMPTY with every
item at its default, the outputs take the default rest levels, 0, and the default setup of each input takes effect
on its candidate or lockout at this instant (R76); nothing else changes. -/
def Obligations.PlanReadAndClear : Prop :=
  (∀ (r : Request) (since : Nat) (s : State), InHand r since s → r.kind = 39 → r.payload.length = 3 →
     let id := itemIdOf r.payload
     let defined := match id.stateNo with
       | some st => (s.plan.items.states.get st).defined
       | none => false
     (∀ i, firstBad (addressChecks r.payload) = some i → exec .planRead s = .next (refused r since 3 i s)) ∧
       (firstBad (addressChecks r.payload) = none → s.plan.state = .checking →
         exec .planRead s = .next (refused r since 6 0 s)) ∧
       (firstBad (addressChecks r.payload) = none → s.plan.state ≠ .checking →
         exec .planRead s = .next
           (answered r since 19
             (r.payload ++ [byte (s.plan.state.code + if defined = true then 8 else 0)] ++
               (fetchItem id s.plan.items).fields) s))) ∧
    (∀ (r : Request) (since : Nat) (s : State), InHand r since s → r.kind = 41 → r.payload = [] →
       (s.runActive = true → exec .planClear s = .next (refused r since 5 0 s)) ∧
         (s.runActive = false → s.plan.state = .checking → exec .planClear s = .next (refused r since 6 0 s)) ∧
         (s.runActive = false → s.plan.state ≠ .checking →
           ∃ t, exec .planClear s = .next t ∧ t.plan = PlanMemory.emptied ∧
             t.plan.items.header.boRest = Vector.replicate 4 false ∧ t.engine.boLevels = Vector.replicate 4 false ∧
             t.status.service = .answered r 16 [41] since ∧ t.clock = s.clock ∧ t.amp.debouncers = s.amp.debouncers ∧
             t.link.requests = s.link.requests ∧ t.cond.count = s.cond.count ∧
             (RunShape s → (∀ i, UnderSetup InputSetup.initial s.cond.count (s.input i) (t.input i)) ∧
               t = { answered r since 16 [41] s with
                     plan := PlanMemory.emptied, cond := t.cond
                     engine := { s.engine with
                       boLevels := Vector.replicate 4 false, boSchedule := Vector.replicate 4 none } })))

/-- PLAN_COMMIT (R15): of an EMPTY plan refused NO-PLAN, of a CHECKING one BUSY, of a VALID one accepted at once; of an
EDITING or INVALID one the plan is CHECKING, the committer is kept for the PLAN-RESULT, and the service is over. -/
def Obligations.PlanCommitByPlanState : Prop :=
  ∀ (r : Request) (since : Nat) (s : State), InHand r since s → r.kind = 40 → r.payload = [] →
    (s.plan.state = .empty → exec .planCommit s = .next (refused r since 8 0 s)) ∧
      (s.plan.state = .checking → exec .planCommit s = .next (refused r since 6 0 s)) ∧
      (s.plan.state = .valid → exec .planCommit s = .next (answered r since 16 [40] s)) ∧
      (s.plan.state = .editing ∨ s.plan.state = .invalid →
        exec .planCommit s = .next
          { serviceNext s with
            plan :=
              { s.plan with
                state := .checking, committer := some (r.origin, r.tag), checkBegan := some s.clock.elapsed } })

/-- COMMIT_CHECK_END (R15, R16). The plan is VALID, with first error NONE, exactly when its initial state is defined,
no target of a defined state names an undefined one, an enabled breaker's fields do not conflict, no enabled term takes
the entry of an undefined state, and a named gather station has a gather set; otherwise INVALID, and PLAN-INVALID is
latched. The clamp count and the items stand, and a PLAN-RESULT with the outcome, the first error, its location and the
clamp count is queued for the committer. With no check in progress nothing happens (log entry 8). -/
def Obligations.CommitCheckDecidesThePlan : Prop :=
  (∀ s : State, s.plan.state ≠ .checking → exec .commitCheckEnd s = .next s) ∧
    ∀ (st : StationNo) (tag : Byte) (s : State), s.plan.state = .checking → s.plan.committer = some (st, tag) → Quiet s →
      Room s →
      let m := s.plan.items
      let e := commitCheck m
      let goes (t : Target) : Prop := t = .endRun ∨ ∃ u, t = .state u ∧ (m.states.get u).defined = true
      let entryKnown (x : Selector) : Prop := ∀ u, x.event = .stateEntry u → (m.states.get u).defined = true
      let sound : Prop :=
        (m.states.get m.header.initialState).defined = true ∧
          (∀ u, (m.states.get u).defined = true →
            goes (m.states.get u).control.backstopTarget ∧
              ∀ n, (m.states.get u).triggers.get n = .empty ∨ goes (triggerTarget ((m.states.get u).triggers.get n))) ∧
          (m.breaker.enabled = true →
            m.breaker.closeInput ≠ some m.breaker.tripInput ∧
              (m.breaker.out52a = none ∨ m.breaker.out52a ≠ m.breaker.out52b)) ∧
          (∀ k, (m.terms.get k).enabled = true → entryKnown (m.terms.get k).selA ∧ entryKnown (m.terms.get k).selB) ∧
          (m.header.gatherStation ≠ none → ∃ i, m.header.gatherSet.get i = true)
      let result : List Byte :=
        [if e = .none then 1 else 2, byte e.code] ++ e.location ++
          [byte (s.plan.clampCount / 256), byte s.plan.clampCount]
      ∃ t, exec .commitCheckEnd s = .next t ∧ (e = .none ↔ sound) ∧
        t.plan = { s.plan with
            state := if e = .none then .valid else .invalid, firstError := e, committer := none, checkBegan := none } ∧
        t.status = { s.status with
            latch := { s.status.latch with planInvalid := if e = .none then s.status.latch.planInvalid else true } } ∧
        Inserted
          (newEntry { dest := some st, tag := tag, body := .reply 20 result, owner := .planMemory } s) s.link.tx
          t.link.tx ∧
        t = { s with plan := t.plan, status := t.status, link := t.link }

/-- RECORD_READ (R159, R192): a label of 0 or 255 is refused RANGE at position 0 (positions count from 0, the model's
reading, log entry 6); a record that is held is answered RECORD, with the label, the index, the label's count and end
state, the kind and the part asked for; an index not yet held under the label of an ARMED, RUNNING or ENDING run is
answered NOT-YET; any other NONE. Nothing of the store changes. -/
def Obligations.RecordReadAnswers : Prop :=
  ∀ (r : Request) (since : Nat) (l i0 i1 part : Byte) (s : State), InHand r since s → r.kind = 35 →
    r.payload = [l, i0, i1, part] → StoreOk s.store →
    let i := i0.toNat * 256 + i1.toNat
    let held : Prop := ∃ h ∈ s.store.heldLabels, h.label = l ∧ i < h.count
    (l = 0 ∨ l = 255 → exec .recordRead s = .next (refused r since 3 0 s)) ∧
      (l ≠ 0 → l ≠ 255 → ¬held → s.engine.runLabel = some l → s.runActive = true →
        exec .recordRead s = .next (answered r since 23 [l, i0, i1] s)) ∧
      (l ≠ 0 → l ≠ 255 → ¬held → (s.engine.runLabel ≠ some l ∨ s.runActive = false) →
        exec .recordRead s = .next (answered r since 22 [l, i0, i1] s)) ∧
      (∀ h ∈ s.store.heldLabels, l ≠ 0 → l ≠ 255 → h.label = l → i < h.count →
        ∃ b x, h.chain[i / 8]? = some b ∧ (s.store.blocks.get b).records[i % 8]? = some x ∧ x.index = i ∧
          exec .recordRead s = .next
            (answered r since 21
              ([l, i0, i1, byte (h.count / 256), byte h.count,
                  byte (x.contents.kindCode * 32 + h.endState.code * 8 + if part = 0 then 0 else 4)] ++
                bytes4 x.time ++ if part = 0 then x.contents.firstPart else x.contents.secondPart) s))

/-- RELEASE (R161): RANGE at position 0 for a label of 0 or 255 (positions count from 0, the model's reading, log entry
6), STATE for the label of an ARMED, RUNNING or ENDING run, NO-LABEL for a label not held; otherwise every block of the
label's chain is FREE, its entry leaves the table, every other block and entry stands, and ACCEPT carries the blocks
freed and the records released. -/
def Obligations.ReleaseFreesTheChain : Prop :=
  ∀ (r : Request) (since : Nat) (l : Label) (s : State), InHand r since s → r.kind = 34 → r.payload = [l] →
    StoreOk s.store →
    let busy : Prop := s.engine.runLabel = some l ∧ s.runActive = true
    (l = 0 ∨ l = 255 → exec .release s = .next (refused r since 3 0 s)) ∧
      (l ≠ 0 → l ≠ 255 → busy → exec .release s = .next (refused r since 4 0 s)) ∧
      (l ≠ 0 → l ≠ 255 → ¬busy → (∀ h ∈ s.store.heldLabels, h.label ≠ l) →
        exec .release s = .next (refused r since 10 0 s)) ∧
      (∀ h ∈ s.store.heldLabels, l ≠ 0 → l ≠ 255 → h.label = l → ¬busy →
        ∃ t, exec .release s = .next t ∧
          t = { answered r since 16 [34, byte h.chain.length, byte (h.count / 256), byte h.count] s with
                store := t.store } ∧
          t.store.reserve = s.store.reserve ∧ (∀ g, g ∈ t.store.heldLabels ↔ g ∈ s.store.heldLabels ∧ g.label ≠ l) ∧
          (∀ b, (s.store.blocks.get b).owner = some l → t.store.blocks.get b = StoreBlock.free) ∧
          (∀ b, (s.store.blocks.get b).owner ≠ some l → t.store.blocks.get b = s.store.blocks.get b))

/-- GATHER (R165, R166, R174, R182). Fields out of range are refused RANGE at the first one (positions count from 0, the
model's reading, log entry 6); a MERGE under another label than the report's STATE; a busy engine BUSY. Otherwise ACCEPT
is queued and the service is over at once (log entry 25), and the gather begins: a FRESH one empties the report and
takes its label, a MERGE keeps the entries, every term is NOT-EVALUATED while it lasts; a ROLL waits in ROLLING for its
DONE roll-call (R141; queued also where a discarded one of an earlier gather still stands in the queue: the model's
reading, log entry 22), and a ONE or a SET whose lowest station is another one reads that station's index 0 at once. A
ONE of the own station under a label that its store does not hold and that no run of it is under finds NONE there: the
station is COMPLETE with no record taken, and the gather is COMPLETED at once with a GATHER-DONE to the requester. The
records of the own store under a label it holds, or a SET that begins there, are not said here. -/
def Obligations.GatherBegins : Prop :=
  ∀ (r : Request) (since : Nat) (l sweep s1 s0 wait silence start : Byte) (s : State), InHand r since s → r.kind = 36 →
    r.payload = [l, sweep, s1, s0, wait, silence, start] →
    let stations := s1.toNat * 256 + s0.toNat
    let labelOk : Prop := l ≠ 0 ∧ l ≠ 255
    let sweepOk : Prop := sweep = 1 ∨ sweep = 2 ∨ sweep = 3
    let stationsOk : Prop := (sweep = 1 → stations < 16) ∧ (sweep = 2 → stations ≠ 0)
    let two (b : Byte) : Prop := b = 1 ∨ b = 2
    let inRange : Prop := labelOk ∧ sweepOk ∧ stationsOk ∧ two wait ∧ two silence ∧ two start
    let otherLabel : Prop := start = 2 ∧ s.gather.report.label ≠ none ∧ s.gather.report.label ≠ some l
    let fresh : Prop := start = 1 ∨ s.gather.report.label = none
    let first (st : StationNo) : Prop := (sweep = 1 ∧ stations = st.val) ∨
      (sweep = 2 ∧ stations.testBit st.val = true ∧ ∀ j : StationNo, j < st → stations.testBit j.val = false)
    (¬labelOk → exec .gather s = .next (refused r since 3 0 s)) ∧
      (labelOk → ¬sweepOk → exec .gather s = .next (refused r since 3 1 s)) ∧
      (labelOk → sweepOk → ¬stationsOk → exec .gather s = .next (refused r since 3 2 s)) ∧
      (labelOk → sweepOk → stationsOk → ¬two wait → exec .gather s = .next (refused r since 3 4 s)) ∧
      (labelOk → sweepOk → stationsOk → two wait → ¬two silence → exec .gather s = .next (refused r since 3 5 s)) ∧
      (labelOk → sweepOk → stationsOk → two wait → two silence → ¬two start →
        exec .gather s = .next (refused r since 3 6 s)) ∧
      (inRange → otherLabel → exec .gather s = .next (refused r since 4 0 s)) ∧
      (inRange → ¬otherLabel → s.gather.state = .rolling ∨ s.gather.state = .sweeping →
        exec .gather s = .next (refused r since 6 0 s)) ∧
      (inRange → ¬otherLabel → s.gather.state = .idle ∨ s.gather.state = .done → s.link.state ≠ .muted →
        s.link.tx.length < 7 → (sweep = 3 ∨ ∃ st, first st ∧ st ≠ s.own) →
        ∃ t c, exec .gather s = .next t ∧ t.gather.cursor = some c ∧ c.label = l ∧ c.requester = some (r.origin, r.tag) ∧
          (c.waitPending = true ↔ wait = 1) ∧ (c.haltSilence = true ↔ silence = 2) ∧ c.index = 0 ∧
          t.status = (serviceNext s).status ∧ t.link.requests = (serviceNext s).link.requests ∧
          (∀ i, t.gather.report.terms.get i = .notEvaluated) ∧ t.gather.report.outcome = .none ∧
          (fresh → t.gather.report.label = some l ∧ t.gather.report.entries = [] ∧ t.gather.report.truncated = false ∧
            t.gather.report.dropped = 0 ∧
            ∀ i, t.gather.report.status.get i = .notSwept ∧ t.gather.report.taken.get i = 0) ∧
          (¬fresh → t.gather.report.label = s.gather.report.label ∧
            t.gather.report.entries = s.gather.report.entries ∧
            t.gather.report.truncated = s.gather.report.truncated ∧ t.gather.report.dropped = s.gather.report.dropped) ∧
          (∃ e ∈ t.link.tx, e.frame = replyFrame r .gatherEngine 16 [36] ∧ e.begun = false) ∧
          (sweep = 3 → t.gather.state = .rolling ∧ t.coord.gatherRoll = some (s.link.nextAge + 1) ∧
            ∃ e ∈ t.link.tx, e.age = s.link.nextAge + 1 ∧ e.frame = groupFrame (.rollcall .done) .coordination) ∧
          (∀ st, first st → t.gather.state = .sweeping ∧ c.station = some st ∧
            (∀ i, c.sweepSet.get i = if sweep = 1 then decide (i = st) else stations.testBit i.val) ∧
            c.readTag = some s.gather.tagCounter ∧ t.gather.tagCounter = s.gather.tagCounter + 1 ∧
            t.link.outstanding = some { station := st, tag := s.gather.tagCounter } ∧
            ∃ e ∈ t.link.tx, e.frame =
              { dest := some st, tag := s.gather.tagCounter, body := .recordRead l 0, owner := .gatherEngine }) ∧
          t = { s with link := t.link, coord := t.coord, gather := t.gather, status := t.status }) ∧
      (inRange → ¬otherLabel → s.gather.state = .idle ∨ s.gather.state = .done → s.link.state ≠ .muted →
        s.link.tx.length < 7 → sweep = 1 → stations = s.own.val → (∀ h ∈ s.store.heldLabels, h.label ≠ l) →
        (s.engine.runLabel = some l → s.runActive = false) →
        ∃ t, exec .gather s = .next t ∧ t.gather.state = .done ∧ t.gather.cursor = none ∧
          t.gather.report.outcome = .completed ∧ t.gather.report.status.get s.own = .complete ∧
          t.gather.report.taken.get s.own = 0 ∧ t.gather.report.rounding = s.plan.items.header.rounding ∧
          (∀ k, t.gather.report.terms.get k =
            termResult s.plan.items.header.rounding (s.plan.items.terms.get k) t.gather.report) ∧
          t.gather.tagCounter = s.gather.tagCounter ∧ t.status = (serviceNext s).status ∧
          t.link.requests = (serviceNext s).link.requests ∧
          (fresh → t.gather.report.label = some l ∧ t.gather.report.entries = [] ∧
            ∀ i, i ≠ s.own → t.gather.report.status.get i = .notSwept ∧ t.gather.report.taken.get i = 0) ∧
          (¬fresh → t.gather.report.label = s.gather.report.label ∧
            t.gather.report.entries = s.gather.report.entries ∧
            ∀ i, i ≠ s.own → t.gather.report.status.get i = s.gather.report.status.get i ∧
              t.gather.report.taken.get i = s.gather.report.taken.get i) ∧
          (∃ e ∈ t.link.tx, e.frame = replyFrame r .gatherEngine 16 [36] ∧ e.begun = false) ∧
          (∃ e ∈ t.link.tx, e.begun = false ∧ e.frame =
            replyFrame r .gatherEngine 24 (gatherDonePayload l t.gather.report)) ∧
          DonePayload l t.gather.report (gatherDonePayload l t.gather.report) ∧
          t = { s with link := t.link, gather := t.gather, status := t.status })

/-- REPORT_READ (R178, R192): RANGE at position 0 for a line position over 524 (positions count from 0, the model's
reading, log entry 6), STATE while the engine is busy, NO-REPORT with no report label; otherwise the line of the
position, and nothing of the report changes: the term's result for 1..12 (with value bytes of 0 where it is DISABLED or
NOT-EVALUATED: the model's choice, log entry 39), the entry for 13..524 when the report holds it, and past its end 255
with the entry count. -/
def Obligations.ReportReadShowsALine : Prop :=
  ∀ (r : Request) (since : Nat) (p1 p0 : Byte) (s : State), InHand r since s → r.kind = 37 → r.payload = [p1, p0] →
    let pos := p1.toNat * 256 + p0.toNat
    let free := s.gather.state = .idle ∨ s.gather.state = .done
    (524 < pos → exec .reportRead s = .next (refused r since 3 0 s)) ∧
      (pos ≤ 524 → ¬free → exec .reportRead s = .next (refused r since 4 0 s)) ∧
      (pos ≤ 524 → free → s.gather.report.label = none → exec .reportRead s = .next (refused r since 11 0 s)) ∧
      (pos ≤ 524 → free → s.gather.report.label ≠ none →
        ∃ line, exec .reportRead s = .next (answered r since 25 ([p1, p0] ++ line) s) ∧
          (pos = 0 → line = reportHeader s.gather) ∧
          (∀ k : TermNo, pos = k.val + 1 →
            (s.gather.report.terms.get k = .disabled → line = [0, 0, 0, 0, 0, 0]) ∧
              (s.gather.report.terms.get k = .notEvaluated → line = [1, 0, 0, 0, 0, 0]) ∧
              (∀ v, s.gather.report.terms.get k = .pass v → line = [2, 0] ++ sbytes4 v) ∧
              (∀ v, s.gather.report.terms.get k = .fail v → line = [3, 0] ++ sbytes4 v) ∧
              (∀ a b, s.gather.report.terms.get k = .missing a b →
                line = [4, byte ((if a = true then 1 else 0) + if b = true then 2 else 0), 128, 0, 0, 0])) ∧
          (∀ e, 13 ≤ pos → s.gather.report.entries[pos - 13]? = some e →
            line = [byte e.origin.val, byte (e.index / 256), byte e.index, byte (e.kind * 32)] ++ bytes4 e.time ++
              e.contents) ∧
          (13 ≤ pos → s.gather.report.entries.length ≤ pos - 13 →
            line = [255, byte (s.gather.report.entries.length / 256), byte s.gather.report.entries.length]))

/-- STATUS_READ (R184, R186, R190, R193): a clear flag other than 0 and 1 is refused RANGE at position 0 (positions
count from 0, the model's reading, log entry 6); otherwise the reply is built from the state as it stands, 31 bytes
for part 0 and 39 for any other part byte, every byte of both as R193 lays them out, the held labels of part 1 in
ascending order in the first of eight entries; with the flag SET the latch and the four counts are cleared after that,
at the same instant; nothing else changes. -/
def Obligations.StatusReadBuildsThenClears : Prop :=
  ∀ (r : Request) (since : Nat) (flag part : Byte) (s : State), InHand r since s → r.kind = 32 → r.payload = [flag, part] →
    (flag ≠ 0 → flag ≠ 1 → exec .statusRead s = .next (refused r since 3 0 s)) ∧
      (flag = 0 ∨ flag = 1 →
        ∃ t reply, exec .statusRead s = .next t ∧
          t = { s with
                status :=
                  { service := .answered r 18 reply since
                    latch := if flag = 1 then FaultLatch.cleared else s.status.latch
                    served := if flag = 1 then 0 else s.status.served
                    refused := if flag = 1 then 0 else s.status.refused
                    turnedAway := if flag = 1 then 0 else s.status.turnedAway
                    dropped := if flag = 1 then 0 else s.status.dropped } } ∧
          (part = 0 →
            reply.length = 31 ∧ reply.getD 0 0 = 0 ∧
              reply.getD 1 0 = byte (s.link.straps.station.val * 16 + s.link.straps.group.val * 2 +
                if s.link.straps.amplifierPresent = true then 1 else 0) ∧
              reply.getD 2 0 = byte s.link.straps.cableDelay.val ∧
              (∀ v, s.engine.visit = some v → reply.getD 6 0 = byte v.state.val ∧ reply.getD 7 0 = byte v.number) ∧
              (s.engine.visit = none → reply.getD 6 0 = 255 ∧ reply.getD 7 0 = 0) ∧
              reply.getD 10 0 = (s.engine.lastState.map fun x => byte x.val).getD 255 ∧
              reply.getD 12 0 = byte s.plan.firstError.code ∧ (reply.drop 13).take 2 = s.plan.firstError.location ∧
              (reply.drop 15).take 2 = bytes2 s.plan.clampCount ∧
              (∀ i : InputNo, ((reply.getD 19 0).getLsbD i.val = (s.input i).accepted) ∧
                ((reply.getD 20 0).getLsbD i.val = true ↔
                  (s.input i).accepted = (s.plan.items.inputs.get i).activeHigh) ∧
                ((reply.getD 21 0).getLsbD i.val = true ↔ (s.input i).lockout ≠ none)) ∧
              (reply.getD 22 0).toNat < 16 ∧
              (∀ o : OutputNo, (reply.getD 22 0).getLsbD o.val = s.engine.boLevels.get o) ∧
              reply.getD 3 0 = byte s.link.state.code ∧
              reply.getD 4 0 = byte s.engine.runState.code ∧ reply.getD 5 0 = s.engine.runLabel.getD 0 ∧
              reply.getD 8 0 = byte s.engine.visitCount ∧ reply.getD 9 0 = byte s.engine.endReason.code ∧
              reply.getD 11 0 = byte s.plan.state.code ∧ reply.getD 17 0 = byte s.amp.state.code ∧
              reply.getD 18 0 = byte s.breaker.state.code ∧ reply.getD 23 0 = byte (freeBlocks s.store).length ∧
              reply.getD 24 0 = byte s.gather.state.code ∧ reply.getD 25 0 = byte s.status.latch.bits ∧
              reply.getD 26 0 = byte s.status.latch.causeCode ∧ reply.drop 27 = bytes4 s.now) ∧
          (part ≠ 0 →
            reply.length = 39 ∧
              reply.take 15 = [1] ++ bytes4 s.now ++ [byte s.status.latch.bits, byte s.status.latch.causeCode] ++
                bytes2 s.status.served ++ bytes2 s.status.refused ++ bytes2 s.status.turnedAway ++
                bytes2 s.status.dropped ∧
              ∃ hs : List HeldLabel, hs.Perm s.store.heldLabels ∧
                (hs.Pairwise fun a b => a.label.toNat ≤ b.label.toNat) ∧
                (∀ k h, k < 8 → hs[k]? = some h → reply.getD (15 + 3 * k) 0 = h.label ∧
                  (h.count < 1024 → num2 reply (16 + 3 * k) = h.count * 64 + h.endState.code)) ∧
                ∀ k, k < 8 → hs.length ≤ k → (reply.drop (15 + 3 * k)).take 3 = [0, 0, 0]))

/-- RESET_STATION (R187, R40, R61, R64, R90, R97, R131, R149, R163, R180). The run, if ARMED, RUNNING or ENDING, is
ABORTED with reason STATION-RESET, a RUNNING or ENDING one with its records; the plan is emptied; the outputs are 0;
the synthesizer holds no visit context, its last emitted codes are 0 at once (log entry 17) and the reference phase,
the last computed codes and the clip figures are kept; the breaker is CLOSED and UNFORCED; the supervisor goes by its
table; a gather in progress ends FAILED-RESET; no request waits; the latch is empty; the poller is OFF; and of the
transmit queue only the entry on the wire, the reset's ABORT, its ACCEPT and a GATHER-DONE stand. The setup of each
input returns to its default, which takes effect on its candidate or lockout (R76, R78). The straps, the link state,
the test clock, the held labels with their records, the held report and the debouncers are kept. A MUTED station drops
its ACCEPT and any GATHER-DONE, which are counted after the clear. -/
def Obligations.StationReset : Prop :=
  (∀ (r : Request) (since : Nat) (s : State), InHand r since s → r.kind = 33 → r.payload = [] → QueuesOk s →
    s.link.state = .muted → s.runActive = false →
    ∃ t, exec .resetStation s = .next t ∧ t.link.state = .muted ∧ t.link.tx = [] ∧ t.link.requests = [] ∧
      t.plan = PlanMemory.emptied ∧ t.runActive = false ∧ t.status.latch.txDropped = true ∧
      t.status.dropped =
        if (∃ c, s.gather.cursor = some c ∧ c.requester ≠ none) then 2 else 1) ∧
  ∀ (r : Request) (since : Nat) (s : State), InHand r since s → r.kind = 33 → r.payload = [] → QueuesOk s → RunShape s →
    RunLabelled s → s.engine.held = [] → Room s → GatherShape s →
    ∃ t, exec .resetStation s = .next t ∧ t.runActive = false ∧
      (s.runActive = true → t.engine.runState = .aborted ∧ t.engine.endReason = .stationReset) ∧
      (s.runUnderWay = true → RunInvariant s → AbortRecords .stationReset s t) ∧
      (s.runActive = false → t.engine.runState = s.engine.runState ∧ t.engine.endReason = s.engine.endReason) ∧
      t.engine.runLabel = s.engine.runLabel ∧ t.engine.visit = none ∧ t.engine.decided = none ∧
      t.engine.pendingMark = none ∧ t.engine.pendingFallback = none ∧
      (∀ o, t.engine.boLevels.get o = false) ∧ t.plan = PlanMemory.emptied ∧ t.eval.working = none ∧
      t.eval.pendingList = [] ∧ t.breaker = Breaker.initial ∧
      t.synth.thetaRef = s.synth.thetaRef ∧ t.synth.freqWord = 0 ∧ t.synth.sampleIndex = 0 ∧
      (∀ c, t.synth.channels.get c =
        { ChannelState.initial with
          lastComputed := (s.synth.channels.get c).lastComputed
          clipCount := (s.synth.channels.get c).clipCount
          clipped := (s.synth.channels.get c).clipped }) ∧
      (s.amp.state = .absent → t.amp.state = .absent) ∧
      ((s.amp.state = .standby ∨ s.amp.state = .warming ∨ s.amp.state = .ready) → inOverload s.amp = false →
        t.amp.state = .standby) ∧
      (s.amp.state = .faulted → (∀ i, s.amp.debouncers.get i = .clear) → t.amp.state = .standby) ∧
      (s.amp.state = .faulted → (∃ i, s.amp.debouncers.get i ≠ .clear) → t.amp.state = .faulted) ∧
      t.amp.debouncers = s.amp.debouncers ∧ t.store.reserve = none ∧ t.gather.cursor = none ∧ t.gather.onFinish = none ∧
      ((s.gather.state = .rolling ∨ s.gather.state = .sweeping) →
        t.gather.state = .done ∧ t.gather.report.outcome = .failedReset ∧ t.coord.gatherRoll = none) ∧
      (s.gather.state = .idle ∨ s.gather.state = .done →
        t.gather = { s.gather with onFinish := none }) ∧
      t.gather.report.entries = s.gather.report.entries ∧ t.gather.report.label = s.gather.report.label ∧
      t.gather.tagCounter = s.gather.tagCounter ∧
      t.status.latch = FaultLatch.cleared ∧ t.status.served = 0 ∧ t.status.refused = 0 ∧ t.status.turnedAway = 0 ∧
      t.status.dropped = 0 ∧ t.status.service = .idle ∧ t.link.requests = [] ∧ t.coord.poller = .off ∧
      t.coord.ownRoll = none ∧ t.coord.ownStart = none ∧
      (∀ e ∈ t.link.tx, e.onWire = true ∧ e ∈ s.link.tx ∨
        e.frame = replyFrame r .statusUnit 16 [33] ∨
        (∃ l, s.engine.runLabel = some l ∧ e.frame = groupFrame (.abort l .stationReset) .engine) ∨
        (∃ st tag p, e.frame = { dest := some st, tag := tag, body := .reply 24 p, owner := .gatherEngine })) ∧
      (∃ e ∈ t.link.tx, e.frame = replyFrame r .statusUnit 16 [33]) ∧
      (∀ l, s.runActive = true → s.engine.runLabel = some l →
        ∃ e ∈ t.link.tx, e.frame = groupFrame (.abort l .stationReset) .engine) ∧
      t.cond.count = s.cond.count ∧
      (∀ i, UnderSetup InputSetup.initial s.cond.count (s.input i) (t.input i)) ∧
      (StoreOk s.store → ∀ h ∈ s.store.heldLabels, ∃ g ∈ t.store.heldLabels, g.label = h.label ∧ h.count ≤ g.count ∧
        (s.engine.runLabel ≠ some h.label ∨ s.runUnderWay = false → g.endState = h.endState) ∧
        ∀ i, i < h.count → recordAt t.store g i = recordAt s.store h i) ∧
      (s.runActive = false → (∀ e ∈ s.link.tx, ∀ l c d, e.frame.body ≠ .mark l c d) → t.store = s.store) ∧
      t.link.straps = s.link.straps ∧ t.link.state = s.link.state ∧ t.clock = s.clock

/-- REQUEST_SERVICE_END (R181, R183): the reply of the request in service is placed, addressed to its requester with its
tag by the block that served it (of an unknown kind the Status Unit: the model's choice, log entry 37), and the next
request is taken; with no request answered nothing happens (log entry 8). In a full queue the reply pushes out the
youngest entry of the lowest priority that is not on the wire, where that is one of a lower priority, and its owner is
told DROPPED; otherwise, and at a MUTED station, the reply itself is dropped and counted (R125, R130). -/
def Obligations.ServiceEndsWithTheReply : Prop :=
  (∀ s : State, (s.status.service = .idle ∨ ∃ r since, s.status.service = .taken r since) →
    exec .requestServiceEnd s = .next s) ∧
    (∀ (r : Request) (kind : Nat) (payload : List Byte) (since : Nat) (s : State),
      s.status.service = .answered r kind payload since → Quiet s → Room s →
      ∃ t e, exec .requestServiceEnd s = .next t ∧ Inserted e s.link.tx t.link.tx ∧
        e.frame.dest = some r.origin ∧ e.frame.tag = r.tag ∧ e.frame.body = .reply kind payload ∧ e.begun = false ∧
        (38 ≤ r.kind → r.kind ≤ 41 → e.frame.owner = .planMemory) ∧
        (r.kind = 34 ∨ r.kind = 35 → e.frame.owner = .resultStore) ∧
        (r.kind = 36 ∨ r.kind = 37 → e.frame.owner = .gatherEngine) ∧
        (r.kind < 34 ∨ 41 < r.kind → e.frame.owner = .statusUnit) ∧ e.priority = 5 ∧ e.age = s.link.nextAge ∧
        t.link.requests = (serviceNext s).link.requests ∧
        t.status = (serviceNext s).status ∧ t = { s with link := t.link, status := t.status }) ∧
    ∀ (r : Request) (kind : Nat) (payload : List Byte) (since : Nat) (s : State),
      s.status.service = .answered r kind payload since → Quiet s → QueuesOk s →
      let counted (t : State) : Prop := t.status = { (serviceNext s).status with
        dropped := min 65535 (s.status.dropped + 1), latch := { s.status.latch with txDropped := true } }
      let refusedAt (t : State) : Prop := counted t ∧ t.link.tx = s.link.tx ∧
        t.link.requests = (serviceNext s).link.requests ∧ t = { s with link := t.link, status := t.status }
      (s.link.state = .muted → ∃ t, exec .requestServiceEnd s = .next t ∧ refusedAt t) ∧
        ∀ v, s.link.state ≠ .muted → s.link.tx.length = 8 → v ∈ s.link.tx → v.onWire = false →
          (∀ u ∈ s.link.tx, u.onWire = false → u.priority < v.priority ∨ (u.priority = v.priority ∧ u.age ≤ v.age)) →
          (v.priority ≤ 5 → ∃ t, exec .requestServiceEnd s = .next t ∧ refusedAt t) ∧
            (5 < v.priority → ∃ t u e, exec .requestServiceEnd s = .next t ∧ counted u ∧
              u.link.requests = (serviceNext s).link.requests ∧ u = { s with link := u.link, status := u.status } ∧
              Inserted e (s.link.tx.filter fun x => x.age ≠ v.age) u.link.tx ∧ e.frame.dest = some r.origin ∧
              e.frame.tag = r.tag ∧ e.frame.body = .reply kind payload ∧ Lost v .dropped u.link.tx u t)

/-! ### The instants of a run -/

/-- INITIAL_STATE_ENTRY at t = 1000 (R43, R44, R33, R62, R100): the HEADER's initial state is current as the next
visit, entered at 1000 with UNCOORDINATED clear; its TIMER slots and its backstop are armed from 1000 and its other
slots are not; no exit is decided, nothing is pending, no first operate is known; each output not owned by the breaker
takes its level now for a delay of 0, and is scheduled otherwise; the synthesizer starts from a reference phase of 0;
the evaluator opens its working entry; and an entry mark is queued with detection time 1000. Before its instant nothing
happens (log entry 8). -/
def Obligations.InitialStateIsEntered : Prop :=
  (∀ s : State, s.engine.runState ≠ .running ∨ s.engine.visit ≠ none ∨ s.engine.visitCount ≠ 0 ∨ s.now < 1000 →
    exec .initialStateEntry s = .next s) ∧
    ∀ s : State, s.engine.runState = .running → s.engine.visit = none → s.engine.visitCount = 0 → 1000 ≤ s.now →
      s.now < 3600000000 → Quiet s → Room s →
      let st := s.plan.items.header.initialState
      let it := s.plan.items.states.get st
      let owned (o : OutputNo) : Prop := s.plan.items.breaker.enabled = true ∧
        (s.plan.items.breaker.out52a = some o ∨ s.plan.items.breaker.out52b = some o)
      ∃ t, exec .initialStateEntry s = .next t ∧ t.engine.runState = .running ∧
        t.engine.visit = some { state := st, number := 1, entry := 1000, uncoordinated := false } ∧
        t.engine.visitCount = 1 ∧ t.engine.decided = none ∧ t.engine.pendingMark = none ∧
        t.engine.pendingFallback = none ∧ (∀ i, t.engine.firstOperates.get i = false) ∧
        (∀ n d target coord, it.triggers.get n = .timer d target coord →
          t.engine.timers.get n = some (1000 + d * 1000)) ∧
        (∀ n, (∀ d target coord, it.triggers.get n ≠ .timer d target coord) → t.engine.timers.get n = none) ∧
        t.engine.backstop = some (1000 + it.control.backstop * 1000) ∧
        (∀ o, owned o ∨ it.control.boDelays.get o ≠ 0 → t.engine.boLevels.get o = s.engine.boLevels.get o) ∧
        (∀ o, ¬owned o → it.control.boDelays.get o = 0 →
          t.engine.boLevels.get o = it.control.boLevels.get o ∧ t.engine.boSchedule.get o = none) ∧
        (∀ o, ¬owned o → it.control.boDelays.get o ≠ 0 →
          t.engine.boSchedule.get o = some (1000 + it.control.boDelays.get o * 1000, it.control.boLevels.get o)) ∧
        (∀ o, owned o → t.engine.boSchedule.get o = none) ∧
        t.synth.thetaRef = 0 ∧ t.synth.freqWord = frequencyWord it.control.frequency ∧ t.synth.sampleIndex = 0 ∧
        (∀ c, (t.synth.channels.get c).lastComputed = 0 ∧ (t.synth.channels.get c).clipCount = 0 ∧
          (t.synth.channels.get c).clipped = false ∧
          (t.synth.channels.get c).amp = amplitudeCode c (it.channels.get c).magnitude ∧
          (t.synth.channels.get c).phi = phaseOffset (it.channels.get c).angle) ∧
        (∃ w, t.eval.working = some w ∧ ∀ i, w.firstOperate.get i = none ∧
          (w.lockoutSeen.get i ≠ none ↔ (s.input i).lockout ≠ none)) ∧
        (it.control.entryMark = none → t.link = s.link) ∧
        (∀ c l, it.control.entryMark = some c → s.engine.runLabel = some l →
          Inserted (newEntry (groupFrame (.mark l c 1000) .engine) s) s.link.tx t.link.tx) ∧
        t = { s with engine := t.engine, synth := t.synth, eval := t.eval, link := t.link }

/-- The choice of exit at an expiry (R46, R50, R51). TIMER_EXPIRY of a slot without a coordinating code, and
BACKSTOP_EXPIRY, decide the exit where none is decided, with the expiry as the deciding instant; a coordinated TIMER
queues its MARK instead and waits, where nothing is decided or pending. With a coordinated mark pending already (R51)
it takes the place of one of a higher slot detected at the same instant whose frame still waits, which is withdrawn
and logged DROPPED; an earlier one, one of a lower slot and one that has begun stand, and the condition is ignored. A
TIMER without a code, or the backstop, that decides the exit gives a pending coordinated mark of another slot up (R54,
also where R50 differs: log entry 35). An expiry after the exit is decided changes nothing but that it is spent.
Before the expiry nothing happens (log entry 8). Equal instants give the same exit whichever the engine takes first
(R50): of two triggers presented at one instant to a visit with no exit decided and no mark pending, the lower slot
decides, and every slot before the backstop. -/
def Obligations.ExpiriesDecideTheExit : Prop :=
  ((∀ (n : SlotNo) (s : State),
     s.engine.runState ≠ .running ∨ s.engine.visit = none ∨ (∀ x, s.engine.timers.get n = some x → s.now < x) →
       exec (.timerExpiry n) s = .next s) ∧
     (∀ s : State,
       s.engine.runState ≠ .running ∨ s.engine.visit = none ∨ (∀ x, s.engine.backstop = some x → s.now < x) →
       exec .backstopExpiry s = .next s) ∧
     (∀ (n : SlotNo) (v : Visit) (x d : Nat) (target : Target) (s : State), Quiet s → s.engine.runState = .running →
       s.engine.visit = some v → s.engine.timers.get n = some x → x ≤ s.now →
       (s.plan.items.states.get v.state).triggers.get n = .timer d target none →
       (s.engine.decided = none → s.engine.pendingMark = none →
         ∃ t b, exec (.timerExpiry n) s = .next t ∧ IsExitBoundary v.entry x b ∧
           t = { s with
                 engine := { s.engine with
                   timers := setAt s.engine.timers n none
                   decided := some { instant := x, decider := .slot n, target := some target, boundary := b }
                   visit := some { v with uncoordinated := false } } }) ∧
         (∀ old, s.engine.decided = some old → old.instant ≠ x →
           exec (.timerExpiry n) s = .next { s with engine := { s.engine with timers := setAt s.engine.timers n none } })) ∧
     (∀ (v : Visit) (x : Nat) (s : State), Quiet s → s.engine.runState = .running → s.engine.visit = some v →
       s.engine.backstop = some x → x ≤ s.now →
       (s.engine.decided = none → s.engine.pendingMark = none →
         ∃ t b, exec .backstopExpiry s = .next t ∧ IsExitBoundary v.entry x b ∧
           t = { s with
                 engine := { s.engine with
                   backstop := none
                   decided := some
                     { instant := x, decider := .backstop
                       target := some (s.plan.items.states.get v.state).control.backstopTarget, boundary := b }
                   visit := some { v with uncoordinated := false } } }) ∧
         (∀ old, s.engine.decided = some old →
           exec .backstopExpiry s = .next { s with engine := { s.engine with backstop := none } })) ∧
     (∀ (n : SlotNo) (v : Visit) (x d : Nat) (target : Target) (code : MarkCode) (l : Label) (s : State), Quiet s → Room s →
       s.engine.runState = .running → s.engine.visit = some v → s.engine.timers.get n = some x → x ≤ s.now →
       (s.plan.items.states.get v.state).triggers.get n = .timer d target (some code) → s.engine.runLabel = some l →
       (s.engine.decided = none → s.engine.pendingMark = none → s.engine.pendingFallback = none →
         ∃ t, exec (.timerExpiry n) s = .next t ∧
           t.engine = { s.engine with
             timers := setAt s.engine.timers n none
             pendingMark := some
               { slot := n, code := code, detection := x, onWire := false, age := s.link.nextAge } } ∧
           Inserted (newEntry (groupFrame (.mark l code x) .engine) s) s.link.tx t.link.tx ∧
           t = { s with engine := t.engine, link := t.link }) ∧
         (s.engine.decided ≠ none ∨ s.engine.pendingFallback ≠ none →
           exec (.timerExpiry n) s = .next { s with engine := { s.engine with timers := setAt s.engine.timers n none } }))) ∧
    (∀ (n : SlotNo) (v : Visit) (x d : Nat) (target : Target) (code : MarkCode) (p : PendingMark) (l : Label) (s : State),
       Quiet s → QueuesOk s → s.engine.runState = .running → s.engine.visit = some v → s.engine.timers.get n = some x →
       x ≤ s.now → (s.plan.items.states.get v.state).triggers.get n = .timer d target (some code) →
       s.engine.runLabel = some l → s.engine.decided = none → s.engine.pendingFallback = none →
       s.engine.pendingMark = some p →
       (p.detection = x → n < p.slot → p.onWire = false → (∃ e ∈ s.link.tx, e.age = p.age ∧ e.begun = false) →
         ∃ t, exec (.timerExpiry n) s = .next t ∧
           t.engine = { s.engine with
             timers := setAt s.engine.timers n none
             pendingMark := some
               { slot := n, code := code, detection := x, onWire := false, age := s.link.nextAge } } ∧
           Inserted (newEntry (groupFrame (.mark l code x) .engine) s) (s.link.tx.filter fun u => u.age ≠ p.age)
             t.link.tx ∧
           t.store = (storeEvent l (.markSent p.code p.detection .dropped none) s).store ∧
           t = { s with engine := t.engine, link := t.link, store := t.store }) ∧
         (p.detection < x ∨ p.slot < n ∨ p.onWire = true →
           exec (.timerExpiry n) s = .next { s with engine := { s.engine with timers := setAt s.engine.timers n none } })) ∧
    (∀ (n : SlotNo) (v : Visit) (x d : Nat) (target : Target) (p : PendingMark) (l : Label) (s : State), Quiet s →
       QueuesOk s → s.engine.runState = .running → s.engine.visit = some v → s.engine.timers.get n = some x → x ≤ s.now →
       (s.plan.items.states.get v.state).triggers.get n = .timer d target none → s.engine.runLabel = some l →
       s.engine.decided = none → s.engine.pendingMark = some p → p.slot ≠ n →
       ∃ t b, exec (.timerExpiry n) s = .next t ∧ IsExitBoundary v.entry x b ∧ GivenUp p l s t ∧
         t.engine = { s.engine with
           timers := setAt s.engine.timers n none
           pendingMark := none
           decided := some { instant := x, decider := .slot n, target := some target, boundary := b }
           visit := some { v with uncoordinated := false } } ∧
         t = { s with engine := t.engine, link := t.link, store := t.store }) ∧
    (∀ (v : Visit) (x : Nat) (p : PendingMark) (l : Label) (s : State), Quiet s → QueuesOk s →
       s.engine.runState = .running → s.engine.visit = some v → s.engine.backstop = some x → x ≤ s.now →
       s.engine.runLabel = some l → s.engine.decided = none → s.engine.pendingMark = some p →
       ∃ t b, exec .backstopExpiry s = .next t ∧ IsExitBoundary v.entry x b ∧ GivenUp p l s t ∧
         t.engine = { s.engine with
           backstop := none
           pendingMark := none
           decided := some
             { instant := x, decider := .backstop
               target := some (s.plan.items.states.get v.state).control.backstopTarget, boundary := b }
           visit := some { v with uncoordinated := false } } ∧
         t = { s with engine := t.engine, link := t.link, store := t.store }) ∧
    (∀ (a b : Decider) (ta tb : Target) (x : Instant) (s : State), a ≠ .stop → b ≠ .stop → a ≠ b →
       s.engine.decided = none → s.engine.pendingMark = none →
       present b tb x false (present a ta x false s) = present a ta x false (present b tb x false s)) ∧
    (∀ (n : SlotNo) (b : Decider) (v : Visit) (ta tb : Target) (x : Instant) (s : State),
       (b = .backstop ∨ ∃ m, b = .slot m ∧ n < m) → s.engine.visit = some v → s.engine.decided = none →
       s.engine.pendingMark = none →
       ∃ bd, IsExitBoundary v.entry x bd ∧
         (present b tb x false (present (.slot n) ta x false s)).engine.decided =
             some { instant := x, decider := .slot n, target := some ta, boundary := bd } ∧
         (present (.slot n) ta x false (present b tb x false s)).engine.decided =
             some { instant := x, decider := .slot n, target := some ta, boundary := bd })

/-- EXIT_BOUNDARY (R45, R56, R58, R59). At the decided boundary B, before the clock limit, the visit closes with exit
time B and the deciding slot, BACKSTOP or STOP as cause, and its entry joins the pending list, whose entries due at the
head are evaluated: for a target state, below the visit limit, that state is entered at B as the next visit, whose
outputs start from the levels that stand, a level applied at B itself taken back (R62); for a target state at the limit,
for END and for STOP the run passes to ENDING with reason VISIT-LIMIT, END and STOP, the outputs at rest, the breaker
reset and no visit current. With no exit due nothing happens (log entry 8). What a closed visit hands on (R42, R101,
R102, R107, R30): the entry joins the tail of the pending list with the visit's state, number and times, the cause, the
clip figures, one judged input for each window that is not DON'T-CARE in ascending order, and as settle horizon the exit
time plus the longest debounce of those inputs. -/
def Obligations.ExitBoundaryClosesTheVisit : Prop :=
  ((∀ s : State, exitDue s = false → exec .exitBoundary s = .next s) ∧
     ∀ (v : Visit) (d : DecidedExit) (s : State), s.engine.runState = .running → s.engine.visit = some v →
       s.engine.decided = some d → d.boundary ≤ s.now → s.now < 3600000000 → s.engine.held = [] → Quiet s → Room s →
       let ended (r : EndReason) (t : State) : Prop :=
         (t.engine.runState = .ending ∨ t.engine.runState = .finished) ∧
           (t.engine.runState = .finished ↔ t.eval.pendingList = []) ∧ t.engine.endReason = r ∧ t.engine.visit = none ∧
           t.engine.decided = none ∧ t.engine.visitCount = s.engine.visitCount ∧
           t.engine.boLevels = s.plan.items.header.boRest ∧ t.breaker = Breaker.initial ∧ t.synth.freqWord = 0
       let cause := causeOf s v d.decider
       let held (o : OutputNo) (b : Bool) : Prop := ∃ x, s.engine.boHeld.get o = some (x, b) ∧ d.boundary ≤ x
       let owned (o : OutputNo) : Prop := s.plan.items.breaker.enabled = true ∧
         (s.plan.items.breaker.out52a = some o ∨ s.plan.items.breaker.out52b = some o)
       ∃ t, exec .exitBoundary s = .next t ∧ t.plan = s.plan ∧ t.cond = s.cond ∧ t.clock = s.clock ∧ t.coord = s.coord ∧
         t.supplyFail = s.supplyFail ∧ CauseIs (s.plan.items.states.get v.state).triggers d.decider cause ∧
         EvaluatedWhileDue (closeVisit d.boundary cause s).eval.pendingList s t ∧
         (∀ st, d.target = some (.state st) → s.engine.visitCount < s.plan.items.header.visitLimit →
           let c := (s.plan.items.states.get st).control
           ∀ o, (¬owned o → c.boDelays.get o = 0 → t.engine.boLevels.get o = c.boLevels.get o) ∧
             (owned o ∨ c.boDelays.get o ≠ 0 → (∀ b, held o b → t.engine.boLevels.get o = b) ∧
               ((∀ b, ¬held o b) → t.engine.boLevels.get o = s.engine.boLevels.get o))) ∧
         (∀ st, d.target = some (.state st) → s.engine.visitCount < s.plan.items.header.visitLimit →
           t.engine.runState = .running ∧
             t.engine.visit = some
               { state := st, number := s.engine.visitCount + 1, entry := d.boundary, uncoordinated := false } ∧
             t.engine.visitCount = s.engine.visitCount + 1 ∧ t.engine.decided = none ∧ t.breaker = s.breaker ∧
             t.engine.backstop = some (d.boundary + (s.plan.items.states.get st).control.backstop * 1000) ∧
             t.synth.thetaRef = s.synth.thetaRef ∧ t.synth.sampleIndex = 0) ∧
         (∀ st, d.target = some (.state st) → s.plan.items.header.visitLimit ≤ s.engine.visitCount → ended .visitLimit t) ∧
         (d.target = some .endRun → ended .endTarget t) ∧ (d.target = none → ended .stop t)) ∧
    (∀ (v : Visit) (w : Working) (exit : Instant) (cause : ExitCause) (s : State), s.engine.visit = some v →
       s.eval.working = some w →
       ∃ p, (closeVisit exit cause s).eval.pendingList = s.eval.pendingList ++ [p] ∧
         (closeVisit exit cause s).eval.working = none ∧ (closeVisit exit cause s).engine.visit = none ∧
         p.state = v.state ∧ p.number = v.number ∧ p.entry = v.entry ∧ p.exit = exit ∧ p.cause = cause ∧
         p.uncoordinated = v.uncoordinated ∧
         (∀ c, p.clipped.get c = (s.synth.channels.get c).clipped) ∧
         p.clipTotal = min 65535 ((List.finRange 6).map fun c => (s.synth.channels.get c).clipCount).sum ∧
         p.judged.map (·.bi) =
           (List.finRange 8).filter (fun i => (s.plan.items.states.get v.state).windows.get i ≠ .dontCare) ∧
         (∀ j ∈ p.judged, j.window = (s.plan.items.states.get v.state).windows.get j.bi ∧
           j.firstOperate = w.firstOperate.get j.bi ∧
           (j.chatter = true ↔ ∃ since, w.lockoutSeen.get j.bi = some since ∧ since < exit)) ∧
         exit ≤ p.horizon ∧ (∀ j ∈ p.judged, exit + (s.plan.items.inputs.get j.bi).debounce * 100 ≤ p.horizon) ∧
         (p.horizon = exit ∨ ∃ j ∈ p.judged, p.horizon = exit + (s.plan.items.inputs.get j.bi).debounce * 100))

/-- FALLBACK_DEADLINE (R53, R54): at the detection time + 20,000 µs of a pending coordinated mark, or at the instant of
a pending fallback, the coordinated trigger decides the exit from its slot where none is decided, the visit is flagged
UNCOORDINATED, and MARK-UNCOORDINATED is latched; a mark still waiting is withdrawn and logged DROPPED with no frame
instant (R54); nothing is pending any more. Before the deadline nothing happens (log entry 8). -/
def Obligations.FallbackDecidesUncoordinated : Prop :=
  (∀ s : State, s.engine.runState ≠ .running ∨ s.engine.visit = none ∨
      (s.engine.pendingMark = none ∧ s.engine.pendingFallback = none) →
    exec .fallbackDeadline s = .next s) ∧
    (∀ (p : PendingMark) (s : State), s.engine.pendingMark = some p → s.now < p.detection + 20000 →
      exec .fallbackDeadline s = .next s) ∧
    (∀ (p : PendingFallback) (s : State), s.engine.pendingMark = none → s.engine.pendingFallback = some p →
      s.now < p.instant → exec .fallbackDeadline s = .next s) ∧
    (∀ (v : Visit) (p : PendingMark) (s : State), Quiet s → QueuesOk s → s.engine.runState = .running →
      s.engine.visit = some v → s.engine.pendingMark = some p → p.detection + 20000 ≤ s.now → s.engine.decided = none →
      ∃ t b, exec .fallbackDeadline s = .next t ∧ IsExitBoundary v.entry (p.detection + 20000) b ∧
        t.engine = { s.engine with
          pendingMark := none
          pendingFallback := none
          decided := some
            { instant := p.detection + 20000, decider := .slot p.slot
              target := some (triggerTarget ((s.plan.items.states.get v.state).triggers.get p.slot)), boundary := b }
          visit := some { v with uncoordinated := true } } ∧
        t.status = { s.status with latch := { s.status.latch with markUncoordinated := true } } ∧
        (∀ l, s.engine.runLabel = some l → GivenUp p l s t ∧ ∀ e ∈ t.link.tx, e.age = p.age → e.begun = true) ∧
        (∀ e ∈ t.link.tx, e ∈ s.link.tx) ∧
        t = { s with engine := t.engine, status := t.status, link := t.link, store := t.store }) ∧
    (∀ (v : Visit) (p : PendingFallback) (s : State), Quiet s → s.engine.runState = .running → s.engine.visit = some v →
      s.engine.pendingMark = none → s.engine.pendingFallback = some p → p.instant ≤ s.now → s.engine.decided = none →
      ∃ t b, exec .fallbackDeadline s = .next t ∧ IsExitBoundary v.entry p.instant b ∧
        t = { s with
              engine := { s.engine with
                pendingFallback := none
                decided := some
                  { instant := p.instant, decider := .slot p.slot
                    target := some (triggerTarget ((s.plan.items.states.get v.state).triggers.get p.slot)), boundary := b }
                visit := some { v with uncoordinated := true } }
              status := { s.status with latch := { s.status.latch with markUncoordinated := true } } })

/-- CLOCK_LIMIT (R57): in RUNNING at t = 3,600,000,000 the run passes to ENDING with reason CLOCK-LIMIT, whatever exit
was decided; a visit closes with that exit time and cause CLOCK-LIMIT, and its entry joins the pending list, whose
entries due at the head are evaluated; no visit is current and none is entered; the outputs are at rest and the breaker
is reset. Before that time, or in another run state, nothing happens (log entry 8). BO_DELAY_EXPIRY of an output (R62):
when its delay has passed while its visit is current, and nothing is due that may close the visit at this instant (log
entry 29), the output takes the level of the state, what it held before is kept for a visit that closes at this boundary
(R62), and nothing else changes. -/
def Obligations.ClockLimitAndDelayedOutputs : Prop :=
  ((∀ s : State, s.engine.runState ≠ .running ∨ s.now < 3600000000 → exec .clockLimit s = .next s) ∧
     ∀ s : State, s.engine.runState = .running → 3600000000 ≤ s.now → Quiet s →
       ∃ t, exec .clockLimit s = .next t ∧ (t.engine.runState = .ending ∨ t.engine.runState = .finished) ∧
         (t.engine.runState = .finished ↔ t.eval.pendingList = []) ∧ t.engine.endReason = .clockLimit ∧
         t.engine.visit = none ∧ t.engine.visitCount = s.engine.visitCount ∧
         t.engine.boLevels = s.plan.items.header.boRest ∧ t.breaker = Breaker.initial ∧ t.synth.freqWord = 0 ∧
         t.plan = s.plan ∧ t.cond = s.cond ∧ t.clock = s.clock ∧ t.coord = s.coord ∧ t.status = s.status ∧
         t.supplyFail = s.supplyFail ∧
         EvaluatedWhileDue (closeVisit 3600000000 .clockLimit s).eval.pendingList s t) ∧
    ((∀ (o : OutputNo) (s : State), s.engine.runState ≠ .running ∨ s.engine.visit = none ∨ closingDue s = true ∨
         (∀ x b, s.engine.boSchedule.get o = some (x, b) → s.now < x) →
       exec (.boDelayExpiry o) s = .next s) ∧
       ∀ (o : OutputNo) (x : Instant) (b : Bool) (s : State), s.engine.runState = .running → s.engine.visit ≠ none →
         closingDue s = false → s.engine.boSchedule.get o = some (x, b) → x ≤ s.now →
         exec (.boDelayExpiry o) s = .next
           { s with
             engine :=
               { s.engine with
                 boLevels := setAt s.engine.boLevels o b
                 boSchedule := setAt s.engine.boSchedule o none
                 boHeld := setAt s.engine.boHeld o (some (x, s.engine.boLevels.get o)) } })

/-- SAMPLE_BOUNDARY (R19, R25, R26, R29 to R31, R35 to R37, Laws 1 to 3), taken once at a boundary after everything
else of its instant (log entries 12 and 29). With a visit current each channel computes its code from the phase, its
amplitudes and its residue, clamped to −32767..32767, counts a clamp, and emits the code, or 0 when it is FORCED; then
the reference phase advances by W. With no visit every channel emits 0 and nothing is computed. The sample port (R32):
a frame begins at every multiple of 100 µs of the test clock, or, while that clock stands, of the time since the end of
reset; it carries the last emitted codes, CH1 first, each in 16 bits of two's complement, the most significant first;
with SFRM asserted bit j is on SDAT from 200 j ns, SCLK rises 100 ns later, and SFRM is released at 19,200 ns. When SCLK
falls, and that SCLK and SDAT are low between frames, are the model's choices (log entry 40), and so is what a frame
shows after a reset of the codes (log entry 48). -/
def Obligations.SampleBoundaryEmits : Prop :=
  ((∀ y : Synth, (portFrame y).length = 96 ∧
     (∀ (c : ChannelNo) (j : Nat), j < 16 →
       (portFrame y)[16 * c.val + j]? = some ((BitVec.ofInt 16 (y.channels.get c).lastEmitted).getMsbD j)) ∧
     (∀ j d, j < 96 → d < 200 →
       portPins y (200 * j + d) = (true, decide (100 ≤ d), (portFrame y).getD j false)) ∧
     ∀ ns, 19200 ≤ ns → portPins y ns = (false, false, false)) ∧
   ∀ s : State, sampleDue s = true ↔ s.clock.sampleTaken = false ∧
     (s.clock.running = true → s.now % 100 = 0) ∧
     (s.clock.running = false → 0 < s.clock.elapsed ∧ s.clock.elapsed % 100 = 0)) ∧
  (∀ s : State, sampleDue s = false ∨ dueList s ≠ [] → exec .sampleBoundary s = .next s) ∧
    (∀ s : State, sampleDue s = true → dueList s = [] → s.engine.visit = none →
      ∃ t, exec .sampleBoundary s = .next t ∧
        (∀ c, t.synth.channels.get c = { s.synth.channels.get c with lastEmitted := 0 }) ∧
        t.synth = { s.synth with channels := t.synth.channels } ∧
        t = { s with synth := t.synth, clock := { s.clock with sampleTaken := true } }) ∧
    ∀ s : State, sampleDue s = true → dueList s = [] → s.engine.visit ≠ none →
      ∃ t, exec .sampleBoundary s = .next t ∧ t.synth.thetaRef = s.synth.thetaRef + BitVec.ofNat 32 s.synth.freqWord ∧
        t.synth.sampleIndex = s.synth.sampleIndex + 1 ∧ t.synth.freqWord = s.synth.freqWord ∧
        (∀ c, let x := s.synth.channels.get c
          let fundamental := halfAway (x.amp * sineS (s.synth.thetaRef + x.phi)) 131072
          let harmonic :=
            if x.harm = 0 then 0
            else halfAway (x.ampH * sineS (BitVec.ofNat 32 (x.harm * s.synth.thetaRef.toNat + x.phiH.toNat))) 131072
          let sum := fundamental + harmonic + halfAway x.residue 256
          let y := max (-32767) (min 32767 sum)
          (t.synth.channels.get c).lastComputed = y ∧
            (t.synth.channels.get c).residue = (if x.dcMode = .off then 0 else (x.residue * x.kd).tdiv 65536) ∧
            (t.synth.channels.get c).clipCount = (if sum = y then x.clipCount else min 65535 (x.clipCount + 1)) ∧
            ((t.synth.channels.get c).clipped = true ↔ x.clipped = true ∨ sum ≠ y) ∧
            (c.val < 3 → (t.synth.channels.get c).lastEmitted = y) ∧
            (∀ i : Fin 3, c.val = i.val + 3 →
              (t.breaker.forcing.get i = .forced → (t.synth.channels.get c).lastEmitted = 0) ∧
                (t.breaker.forcing.get i ≠ .forced → (t.synth.channels.get c).lastEmitted = y) ∧
                (s.breaker.state = .closed ∨ s.breaker.state = .opening → t.breaker.forcing.get i = .unforced) ∧
                (s.breaker.state = .opened ∨ s.breaker.state = .closing →
                  (s.breaker.forcing.get i = .forced → t.breaker.forcing.get i = .forced) ∧
                    (∀ k, (s.breaker.forcing.get i = .unforced ∧ k = 1) ∨
                        (∃ m, s.breaker.forcing.get i = .watching m ∧ k = m + 1) →
                      (y = 0 ∨ Int.sign y ≠ Int.sign x.lastComputed ∨ 100 ≤ k →
                        t.breaker.forcing.get i = .forced) ∧
                        (¬(y = 0 ∨ Int.sign y ≠ Int.sign x.lastComputed ∨ 100 ≤ k) →
                          t.breaker.forcing.get i = .watching k))))) ∧
        t.breaker = { s.breaker with forcing := t.breaker.forcing } ∧
        t = { s with synth := t.synth, breaker := t.breaker, clock := { s.clock with sampleTaken := true } }

/-- How a state entry turns plan values into channel codes (R20 to R22, R26 to R28): W, A, Φ, A_h and Φ_h are the exact
quotients rounded half-up; the residue starts at D0 × 256, with D0 = 0 for DC NONE, the initial code for FIXED, and
y_last − p0 clamped for CONTINUOUS, where y_last is 0 for the initial state of a run. The sine function (R24): it
depends on the phase only through its upper 16 bits, is antisymmetric over half a cycle, mirrors within each half
cycle, never exceeds 131071 in magnitude, and takes the values of the rule's table. -/
def Obligations.StateEntryAndTheSineFunction : Prop :=
  (∀ (it : StateItems) (initial : Bool) (y : Synth) (c : ChannelNo),
     let t := synthEnter it initial y
     let u := it.channels.get c
     let x := t.channels.get c
     let scale := if c.val < 3 then 6749 else 60738
     let yLast : Int := if initial = true then 0 else (y.channels.get c).lastEmitted
     (2 * (it.control.frequency * 2 ^ 32) < (2 * t.freqWord + 1) * 10 ^ 7 ∧
         (2 * t.freqWord) * 10 ^ 7 ≤ 2 * (it.control.frequency * 2 ^ 32) + 10 ^ 7) ∧
       t.sampleIndex = 0 ∧ t.thetaRef = (if initial = true then 0 else y.thetaRef) ∧
       (2 * (u.magnitude * scale) < (2 * x.amp + 1) * 65536 ∧ 2 * x.amp * 65536 ≤ 2 * (u.magnitude * scale) + 65536) ∧
       (u.angle < 36000 → 2 * (u.angle * 2 ^ 32) < (2 * x.phi.toNat + 1) * 36000 ∧
         2 * x.phi.toNat * 36000 ≤ 2 * (u.angle * 2 ^ 32) + 36000) ∧
       (u.harmonicAngle < 36000 → 2 * (u.harmonicAngle * 2 ^ 32) < (2 * x.phiH.toNat + 1) * 36000 ∧
         2 * x.phiH.toNat * 36000 ≤ 2 * (u.harmonicAngle * 2 ^ 32) + 36000) ∧
       x.harm = u.harmonicOrder ∧ (u.harmonicOrder = 0 → x.ampH = 0) ∧
       (u.harmonicOrder ≠ 0 → 2 * (x.amp * u.harmonicMagnitude) < (2 * x.ampH + 1) * 1000 ∧
         2 * x.ampH * 1000 ≤ 2 * (x.amp * u.harmonicMagnitude) + 1000) ∧
       x.dcMode = u.dcMode ∧ x.kd = u.kd ∧ x.clipCount = 0 ∧ x.clipped = false ∧
       x.lastEmitted = (y.channels.get c).lastEmitted ∧
       (u.dcMode = .off → x.residue = 0) ∧ (u.dcMode = .fixed → x.residue = u.dcInitial * 256) ∧
       (u.dcMode = .continuous →
         x.residue = max (-32767) (min 32767 (yLast - periodicPart t.thetaRef { x with residue := 0 })) * 256)) ∧
    ((∀ θ φ : BitVec 32, θ.toNat / 65536 = φ.toNat / 65536 → sineS θ = sineS φ) ∧
       (∀ i : Nat, i < 32768 → sineAt (i + 32768) = -sineAt i) ∧
       (∀ i : Nat, i ≤ 32768 → sineAt (32768 - i) = sineAt i) ∧ (∀ θ : BitVec 32, (sineS θ).natAbs ≤ 131071) ∧
       sineAt 0 = 0 ∧ sineAt 16383 = 131071 ∧ sineAt 16384 = 131071 ∧ sineAt 32768 = 0 ∧ sineAt 49152 = -131071 ∧
       sineAt 49479 = -131007 ∧ sineAt 49807 = -130813)

/-- SETTLE_HORIZON (R103, R110, R111, R151, R158). When the horizon of the oldest pending entry has come, the entry
leaves the list and its EVALUATION record, with its verdicts, stands last under the run's label with this instant as its
record time; the evaluations written rise by 1. An ENDING run whose list becomes empty is FINISHED, with its RUN-SUMMARY
behind that EVALUATION. Before the horizon nothing happens (log entry 8). What the store does with an event record (R155
to R157): one of the run is appended when the free capacity, one less, still holds the required reserve, and is
otherwise dropped and counted; a late one is appended under a held label that has room, when the reserve of a run still
holds after it, and is otherwise discarded. -/
def Obligations.HorizonEvaluatesTheOldestVisit : Prop :=
  (∀ s : State, (∀ p rest, s.eval.pendingList = p :: rest → s.now < p.horizon) → exec .settleHorizon s = .next s) ∧
    (∀ (p : PendingEntry) (rest : List PendingEntry) (l : Label) (s : State), RunInvariant s → s.eval.pendingList = p :: rest →
      p.horizon ≤ s.now → s.engine.runLabel = some l →
      ∃ t, exec .settleHorizon s = .next t ∧ t.eval = { s.eval with pendingList := rest } ∧
        (s.engine.runState = .running ∨ rest ≠ [] →
          LastRecord l s.now (evaluated p) t ∧
            t.store.reserve = s.store.reserve.map (fun x => { x with evaluations := x.evaluations + 1 }) ∧
            t = { s with eval := t.eval, store := t.store }) ∧
        (s.engine.runState = .ending → rest = [] →
          t.engine = { s.engine with runState := .finished, lastState := s.engine.latestVisit } ∧
            t.gather.onFinish = some (s.gather.count + 50000, l) ∧ t.store.reserve = none ∧
            Summarised l s.now .finished
              (.runSummary s.engine.endReason s.engine.visitCount ((s.store.reserve.map (·.dropped)).getD 0)
                s.engine.latestVisit s.link.straps.cableDelay.val) t ∧
            (∃ h ∈ t.store.heldLabels, h.label = l ∧ 2 ≤ h.count ∧
              ∃ r, recordAt t.store h (h.count - 2) = some r ∧ r.index = h.count - 2 ∧ r.time = s.now ∧
                r.contents = evaluated p) ∧
            (s.amp.state = .ready → t.amp = { s.amp with idle := some (s.amp.count + 60000000) }) ∧
            t = { s with eval := t.eval, engine := t.engine, store := t.store, amp := t.amp, gather := t.gather })) ∧
    ∀ (l : Label) (c : Contents) (s : State), StoreOk s.store →
      let limit := s.plan.items.header.visitLimit
      let held : Prop := ∃ h ∈ s.store.heldLabels, h.label = l
      let tailFull : Prop := ∀ h ∈ s.store.heldLabels, h.label = l → 8 * h.chain.length = h.count
      (∀ x, s.store.reserve = some x → s.engine.runLabel = some l →
        (limit - x.evaluations + 2 ≤ capacity s.store l → Appended l c s (storeEvent l c s)) ∧
          (capacity s.store l < limit - x.evaluations + 2 →
            storeEvent l c s =
              { s with store := { s.store with reserve := some { x with dropped := min 65535 (x.dropped + 1) } } })) ∧
        (∀ x m, s.store.reserve = some x → s.engine.runLabel = some m → m ≠ l →
          let room : Prop := (tailFull → limit - x.evaluations + 9 ≤ capacity s.store m) ∧
            (¬tailFull → limit - x.evaluations + 1 ≤ capacity s.store m)
          (held → room → Appended l c s (storeEvent l c s)) ∧ (¬held ∨ ¬room → storeEvent l c s = s)) ∧
        (s.store.reserve = none →
          (held → ¬tailFull ∨ freeBlocks s.store ≠ [] → Appended l c s (storeEvent l c s)) ∧
            (¬held ∨ (tailFull ∧ freeBlocks s.store = []) → storeEvent l c s = s))

/-- Verdicts and reported times (R108, R109): by window, CHATTER and the first operate's time after the entry, compared
in µs, both ends included; the reported time is that time saturated at 16,777,215 with OVER-RANGE, or 16,777,215 with
NONE. -/
def Obligations.VerdictTable : Prop :=
  ∀ (j : Judged) (entry : Instant) (lo hi e : Nat),
    let v := verdictEntry entry j
    v.bi = j.bi ∧
      (j.chatter = true → v.verdict = .chatter) ∧
      (j.chatter = false → j.window = .operate lo hi → j.firstOperate = none → v.verdict = .failNone) ∧
      (j.chatter = false → j.window = .operate lo hi → j.firstOperate = some e → entry ≤ e →
        (e < entry + lo * 100 → v.verdict = .failEarly) ∧
          (entry + lo * 100 ≤ e → entry + hi * 100 < e → v.verdict = .failLate) ∧
          (entry + lo * 100 ≤ e → e ≤ entry + hi * 100 → v.verdict = .pass)) ∧
      (j.chatter = false → j.window = .noOperate → j.firstOperate = some e → v.verdict = .failOperated) ∧
      (j.chatter = false → j.window = .noOperate → j.firstOperate = none → v.verdict = .pass) ∧
      (j.firstOperate = none → v.reported = 16777215 ∧ v.noneFlag = true ∧ v.overRange = false) ∧
      (j.firstOperate = some e → entry ≤ e → e ≤ entry + 16777215 →
        v.reported = e - entry ∧ v.noneFlag = false ∧ v.overRange = false) ∧
      (j.firstOperate = some e → entry + 16777215 < e →
        v.reported = 16777215 ∧ v.noneFlag = false ∧ v.overRange = true)

/-! ### The binary inputs -/

/-- RAW_TRANSITION of an input at which nothing is due (R67, R68, R73). LOCKED-OUT: the last raw transition is now, and
the release deadline moves to a whole quiet gap from now. SETTLING: the candidate is discarded. STEADY, to a level that
is not the accepted one: a candidate begins now; with debounce 0 it is accepted at once. A debounce deadline of the
same instant is taken first, and the transition then begins a new candidate. -/
def Obligations.RawTransitionOfAnInput : Prop :=
  ∀ (bi : InputNo) (s : State), Quiet s →
    let x := s.input bi
    let u := s.plan.items.inputs.get bi
    let becomes (y : InputState) : Prop :=
      exec (.rawTransition bi) s = .next { s with cond := { s.cond with inputs := setAt s.cond.inputs bi y } }
    (∀ k, x.lockout = some k → s.cond.count < k.release →
        becomes { x with
          raw := !x.raw
          lockout := some { k with lastRaw := s.cond.count, release := s.cond.count + u.quietGap * 1000 } }) ∧
      (∀ T, x.lockout = none → x.candidate = some T → s.cond.count < T + u.debounce * 100 →
        becomes { x with raw := !x.raw, candidate := none }) ∧
      (x.lockout = none → x.candidate = none → x.raw = x.accepted → 0 < u.debounce →
        becomes { x with raw := !x.raw, candidate := some s.cond.count }) ∧
      (x.lockout = none → x.candidate = none → x.raw = x.accepted → u.debounce = 0 →
        exec (.rawTransition bi) s =
          exec (.debounceDeadline bi)
            { s with
              cond :=
                { s.cond with inputs := setAt s.cond.inputs bi { x with raw := !x.raw, candidate := some s.cond.count } } }) ∧
      (∀ T, x.lockout = none → x.candidate = some T → x.raw ≠ x.accepted → T + u.debounce * 100 ≤ s.cond.count →
        0 < u.debounce → u.chatterLimit = 0 →
        ∃ t, exec (.rawTransition bi) s = .next t ∧ (t.input bi).accepted = x.raw ∧ (t.input bi).raw = x.accepted ∧
          (t.input bi).candidate = some s.cond.count ∧ (t.input bi).lockout = none)

/-- DEBOUNCE_DEADLINE (R69 to R72, R75). A SETTLING input whose deadline has come takes its new level; the first
transition's time joins the history, of which the newest 15 stand; with the chatter limit on, more edges than the limit
in the window that ends now lock the input out, held at the new level, for a quiet gap from now. With no visit current
the change reaches the store, in RUNNING and ENDING, before the lockout it brings on, and an OPERATE reaches the
pending evaluations; nothing else changes. Before the deadline, or locked out, nothing happens (log entry 8). -/
def Obligations.DebounceDeadlineAcceptsTheChange : Prop :=
  (∀ (bi : InputNo) (s : State), Quiet s →
      ((s.input bi).lockout ≠ none ∨ ∀ T, (s.input bi).candidate = some T →
        s.cond.count < T + (s.plan.items.inputs.get bi).debounce * 100) →
      exec (.debounceDeadline bi) s = .next s) ∧
    ∀ (bi : InputNo) (T : Nat) (s : State), Quiet s → (s.input bi).lockout = none → (s.input bi).candidate = some T →
      T + (s.plan.items.inputs.get bi).debounce * 100 ≤ s.cond.count →
      let x := s.input bi
      let u := s.plan.items.inputs.get bi
      let level := !x.accepted
      let edges := (x.history ++ [T]).countP fun e => decide (s.cond.count < e + u.chatterWindow * 1000 ∧ e ≤ s.cond.count)
      let locks : Prop := 3 ≤ u.chatterLimit ∧ u.chatterLimit < edges
      let edge := s.now - (s.cond.count - T)
      let dir : Direction := if level = u.activeHigh then .operate else .reset
      let change (l : Label) (s : State) := storeEvent l (.inputChange bi level dir edge false) s
      ∃ t, exec (.debounceDeadline bi) s = .next t ∧ t.cond.count = s.cond.count ∧
        (∀ i, i ≠ bi → t.input i = s.input i) ∧
        (t.input bi).raw = x.raw ∧ (t.input bi).accepted = level ∧ (t.input bi).candidate = none ∧
        (x.history.length < 15 → (t.input bi).history = x.history ++ [T]) ∧
        (x.history.length = 15 → (t.input bi).history = x.history.drop 1 ++ [T]) ∧
        (locks → (t.input bi).lockout = some
          { held := level, lastRaw := s.cond.count, release := s.cond.count + u.quietGap * 1000, began := s.cond.count }) ∧
        (¬locks → (t.input bi).lockout = none) ∧
        (s.engine.visit = none → s.eval.working = none → s.engine.decided = none →
          (s.runUnderWay = false → t.store = s.store) ∧
            (∀ l, s.runUnderWay = true → s.engine.runLabel = some l →
              (¬locks → t.store = (change l s).store) ∧
                (locks → t.store = (storeEvent l (.inputLockout bi level) (change l s)).store)) ∧
            (dir = .reset → t.eval = s.eval) ∧
            (dir = .operate → t.eval = { s.eval with pendingList := s.eval.pendingList.map (attributeToEntry bi edge) }) ∧
            t = { s with cond := t.cond, store := t.store, eval := t.eval })

/-- An accepted change in a visit (R47, R50, R51, R55, R104, R105). At an instant that is no sample boundary, with no
exit decided: the first INPUT slot without a coordinating code that listens to the input and the direction decides the
exit, unless a slot below it listens too, and gives a pending coordinated mark of another slot up (R54, also where R50
differs: log entry 35); an INPUT slot with a coordinating code that alone listens queues its MARK and waits, pending,
with the acceptance as detection time (R51); an OPERATE is attributed to the visit when its edge is not before the
entry, the earliest edge standing; and the first accepted OPERATE of the input in the visit queues its STATE-MARKS
code with this detection time. With a coordinated mark pending, a coordinated slot takes the place of one of a higher
slot detected at this instant whose frame still waits, which is withdrawn and logged DROPPED behind the INPUT-CHANGE
(the model's order, log entry 15); an earlier one, one of a lower slot and one that has begun stand (R51). At a sample
boundary after the entry an OPERATE is held, an edge before it being attributed at once (the model's bookkeeping, log
entry 18): an exit at that boundary hands it to the visit entered there, the edge of that instant with it, and with no
exit there the microsecond's end gives both to the current visit. -/
def Obligations.AcceptedChangeInAVisit : Prop :=
  ((∀ (bi : InputNo) (T : Nat) (v : Visit) (s : State), Quiet s → (s.input bi).lockout = none →
    (s.input bi).candidate = some T → T + (s.plan.items.inputs.get bi).debounce * 100 ≤ s.cond.count →
    s.engine.runState = .running → s.engine.visit = some v → s.engine.decided = none → v.entry < s.now →
    s.now % 100 = 0 → (!(s.input bi).accepted) = (s.plan.items.inputs.get bi).activeHigh →
    let edge := s.now - (s.cond.count - T)
    ∃ t, exec (.debounceDeadline bi) s = .next t ∧ t.engine.firstOperates = s.engine.firstOperates ∧
      t.engine.held = s.engine.held ++ [{ bi := bi, edge := if edge < s.now then none else some edge }] ∧
      (edge = s.now → ∀ w w', s.eval.working = some w → t.eval.working = some w' → w'.firstOperate = w.firstOperate) ∧
      (v.entry ≤ edge → edge < s.now → ∀ w, s.eval.working = some w → ∃ w', t.eval.working = some w' ∧
        w'.firstOperate.get bi = some (min edge ((w.firstOperate.get bi).getD edge)))) ∧
   (∀ (h : HeldOperate) (v : Visit) (w : Working) (s : State), s.pending = [] → dueCommand s = none → Quiet s → Room s →
    s.engine.runState = .running → s.engine.visit = some v → s.eval.working = some w → s.engine.held = [h] →
    let marks := (s.plan.items.states.get v.state).marks
    ∃ t w', step s = .next t ∧ t.engine.held = [] ∧ t.engine.visit = some v ∧ t.eval.working = some w' ∧
      (h.edge = none → w'.firstOperate = w.firstOperate) ∧
      (∀ x, h.edge = some x → v.entry ≤ x →
        w'.firstOperate.get h.bi = some (min x ((w.firstOperate.get h.bi).getD x))) ∧
      (marks.get h.bi = none → t.engine.firstOperates = s.engine.firstOperates) ∧
      (∀ c l, marks.get h.bi = some c → s.engine.firstOperates.get h.bi = false → s.engine.runLabel = some l →
        t.engine.firstOperates.get h.bi = true ∧
          Inserted (newEntry (groupFrame (.mark l c s.now) .engine) s) s.link.tx t.link.tx)) ∧
   ∀ (h : HeldOperate) (v : Visit) (d : DecidedExit) (st : StateNo) (s : State), Quiet s →
    s.engine.runState = .running → s.engine.visit = some v → s.engine.decided = some d → d.boundary = s.now →
    s.now < 3600000000 → s.engine.held = [h] → d.target = some (.state st) →
    s.engine.visitCount < s.plan.items.header.visitLimit → s.link.state ≠ .muted → s.link.tx.length < 7 →
    let marks := (s.plan.items.states.get st).marks
    ∃ t w', exec .exitBoundary s = .next t ∧ t.engine.held = [] ∧ t.eval.working = some w' ∧
      (∀ i, i ≠ h.bi → w'.firstOperate.get i = none) ∧ (h.edge = none → w'.firstOperate.get h.bi = none) ∧
      (h.edge = some s.now → w'.firstOperate.get h.bi = some s.now) ∧
      (∀ i, t.engine.firstOperates.get i = true ↔ i = h.bi ∧ marks.get i ≠ none) ∧
      ∀ c l, marks.get h.bi = some c → s.engine.runLabel = some l →
        ∃ e ∈ t.link.tx, e.frame = groupFrame (.mark l c s.now) .engine ∧ e.begun = false) ∧
  (∀ (bi : InputNo) (T : Nat) (v : Visit) (p : PendingMark) (l : Label) (s : State), Quiet s → QueuesOk s →
    (s.input bi).lockout = none → (s.input bi).candidate = some T →
    T + (s.plan.items.inputs.get bi).debounce * 100 ≤ s.cond.count → s.engine.runState = .running →
    s.engine.runLabel = some l → s.engine.visit = some v → s.engine.decided = none → s.engine.pendingFallback = none →
    s.engine.pendingMark = some p → s.now % 100 ≠ 0 → s.link.state ≠ .muted → s.link.tx.length < 7 →
    let u := s.plan.items.inputs.get bi
    let it := s.plan.items.states.get v.state
    let dir : Direction := if (!(s.input bi).accepted) = u.activeHigh then .operate else .reset
    let edge := s.now - (s.cond.count - T)
    let listens (n : SlotNo) : Prop := ∃ target coord, it.triggers.get n = .input bi dir target coord
    ∀ n target c, it.triggers.get n = .input bi dir target (some c) → (∀ k, k ≠ n → ¬listens k) →
      ∃ t, exec (.debounceDeadline bi) s = .next t ∧ t.engine.decided = none ∧ t.engine.visit = some v ∧
        (p.detection = s.now → n < p.slot → p.onWire = false → (∃ e ∈ s.link.tx, e.age = p.age ∧ e.begun = false) →
          (∀ e ∈ t.link.tx, e.age ≠ p.age) ∧
            (∃ e ∈ t.link.tx, e.frame = groupFrame (.mark l c s.now) .engine ∧ e.begun = false ∧
              t.engine.pendingMark = some { slot := n, code := c, detection := s.now, onWire := false, age := e.age }) ∧
            (u.chatterLimit = 0 → s.plan.items.breaker.enabled = false →
              t.store = (storeEvent l (.markSent p.code p.detection .dropped none)
                (storeEvent l (.inputChange bi (!(s.input bi).accepted) dir edge false) s)).store)) ∧
        (p.detection < s.now ∨ p.slot < n ∨ p.onWire = true →
          t.engine.pendingMark = some p ∧ ∀ e ∈ s.link.tx, e ∈ t.link.tx)) ∧
  (∀ (bi : InputNo) (T : Nat) (v : Visit) (p : PendingMark) (s : State), Quiet s → QueuesOk s →
    (s.input bi).lockout = none → (s.input bi).candidate = some T →
    T + (s.plan.items.inputs.get bi).debounce * 100 ≤ s.cond.count → s.engine.runState = .running →
    s.engine.runLabel ≠ none → s.engine.visit = some v → s.engine.decided = none → s.engine.pendingMark = some p →
    s.now % 100 ≠ 0 →
    let u := s.plan.items.inputs.get bi
    let it := s.plan.items.states.get v.state
    let dir : Direction := if (!(s.input bi).accepted) = u.activeHigh then .operate else .reset
    let listens (n : SlotNo) : Prop := ∃ target coord, it.triggers.get n = .input bi dir target coord
    ∃ t, exec (.debounceDeadline bi) s = .next t ∧
      ∀ n target, it.triggers.get n = .input bi dir target none → (∀ k, k < n → ¬listens k) → p.slot ≠ n →
        t.engine.pendingMark = none ∧ (∀ e ∈ t.link.tx, e.age = p.age → e.begun = true) ∧
          t.engine.visit = some { v with uncoordinated := false } ∧
          ∃ b, IsExitBoundary v.entry s.now b ∧
            t.engine.decided = some { instant := s.now, decider := .slot n, target := some target, boundary := b }) ∧
  ∀ (bi : InputNo) (T : Nat) (v : Visit) (l : Label) (s : State), Quiet s → (s.input bi).lockout = none →
    (s.input bi).candidate = some T → T + (s.plan.items.inputs.get bi).debounce * 100 ≤ s.cond.count →
    s.engine.runState = .running → s.engine.runLabel = some l → s.engine.visit = some v → s.engine.decided = none →
    s.engine.pendingMark = none → s.now % 100 ≠ 0 →
    let u := s.plan.items.inputs.get bi
    let it := s.plan.items.states.get v.state
    let dir : Direction := if (!(s.input bi).accepted) = u.activeHigh then .operate else .reset
    let edge := s.now - (s.cond.count - T)
    let listens (n : SlotNo) : Prop := ∃ target coord, it.triggers.get n = .input bi dir target coord
    ∃ t, exec (.debounceDeadline bi) s = .next t ∧
      ((∀ n, ¬listens n) → t.engine.decided = none ∧ t.engine.pendingMark = none ∧ t.engine.visit = some v) ∧
      (∀ n target, it.triggers.get n = .input bi dir target none → (∀ k, k < n → ¬listens k) →
        t.engine.visit = some { v with uncoordinated := false } ∧
          ∃ b, IsExitBoundary v.entry s.now b ∧
            t.engine.decided = some { instant := s.now, decider := .slot n, target := some target, boundary := b }) ∧
      (∀ n target c, it.triggers.get n = .input bi dir target (some c) → (∀ k, k ≠ n → ¬listens k) →
        s.engine.pendingFallback = none → s.link.tx.length < 7 → s.link.state ≠ .muted →
        t.engine.decided = none ∧ t.engine.visit = some v ∧
          ∃ e ∈ t.link.tx, e.frame = groupFrame (.mark l c s.now) .engine ∧ e.begun = false ∧
            t.engine.pendingMark = some { slot := n, code := c, detection := s.now, onWire := false, age := e.age }) ∧
      (∀ w, s.eval.working = some w → ∃ w', t.eval.working = some w' ∧
        (∀ i, i ≠ bi → w'.firstOperate.get i = w.firstOperate.get i) ∧
        (dir = .reset ∨ edge < v.entry → w'.firstOperate.get bi = w.firstOperate.get bi) ∧
        (dir = .operate → v.entry ≤ edge → w'.firstOperate.get bi = some (min edge ((w.firstOperate.get bi).getD edge)))) ∧
      (∀ c, dir = .operate → it.marks.get bi = some c → s.engine.firstOperates.get bi = false → s.link.tx.length < 7 →
        s.link.state ≠ .muted →
        t.engine.firstOperates.get bi = true ∧
          ∃ e ∈ t.link.tx, e.age = s.link.nextAge ∧ e.frame = groupFrame (.mark l c s.now) .engine ∧ e.begun = false) ∧
      (dir = .reset ∨ it.marks.get bi = none → t.engine.firstOperates = s.engine.firstOperates) ∧
      t.plan = s.plan ∧ t.clock = s.clock ∧ t.synth = s.synth ∧ t.amp = s.amp ∧ t.supplyFail = s.supplyFail

/-- LOCKOUT_RELEASE (R74, R75, R107). A LOCKED-OUT input whose release deadline has come is NORMAL with an empty
history; INPUT-RELEASE with its raw level reaches the store; a raw level that differs from the held one is accepted at
once, with this edge time and AFTER-LOCKOUT, as the one entry of the history. With no visit current nothing else
changes but the attribution of that edge. Before the deadline, or NORMAL, nothing happens (log entry 8). -/
def Obligations.LockoutRelease : Prop :=
  (∀ (bi : InputNo) (s : State), Quiet s → (∀ k, (s.input bi).lockout = some k → s.cond.count < k.release) →
      exec (.lockoutRelease bi) s = .next s) ∧
    ∀ (bi : InputNo) (k : Lockout) (s : State), Quiet s → (s.input bi).lockout = some k → k.release ≤ s.cond.count →
      let x := s.input bi
      let u := s.plan.items.inputs.get bi
      let dir : Direction := if x.raw = u.activeHigh then .operate else .reset
      let release (l : Label) (s : State) := storeEvent l (.inputRelease bi x.raw) s
      ∃ t, exec (.lockoutRelease bi) s = .next t ∧ t.cond.count = s.cond.count ∧
        (∀ i, i ≠ bi → t.input i = s.input i) ∧
        (x.raw = x.accepted → t.input bi = { x with lockout := none, history := [] }) ∧
        (x.raw ≠ x.accepted →
          t.input bi =
            { raw := x.raw, accepted := x.raw, candidate := none, history := [s.cond.count], lockout := none }) ∧
        (x.raw = x.accepted → ∀ l, s.runUnderWay = true → s.engine.runLabel = some l →
          t.store = (release l s).store ∧ t = { s with cond := t.cond, store := t.store, eval := t.eval }) ∧
        (s.engine.visit = none → s.eval.working = none → s.engine.decided = none →
          (s.runUnderWay = false → t.store = s.store) ∧
            (∀ l, s.runUnderWay = true → s.engine.runLabel = some l → x.raw ≠ x.accepted →
              t.store = (storeEvent l (.inputChange bi x.raw dir s.now true) (release l s)).store) ∧
            t = { s with cond := t.cond, store := t.store, eval := t.eval })

/-! ### The simulated breaker and the amplifiers -/

/-- An operate of the trip or of the close input at the breaker (R81, R83, R85, R86, R88, R89), taken with the breaker
enabled and a visit current, by an input no slot listens to: CLOSED opens, OPENING at first for the open time; CLOSING
is tripped free; OPEN closes, CLOSING at first for the close time; in every other pair the breaker stands. Each change
is one BREAKER record behind the INPUT-CHANGE of the same instant (the model's order, log entry 15: R152 leaves it
open), and the contacts follow the breaker's last state. -/
def Obligations.BreakerOperateTable : Prop :=
  ∀ (bi : InputNo) (T : Nat) (v : Visit) (l : Label) (s : State), Quiet s → (s.input bi).lockout = none →
    (s.input bi).candidate = some T → T + (s.plan.items.inputs.get bi).debounce * 100 ≤ s.cond.count →
    (s.plan.items.inputs.get bi).chatterLimit = 0 → (!(s.input bi).accepted) = (s.plan.items.inputs.get bi).activeHigh →
    s.engine.runState = .running → s.engine.runLabel = some l → s.engine.visit = some v → s.engine.decided = none →
    (∀ n target coord, (s.plan.items.states.get v.state).triggers.get n ≠ .input bi .operate target coord) → Room s →
    s.plan.items.breaker.enabled = true →
    let b := s.plan.items.breaker
    let open52 (lv : Vector Bool 4) (o : OutputNo) : Bool :=
      if b.out52a = some o then false else if b.out52b = some o then true else lv.get o
    let closed52 (lv : Vector Bool 4) (o : OutputNo) : Bool :=
      if b.out52a = some o then true else if b.out52b = some o then false else lv.get o
    let changed := storeEvent l
      (.inputChange bi (!(s.input bi).accepted) .operate (s.now - (s.cond.count - T)) false) s
    let trip := bi = b.tripInput
    let close := ¬trip ∧ b.closeInput = some bi
    ∃ t, exec (.debounceDeadline bi) s = .next t ∧
      let stands : Prop := t.breaker = s.breaker ∧ t.store = changed.store ∧ t.engine.boLevels = s.engine.boLevels
      (trip → s.breaker.state = .closed → 0 < b.openTime →
        t.breaker = { s.breaker with state := .opening, timer := .opening (s.now + b.openTime * 1000) } ∧
          t.store = (storeEvent l (.breaker .opening bi) changed).store ∧ t.engine.boLevels = s.engine.boLevels) ∧
      (trip → s.breaker.state = .closed → b.openTime = 0 →
        t.breaker = { s.breaker with state := .opened, timer := .off } ∧
          t.store = (storeEvent l (.breaker .opened bi) (storeEvent l (.breaker .opening bi) changed)).store ∧
          ∀ o, t.engine.boLevels.get o = open52 s.engine.boLevels o) ∧
      (trip → s.breaker.state = .closing →
        t.breaker = { s.breaker with state := .opened, timer := .off } ∧
          t.store = (storeEvent l (.breaker .opened bi) changed).store ∧
          ∀ o, t.engine.boLevels.get o = open52 s.engine.boLevels o) ∧
      (trip → s.breaker.state = .opening ∨ s.breaker.state = .opened → stands) ∧
      (close → s.breaker.state = .opened → 0 < b.closeTime →
        t.breaker = { s.breaker with state := .closing, timer := .closing (s.now + b.closeTime * 1000) } ∧
          t.store = (storeEvent l (.breaker .closing bi) changed).store ∧ t.engine.boLevels = s.engine.boLevels) ∧
      (close → s.breaker.state = .opened → b.closeTime = 0 →
        t.breaker = { s.breaker with state := .closed, timer := .off } ∧
          t.store = (storeEvent l (.breaker .closed bi) (storeEvent l (.breaker .closing bi) changed)).store ∧
          ∀ o, t.engine.boLevels.get o = closed52 s.engine.boLevels o) ∧
      (close → s.breaker.state ≠ .opened → stands) ∧ (¬trip → ¬close → stands)

/-- OPEN_TIMER_EXPIRY (R82) and CLOSE_TIMER_EXPIRY (R84): when the timer of an OPENING breaker comes, the breaker is
OPEN, 52a is 0 and 52b is 1; of a CLOSING one, CLOSED, 1 and 0; the timer is gone, and a BREAKER record with the new
state, the trip or the close input and this time is handed to the store; nothing else changes. Before the expiry, with
the breaker disabled or with no visit current, nothing happens (log entry 8). -/
def Obligations.BreakerTimersExpire : Prop :=
  (∀ s : State, (s.plan.items.breaker.enabled = false ∨ s.engine.runState ≠ .running ∨ s.engine.visit = none ∨
      s.breaker.state ≠ .opening ∨ ∀ x, s.breaker.timer = .opening x → s.now < x) →
      exec .openTimerExpiry s = .next s) ∧
    (∀ s : State, (s.plan.items.breaker.enabled = false ∨ s.engine.runState ≠ .running ∨ s.engine.visit = none ∨
      s.breaker.state ≠ .closing ∨ ∀ x, s.breaker.timer = .closing x → s.now < x) →
      exec .closeTimerExpiry s = .next s) ∧
    ∀ (x : Instant) (l : Label) (s : State), s.plan.items.breaker.enabled = true → s.engine.runState = .running →
      s.engine.visit ≠ none → x ≤ s.now → s.engine.runLabel = some l →
      let b := s.plan.items.breaker
      (s.breaker.state = .opening → s.breaker.timer = .opening x →
        ∃ t, exec .openTimerExpiry s = .next t ∧
          t.breaker = { s.breaker with state := .opened, timer := .off } ∧
          t.store = (storeEvent l (.breaker .opened b.tripInput) s).store ∧
          (∀ o, t.engine.boLevels.get o =
            if b.out52a = some o then false else if b.out52b = some o then true else s.engine.boLevels.get o) ∧
          t = { s with
                breaker := t.breaker, store := t.store, engine := { s.engine with boLevels := t.engine.boLevels } }) ∧
        (∀ i, s.breaker.state = .closing → s.breaker.timer = .closing x → b.closeInput = some i →
          ∃ t, exec .closeTimerExpiry s = .next t ∧
            t.breaker = { s.breaker with state := .closed, timer := .off } ∧
            t.store = (storeEvent l (.breaker .closed i) s).store ∧
            (∀ o, t.engine.boLevels.get o =
              if b.out52a = some o then true else if b.out52b = some o then false else s.engine.boLevels.get o) ∧
            t = { s with
                  breaker := t.breaker, store := t.store, engine := { s.engine with boLevels := t.engine.boLevels } })

/-- WARM_UP_EXPIRY (R94, R142) and IDLE_TIMER_EXPIRY (R95, R144). At the warm-up's expiry a WARMING supervisor is READY
and AEN stays asserted, with the idle timer started 60 s ahead unless a run is RUNNING or ENDING; a poller that is OFF
and whose run is ARMED with a start set begins to poll, with its roll-call queued at once. At the idle expiry a READY
supervisor not in overload is STANDBY with no timer and AEN released, and the poller, if it was on, gives up its
frames. Before the expiry nothing happens (log entry 8). -/
def Obligations.AmplifierTimersExpire : Prop :=
  (∀ s : State, s.amp.state ≠ .warming ∨ (∀ x, s.amp.warmUp = some x → s.amp.count < x) →
      exec .warmUpExpiry s = .next s) ∧
    (∀ s : State, s.amp.state ≠ .ready ∨ (∀ x, s.amp.idle = some x → s.amp.count < x) →
      exec .idleTimerExpiry s = .next s) ∧
    (∀ (x : Nat) (s : State), s.amp.state = .warming → s.amp.warmUp = some x → x ≤ s.amp.count → Quiet s → Room s →
      let polls : Prop := s.coord.poller = .off ∧ s.engine.runState = .armed ∧
        ∃ i, s.plan.items.header.startSet.get i = true
      ∃ t, exec .warmUpExpiry s = .next t ∧ t.amp.aen = true ∧
        t.amp = { s.amp with
            state := .ready, warmUp := none
            idle := if s.engine.runState = .running ∨ s.engine.runState = .ending then none
              else some (s.amp.count + 60000000) } ∧
        (¬polls → t = { s with amp := t.amp }) ∧
        (polls → t.coord.poller = .polling ∧ t.coord.nextPoll = some (s.coord.count + 20000) ∧
          (∃ e ∈ t.link.tx, e.frame.owner = .coordination ∧ e.frame.body = .rollcall .ready) ∧
          t = { s with amp := t.amp, coord := t.coord, link := t.link })) ∧
    ∀ (x : Nat) (s : State), s.amp.state = .ready → s.amp.idle = some x → x ≤ s.amp.count → inOverload s.amp = false →
      QueuesOk s →
      ∃ t, exec .idleTimerExpiry s = .next t ∧ t.amp = { s.amp with state := .standby, warmUp := none, idle := none } ∧
        t.amp.aen = false ∧ (s.coord.poller = .off → t = { s with amp := t.amp }) ∧
        (s.coord.poller ≠ .off → t.coord = pollerOffOf s.coord ∧ (∀ e ∈ t.link.tx, e ∈ s.link.tx) ∧
          (∀ e ∈ t.link.tx, some e.age = s.coord.ownRoll ∨ some e.age = s.coord.ownStart → e.begun = true) ∧
          t = { s with amp := t.amp, coord := t.coord, link := t.link })

/-- OVERLOAD_LINE_ASSERTED, OVERLOAD_LINE_DEASSERTED and OVERLOAD_REPORT (R96, R92). A CLEAR debouncer is TIMING from
the assertion; a deassertion within 2 ms, and one from HELD, makes it CLEAR and reports nothing; after 2 ms it is HELD
and reports: READY, WARMING and STANDBY become FAULTED with no timer, AEN released and AMP-FAULT latched, and a RUNNING
run whose amplifier was READY is aborted OVERLOAD with its records and its ABORT queued; a FAULTED supervisor is left as
it is, but for the debouncer. An ABSENT supervisor watches no line. An assertion for a debouncer that is not CLEAR
changes nothing (the model's choice, log entry 31), and neither does a report before its 2 ms (log entry 8). -/
def Obligations.OverloadDebounce : Prop :=
  (∀ (i : OverloadLine) (s : State), s.amp.state = .absent → Quiet s →
      exec (.overloadLineAsserted i) s = .next s ∧ exec (.overloadLineDeasserted i) s = .next s) ∧
    (∀ (i : OverloadLine) (s : State), s.amp.state ≠ .absent →
      (s.amp.debouncers.get i = .clear → exec (.overloadLineAsserted i) s =
          .next { s with amp := { s.amp with debouncers := setAt s.amp.debouncers i (.timing s.amp.count) } }) ∧
        (s.amp.debouncers.get i ≠ .clear → exec (.overloadLineAsserted i) s = .next s)) ∧
    (∀ (i : OverloadLine) (s : State), s.amp.state ≠ .absent → Quiet s →
      (∀ x, s.amp.debouncers.get i = .timing x → s.amp.count < x + 2000) →
      exec (.overloadLineDeasserted i) s =
        .next { s with amp := { s.amp with debouncers := setAt s.amp.debouncers i .clear } }) ∧
    (∀ (i : OverloadLine) (s : State), (∀ x, s.amp.debouncers.get i = .timing x → s.amp.count < x + 2000) →
      exec (.overloadReport i) s = .next s) ∧
    ∀ (i : OverloadLine) (x : Nat) (s : State), s.amp.debouncers.get i = .timing x → x + 2000 ≤ s.amp.count → Quiet s →
      Room s → QueuesOk s →
      ∃ t, exec (.overloadReport i) s = .next t ∧ t.amp.debouncers = setAt s.amp.debouncers i .held ∧
        t.amp.count = s.amp.count ∧ t.plan = s.plan ∧ t.cond = s.cond ∧ t.clock = s.clock ∧
        (s.amp.state = .faulted ∨ s.amp.state = .absent →
          t = { s with amp := { s.amp with debouncers := setAt s.amp.debouncers i .held } }) ∧
        (s.amp.state = .ready ∨ s.amp.state = .warming ∨ s.amp.state = .standby →
          t.amp.state = .faulted ∧ t.amp.warmUp = none ∧ t.amp.idle = none ∧ t.amp.aen = false ∧
            t.status.latch.ampFault = true ∧
            (s.amp.state ≠ .ready ∨ s.engine.runState ≠ .running →
              t.engine = s.engine ∧ t.store = s.store ∧
                t.status = { s.status with latch := { s.status.latch with ampFault := true } } ∧
                (s.coord.poller = .off → t.link = s.link ∧ t.coord = s.coord) ∧
                (s.coord.poller ≠ .off → t.coord = pollerOffOf s.coord))) ∧
        (s.amp.state = .ready → s.engine.runState = .running → s.engine.held = [] →
          t.engine.runState = .aborted ∧ t.engine.endReason = .overload ∧ t.engine.visit = none ∧
            t.engine.boLevels = s.plan.items.header.boRest ∧ t.breaker = Breaker.initial ∧ t.store.reserve = none ∧
            (RunInvariant s → AbortRecords .overload s t) ∧
            ∀ l, s.engine.runLabel = some l →
              ∃ e ∈ t.link.tx, e.frame = groupFrame (.abort l .overload) .engine ∧ e.begun = false)

/-! ### The poller's and the gather's instants -/

/-- POLL_INSTANT (R141, R142): in POLLING at its next poll instant the poller moves that instant on by 20,000 µs and
queues a ROLLCALL(READY), unless a READY roll-call of its own stands in the transmit queue, one it has given up
included (the model's reading, log entry 21). Before the instant, or in another poller state, nothing happens (log
entry 8). -/
def Obligations.PollInstantQueuesARollCall : Prop :=
  (∀ s : State, s.coord.poller ≠ .polling ∨ (∀ x, s.coord.nextPoll = some x → s.coord.count < x) →
      exec .pollInstant s = .next s) ∧
    ∀ (x : Nat) (s : State), s.coord.poller = .polling → s.coord.nextPoll = some x → x ≤ s.coord.count → Quiet s →
      let roll := groupFrame (.rollcall .ready) .coordination
      let mine (e : TxEntry) : Prop := e.frame.owner = .coordination ∧ e.frame.body = .rollcall .ready
      ((∃ e ∈ s.link.tx, mine e) →
          exec .pollInstant s = .next { s with coord := { s.coord with nextPoll := some (x + 20000) } }) ∧
        ((∀ e ∈ s.link.tx, ¬mine e) → Room s →
          ∃ t, exec .pollInstant s = .next t ∧
            t.coord = { s.coord with nextPoll := some (x + 20000), ownRoll := some s.link.nextAge } ∧
            Inserted (newEntry roll s) s.link.tx t.link.tx ∧
            t.link = { s.link with tx := t.link.tx, nextAge := s.link.nextAge + 1 } ∧
            t = { s with coord := t.coord, link := t.link })

/-- GATHER_REPLY_DEADLINE (R169, R172). When the deadline of the read comes, the registration is cleared and the
station is NO-ANSWER, keeping what was merged: under HALT the gather ends FAILED with that station halting; under SKIP
the sweep goes on at index 0 with the next station of the set, and with none left the gather is COMPLETED; at the end
the terms are evaluated and GATHER-DONE is queued to the requester (R174). Before the deadline nothing happens (log
entry 8). GATHER_REPEAT_INSTANT (R171) and GATHER_ON_FINISH (R177). At the repeat instant the same index of the same
station is read again, with a fresh tag. At the gather-on-finish instant a station that is not the plan's gather
station, or whose engine is busy, discards it; the gather station begins a FRESH gather of the plan's set under the
run's label with WAIT and SKIP and no requester, which is COMPLETED at once where the set is empty. Before the instant
nothing happens (log entry 8). -/
def Obligations.GatherInstants : Prop :=
  ((∀ s : State, (∀ c x, s.gather.cursor = some c → c.deadline = some x → s.gather.count < x) →
       exec .gatherReplyDeadline s = .next s) ∧
     ∀ (c : Cursor) (st : StationNo) (x : Nat) (s : State), s.gather.cursor = some c → c.deadline = some x →
       x ≤ s.gather.count → c.station = some st → Quiet s → Room s →
       ∃ t, exec .gatherReplyDeadline s = .next t ∧ SilentRead c st s.link.tx s t) ∧
    ((∀ s : State, (∀ c x, s.gather.cursor = some c → c.repeatAt = some x → s.gather.count < x) →
         exec .gatherRepeatInstant s = .next s) ∧
       (∀ (c : Cursor) (st : StationNo) (x : Nat) (s : State), s.gather.cursor = some c → c.repeatAt = some x →
         x ≤ s.gather.count → c.station = some st → st ≠ s.link.straps.station → Quiet s → Room s →
         ∃ t, exec .gatherRepeatInstant s = .next t ∧
           t.gather = { s.gather with
             tagCounter := s.gather.tagCounter + 1
             cursor := some { c with readTag := some s.gather.tagCounter, deadline := none, repeatAt := none } } ∧
           t.link.outstanding = some { station := st, tag := s.gather.tagCounter } ∧
           Inserted
             (newEntry { dest := some st, tag := s.gather.tagCounter, body := .recordRead c.label c.index
                         owner := .gatherEngine } s) s.link.tx t.link.tx ∧
           t = { s with gather := t.gather, link := t.link }) ∧
       (∀ s : State, (∀ x l, s.gather.onFinish = some (x, l) → s.gather.count < x) → exec .gatherOnFinish s = .next s) ∧
       (∀ (x : Nat) (l : Label) (s : State), s.gather.onFinish = some (x, l) → x ≤ s.gather.count → Quiet s →
         (s.plan.items.header.gatherStation ≠ some s.link.straps.station ∨ s.gather.state = .rolling ∨
           s.gather.state = .sweeping) →
         exec .gatherOnFinish s = .next { s with gather := { s.gather with onFinish := none } }) ∧
       (∀ (x : Nat) (l : Label) (s : State), s.gather.onFinish = some (x, l) → x ≤ s.gather.count → Quiet s →
         s.plan.items.header.gatherStation = some s.link.straps.station →
         (s.gather.state = .idle ∨ s.gather.state = .done) → (∀ j, s.plan.items.header.gatherSet.get j = false) →
         ∃ t, exec .gatherOnFinish s = .next t ∧ t.gather.state = .done ∧ t.gather.cursor = none ∧
           t.gather.onFinish = none ∧ t.gather.tagCounter = s.gather.tagCounter ∧ t.gather.report.outcome = .completed ∧
           t.gather.report.label = some l ∧ t.gather.report.entries = [] ∧ t.gather.report.truncated = false ∧
           t.gather.report.dropped = 0 ∧ t.gather.report.rounding = s.plan.items.header.rounding ∧
           (∀ j, t.gather.report.status.get j = .notSwept ∧ t.gather.report.taken.get j = 0) ∧
           (∀ k, t.gather.report.terms.get k =
             termResult s.plan.items.header.rounding (s.plan.items.terms.get k) t.gather.report) ∧
           t = { s with gather := t.gather }) ∧
       ∀ (x : Nat) (l : Label) (i : StationNo) (s : State), s.gather.onFinish = some (x, l) → x ≤ s.gather.count → Quiet s →
         Room s → s.plan.items.header.gatherStation = some s.link.straps.station →
         (s.gather.state = .idle ∨ s.gather.state = .done) → s.plan.items.header.gatherSet.get i = true →
         (∀ j, j < i → s.plan.items.header.gatherSet.get j = false) → i ≠ s.link.straps.station →
         ∃ t c, exec .gatherOnFinish s = .next t ∧ t.gather.onFinish = none ∧ t.gather.state = .sweeping ∧
           t.gather.cursor = some c ∧ c.label = l ∧ c.sweepSet = s.plan.items.header.gatherSet ∧ c.waitPending = true ∧
           c.haltSilence = false ∧ c.requester = none ∧ c.station = some i ∧ c.index = 0 ∧
           t.gather.report.label = some l ∧ t.gather.report.entries = [] ∧ t.gather.report.truncated = false ∧
           t.gather.report.dropped = 0 ∧ t.gather.report.outcome = .none ∧
           (∀ j, t.gather.report.status.get j = .notSwept ∧ t.gather.report.taken.get j = 0) ∧
           (∀ k, t.gather.report.terms.get k = .notEvaluated) ∧
           t.link.outstanding = some { station := i, tag := s.gather.tagCounter } ∧
           Inserted
             (newEntry { dest := some i, tag := s.gather.tagCounter, body := .recordRead l 0, owner := .gatherEngine } s)
             s.link.tx t.link.tx ∧
           t = { s with gather := t.gather, link := t.link })

/-- A report term (R175, R176). A disabled term is DISABLED. An enabled term with a selector absent is MISSING, with
the sides absent. With both resolved its value is B − A in units of 10 µs: of two neighbouring integers the nearer, a
half going to the even one, or the one nearer 0; and it passes exactly when the value lies in the band, both ends
included. A selector (R175): only of a COMPLETE station, it takes the n-th of the report's entries of that station
that match its event, in report order, n being its occurrence, and is absent with fewer; which entries match, and the
time each gives, per event, by the bytes of R192. How a record is merged (R173): one that the report holds under the
same origin and index is passed over; a report of fewer than 512 entries takes it in at its place; a full one turns it
away, TRUNCATED and counted. The order and the limit of Law 11 stand. -/
def Obligations.MergingRecordsAndTerms : Prop :=
  (∀ (m : RoundingMode) (t : ReportTerm) (r : Report),
     let d (a b : Nat) : Int := (b : Int) - (a : Int)
     (t.enabled = false → termResult m t r = .disabled) ∧
       (∀ a b, t.enabled = true → resolve t.selA r = some a → resolve t.selB r = some b →
         ∃ v : Int, termResult m t r = (if t.bandMin ≤ v ∧ v ≤ t.bandMax then .pass v else .fail v) ∧
           (m = .nearestEven → 2 * (10 * v - d a b).natAbs ≤ 10 ∧ (2 * (10 * v - d a b).natAbs = 10 → v % 2 = 0)) ∧
           (m = .towardZero → (10 * v).natAbs ≤ (d a b).natAbs ∧ (d a b - 10 * v).natAbs < 10 ∧ 0 ≤ v * d a b)) ∧
       (t.enabled = true → (resolve t.selA r = none ∨ resolve t.selB r = none) →
         ∃ p q, termResult m t r = .missing p q ∧ (p = true ↔ resolve t.selA r = none) ∧
           (q = true ↔ resolve t.selB r = none)) ∧
       (∀ (x : Selector) (e : Nat), resolve x r = some e → r.status.get x.station = .complete ∧ 1 ≤ x.occurrence ∧
         ∃ y ∈ r.entries, y.origin = x.station ∧ entryMatches x.event y = true ∧ e = entryTime x.event y)) ∧
    (∀ (x : Selector) (r : Report), 1 ≤ x.occurrence →
       (r.status.get x.station = .complete → resolve x r =
         ((r.entries.filter fun y => decide (y.origin = x.station ∧ entryMatches x.event y = true))[x.occurrence - 1]?).map
           (entryTime x.event)) ∧
         (r.status.get x.station ≠ .complete → resolve x r = none)) ∧
    (∀ y : ReportEntry,
       let b := byteAt y.contents 0
       (∀ st : StateNo, (entryMatches (.stateEntry st) y = true ↔ y.kind = 6 ∧ byteAt y.contents 8 / 8 = st.val) ∧
         entryTime (.stateEntry st) y = num4 y.contents 0) ∧
       (∀ bi : InputNo, (entryMatches (.inputOperate bi) y = true ↔ y.kind = 0 ∧ b / 32 = bi.val ∧ b / 8 % 2 = 1) ∧
         (entryMatches (.inputReset bi) y = true ↔ y.kind = 0 ∧ b / 32 = bi.val ∧ b / 8 % 2 = 0) ∧
         entryTime (.inputOperate bi) y = num4 y.contents 1 ∧ entryTime (.inputReset bi) y = num4 y.contents 1) ∧
       (∀ c : MarkCode, (entryMatches (.markSent c) y = true ↔
           y.kind = 3 ∧ b / 4 = c.toNat ∧ (b % 4 = 0 ∨ b % 4 = 1)) ∧
         entryTime (.markSent c) y = num4 y.contents 5) ∧
       (entryMatches .breakerOpen y = true ↔ y.kind = 5 ∧ b / 64 = 1) ∧ entryTime .breakerOpen y = y.time) ∧
    (∀ (e : ReportEntry) (s : State), ReportOk s →
       ReportOk { s with gather := { s.gather with report := mergeEntry e s.gather.report } } ∧
         ((∃ x ∈ s.gather.report.entries, x.origin = e.origin ∧ x.index = e.index) →
           mergeEntry e s.gather.report = s.gather.report) ∧
         ((∀ x ∈ s.gather.report.entries, ¬(x.origin = e.origin ∧ x.index = e.index)) →
           s.gather.report.entries.length < 512 →
           mergeEntry e s.gather.report = { s.gather.report with entries := (mergeEntry e s.gather.report).entries } ∧
             (mergeEntry e s.gather.report).entries.Perm (e :: s.gather.report.entries)) ∧
         ((∀ x ∈ s.gather.report.entries, ¬(x.origin = e.origin ∧ x.index = e.index)) →
           s.gather.report.entries.length = 512 →
           mergeEntry e s.gather.report =
             { s.gather.report with truncated := true, dropped := min 65535 (s.gather.report.dropped + 1) }))

/-! ### What every step keeps -/

/-- The state after reset meets every invariant below, and it is that of a power-on reset whose pins all read 0 (log
entry 1): the straps, the inputs and the lines are the model's choice. -/
def Obligations.ResetMeetsEveryInvariant : Prop :=
  RunInvariant State.reset ∧ QueuesOk State.reset ∧ ReportOk State.reset ∧ PlanInRange State.reset ∧
    CodesBounded State.reset ∧ ClockBounded State.reset ∧ GatherShape State.reset ∧ AmplifierShape State.reset ∧
    BreakerShape State.reset ∧ State.reset.pending = [] ∧
    ∀ s : State, s.pending = [] →
      exec (.powerOnReset
        { station := 0, group := 0, cableDelay := 0, amplifierPresent := false, inputs := Vector.replicate 8 false,
          overload := Vector.replicate 2 false, supplyFail := false }) s = .next State.reset

/-- Every step keeps what the run laws rest on (Laws 5 to 9): the plan is VALID while a run is active; the visits of a
run never exceed its limit; the store's chains hold every record in order and no block twice; at most 8 labels are
held; and the reserve for the run's EVALUATIONs and RUN-SUMMARY is always there. -/
def Obligations.StepKeepsTheRunInvariant : Prop :=
  ∀ s t : State, RunInvariant s → step s = .next t → RunInvariant t

/-- Every step keeps the shape of the transmit and request queues; and a MUTED station stays MUTED with nothing queued
until a power-on or pin reset (Law 12, R124, R125, R127, R130). -/
def Obligations.StepKeepsTheQueues : Prop :=
  ∀ s t : State, QueuesOk s → Quiet s → step s = .next t → QueuesOk t ∧ Quiet t ∧
    (s.link.state = .muted → (∀ p rest, s.pending ≠ .powerOnReset p :: rest) → t.link.state = .muted ∧ t.link.tx = [])

/-- Law 11 (R173): every step keeps the report in report order, without duplicates and within 512 entries. -/
def Obligations.StepKeepsTheReport : Prop :=
 ∀ s t : State, ReportOk s → step s = .next t → ReportOk t

/-- Every step keeps every stored plan item in its ranges: each reads back as it stands (R2 to R12, R14). Law 4 (R17):
from an active run to an active run no step changes a plan item. -/
def Obligations.StepKeepsThePlan : Prop :=
  (∀ s t : State, PlanInRange s → step s = .next t → PlanInRange t) ∧
    (∀ s t : State, PlanHeld s → s.runActive = true → step s = .next t → t.runActive = true → t.plan = s.plan)

/-- Every step keeps the codes bounded (Law 1), the run within the clock limit (Law 10), the gather's cursor standing
exactly while its engine is busy, the supervisor's timers in the states that have them, and the breaker CLOSED, with
nothing forced, outside RUNNING. -/
def Obligations.StepKeepsTheBlockShapes : Prop :=
  ∀ s t : State, CodesBounded s → ClockBounded s → GatherShape s → AmplifierShape s → BreakerShape s → Quiet s →
    step s = .next t → CodesBounded t ∧ ClockBounded t ∧ GatherShape t ∧ AmplifierShape t ∧ BreakerShape t
end

