-- ==== Sys2Proof/Laws/State.lean ====
section
/-! SUPPORT. One lemma per field per update of the state: the named updates of Machine/Ops.lean, read through every field
and every reading, and the equations of a state with its updated fields. -/

namespace Sys2Proof.Machine.State

variable (s : State)

/-! ### modPlan -/

@[simp] theorem modPlan_pending (f : PlanMemory → PlanMemory) : (s.modPlan f).pending = s.pending := rfl
@[simp] theorem modPlan_plan (f : PlanMemory → PlanMemory) : (s.modPlan f).plan = f s.plan := rfl
@[simp] theorem modPlan_synth (f : PlanMemory → PlanMemory) : (s.modPlan f).synth = s.synth := rfl
@[simp] theorem modPlan_engine (f : PlanMemory → PlanMemory) : (s.modPlan f).engine = s.engine := rfl
@[simp] theorem modPlan_cond (f : PlanMemory → PlanMemory) : (s.modPlan f).cond = s.cond := rfl
@[simp] theorem modPlan_breaker (f : PlanMemory → PlanMemory) : (s.modPlan f).breaker = s.breaker := rfl
@[simp] theorem modPlan_amp (f : PlanMemory → PlanMemory) : (s.modPlan f).amp = s.amp := rfl
@[simp] theorem modPlan_eval (f : PlanMemory → PlanMemory) : (s.modPlan f).eval = s.eval := rfl
@[simp] theorem modPlan_link (f : PlanMemory → PlanMemory) : (s.modPlan f).link = s.link := rfl
@[simp] theorem modPlan_coord (f : PlanMemory → PlanMemory) : (s.modPlan f).coord = s.coord := rfl
@[simp] theorem modPlan_store (f : PlanMemory → PlanMemory) : (s.modPlan f).store = s.store := rfl
@[simp] theorem modPlan_gather (f : PlanMemory → PlanMemory) : (s.modPlan f).gather = s.gather := rfl
@[simp] theorem modPlan_status (f : PlanMemory → PlanMemory) : (s.modPlan f).status = s.status := rfl
@[simp] theorem modPlan_clock (f : PlanMemory → PlanMemory) : (s.modPlan f).clock = s.clock := rfl
@[simp] theorem modPlan_supplyFail (f : PlanMemory → PlanMemory) : (s.modPlan f).supplyFail = s.supplyFail := rfl
@[simp] theorem modPlan_past (f : PlanMemory → PlanMemory) : (s.modPlan f).past = s.past := rfl
@[simp] theorem modPlan_now (f : PlanMemory → PlanMemory) : (s.modPlan f).now = s.now := rfl
@[simp] theorem modPlan_input (f : PlanMemory → PlanMemory) : (s.modPlan f).input = s.input := rfl
@[simp] theorem modPlan_own (f : PlanMemory → PlanMemory) : (s.modPlan f).own = s.own := rfl
@[simp] theorem modPlan_runActive (f : PlanMemory → PlanMemory) : (s.modPlan f).runActive = s.runActive := rfl
@[simp] theorem modPlan_runUnderWay (f : PlanMemory → PlanMemory) : (s.modPlan f).runUnderWay = s.runUnderWay := rfl
@[simp] theorem modPlan_modPlan (f g : PlanMemory → PlanMemory) : (s.modPlan f).modPlan g = s.modPlan fun x => g (f x) := rfl

/-! ### modSynth -/

@[simp] theorem modSynth_pending (f : Synth → Synth) : (s.modSynth f).pending = s.pending := rfl
@[simp] theorem modSynth_plan (f : Synth → Synth) : (s.modSynth f).plan = s.plan := rfl
@[simp] theorem modSynth_synth (f : Synth → Synth) : (s.modSynth f).synth = f s.synth := rfl
@[simp] theorem modSynth_engine (f : Synth → Synth) : (s.modSynth f).engine = s.engine := rfl
@[simp] theorem modSynth_cond (f : Synth → Synth) : (s.modSynth f).cond = s.cond := rfl
@[simp] theorem modSynth_breaker (f : Synth → Synth) : (s.modSynth f).breaker = s.breaker := rfl
@[simp] theorem modSynth_amp (f : Synth → Synth) : (s.modSynth f).amp = s.amp := rfl
@[simp] theorem modSynth_eval (f : Synth → Synth) : (s.modSynth f).eval = s.eval := rfl
@[simp] theorem modSynth_link (f : Synth → Synth) : (s.modSynth f).link = s.link := rfl
@[simp] theorem modSynth_coord (f : Synth → Synth) : (s.modSynth f).coord = s.coord := rfl
@[simp] theorem modSynth_store (f : Synth → Synth) : (s.modSynth f).store = s.store := rfl
@[simp] theorem modSynth_gather (f : Synth → Synth) : (s.modSynth f).gather = s.gather := rfl
@[simp] theorem modSynth_status (f : Synth → Synth) : (s.modSynth f).status = s.status := rfl
@[simp] theorem modSynth_clock (f : Synth → Synth) : (s.modSynth f).clock = s.clock := rfl
@[simp] theorem modSynth_supplyFail (f : Synth → Synth) : (s.modSynth f).supplyFail = s.supplyFail := rfl
@[simp] theorem modSynth_past (f : Synth → Synth) : (s.modSynth f).past = s.past := rfl
@[simp] theorem modSynth_now (f : Synth → Synth) : (s.modSynth f).now = s.now := rfl
@[simp] theorem modSynth_header (f : Synth → Synth) : (s.modSynth f).header = s.header := rfl
@[simp] theorem modSynth_stateItems (f : Synth → Synth) : (s.modSynth f).stateItems = s.stateItems := rfl
@[simp] theorem modSynth_inputSetup (f : Synth → Synth) : (s.modSynth f).inputSetup = s.inputSetup := rfl
@[simp] theorem modSynth_breakerSetup (f : Synth → Synth) : (s.modSynth f).breakerSetup = s.breakerSetup := rfl
@[simp] theorem modSynth_input (f : Synth → Synth) : (s.modSynth f).input = s.input := rfl
@[simp] theorem modSynth_own (f : Synth → Synth) : (s.modSynth f).own = s.own := rfl
@[simp] theorem modSynth_runActive (f : Synth → Synth) : (s.modSynth f).runActive = s.runActive := rfl
@[simp] theorem modSynth_runUnderWay (f : Synth → Synth) : (s.modSynth f).runUnderWay = s.runUnderWay := rfl
@[simp] theorem modSynth_modSynth (f g : Synth → Synth) : (s.modSynth f).modSynth g = s.modSynth fun x => g (f x) := rfl

/-! ### modEngine -/

@[simp] theorem modEngine_pending (f : Engine → Engine) : (s.modEngine f).pending = s.pending := rfl
@[simp] theorem modEngine_plan (f : Engine → Engine) : (s.modEngine f).plan = s.plan := rfl
@[simp] theorem modEngine_synth (f : Engine → Engine) : (s.modEngine f).synth = s.synth := rfl
@[simp] theorem modEngine_engine (f : Engine → Engine) : (s.modEngine f).engine = f s.engine := rfl
@[simp] theorem modEngine_cond (f : Engine → Engine) : (s.modEngine f).cond = s.cond := rfl
@[simp] theorem modEngine_breaker (f : Engine → Engine) : (s.modEngine f).breaker = s.breaker := rfl
@[simp] theorem modEngine_amp (f : Engine → Engine) : (s.modEngine f).amp = s.amp := rfl
@[simp] theorem modEngine_eval (f : Engine → Engine) : (s.modEngine f).eval = s.eval := rfl
@[simp] theorem modEngine_link (f : Engine → Engine) : (s.modEngine f).link = s.link := rfl
@[simp] theorem modEngine_coord (f : Engine → Engine) : (s.modEngine f).coord = s.coord := rfl
@[simp] theorem modEngine_store (f : Engine → Engine) : (s.modEngine f).store = s.store := rfl
@[simp] theorem modEngine_gather (f : Engine → Engine) : (s.modEngine f).gather = s.gather := rfl
@[simp] theorem modEngine_status (f : Engine → Engine) : (s.modEngine f).status = s.status := rfl
@[simp] theorem modEngine_clock (f : Engine → Engine) : (s.modEngine f).clock = s.clock := rfl
@[simp] theorem modEngine_supplyFail (f : Engine → Engine) : (s.modEngine f).supplyFail = s.supplyFail := rfl
@[simp] theorem modEngine_past (f : Engine → Engine) : (s.modEngine f).past = s.past := rfl
@[simp] theorem modEngine_now (f : Engine → Engine) : (s.modEngine f).now = s.now := rfl
@[simp] theorem modEngine_header (f : Engine → Engine) : (s.modEngine f).header = s.header := rfl
@[simp] theorem modEngine_stateItems (f : Engine → Engine) : (s.modEngine f).stateItems = s.stateItems := rfl
@[simp] theorem modEngine_inputSetup (f : Engine → Engine) : (s.modEngine f).inputSetup = s.inputSetup := rfl
@[simp] theorem modEngine_breakerSetup (f : Engine → Engine) : (s.modEngine f).breakerSetup = s.breakerSetup := rfl
@[simp] theorem modEngine_input (f : Engine → Engine) : (s.modEngine f).input = s.input := rfl
@[simp] theorem modEngine_own (f : Engine → Engine) : (s.modEngine f).own = s.own := rfl
@[simp] theorem modEngine_modEngine (f g : Engine → Engine) : (s.modEngine f).modEngine g = s.modEngine fun x => g (f x) := rfl

/-! ### modCond -/

@[simp] theorem modCond_pending (f : Conditioner → Conditioner) : (s.modCond f).pending = s.pending := rfl
@[simp] theorem modCond_plan (f : Conditioner → Conditioner) : (s.modCond f).plan = s.plan := rfl
@[simp] theorem modCond_synth (f : Conditioner → Conditioner) : (s.modCond f).synth = s.synth := rfl
@[simp] theorem modCond_engine (f : Conditioner → Conditioner) : (s.modCond f).engine = s.engine := rfl
@[simp] theorem modCond_cond (f : Conditioner → Conditioner) : (s.modCond f).cond = f s.cond := rfl
@[simp] theorem modCond_breaker (f : Conditioner → Conditioner) : (s.modCond f).breaker = s.breaker := rfl
@[simp] theorem modCond_amp (f : Conditioner → Conditioner) : (s.modCond f).amp = s.amp := rfl
@[simp] theorem modCond_eval (f : Conditioner → Conditioner) : (s.modCond f).eval = s.eval := rfl
@[simp] theorem modCond_link (f : Conditioner → Conditioner) : (s.modCond f).link = s.link := rfl
@[simp] theorem modCond_coord (f : Conditioner → Conditioner) : (s.modCond f).coord = s.coord := rfl
@[simp] theorem modCond_store (f : Conditioner → Conditioner) : (s.modCond f).store = s.store := rfl
@[simp] theorem modCond_gather (f : Conditioner → Conditioner) : (s.modCond f).gather = s.gather := rfl
@[simp] theorem modCond_status (f : Conditioner → Conditioner) : (s.modCond f).status = s.status := rfl
@[simp] theorem modCond_clock (f : Conditioner → Conditioner) : (s.modCond f).clock = s.clock := rfl
@[simp] theorem modCond_supplyFail (f : Conditioner → Conditioner) : (s.modCond f).supplyFail = s.supplyFail := rfl
@[simp] theorem modCond_past (f : Conditioner → Conditioner) : (s.modCond f).past = s.past := rfl
@[simp] theorem modCond_now (f : Conditioner → Conditioner) : (s.modCond f).now = s.now := rfl
@[simp] theorem modCond_header (f : Conditioner → Conditioner) : (s.modCond f).header = s.header := rfl
@[simp] theorem modCond_stateItems (f : Conditioner → Conditioner) : (s.modCond f).stateItems = s.stateItems := rfl
@[simp] theorem modCond_inputSetup (f : Conditioner → Conditioner) : (s.modCond f).inputSetup = s.inputSetup := rfl
@[simp] theorem modCond_breakerSetup (f : Conditioner → Conditioner) : (s.modCond f).breakerSetup = s.breakerSetup := rfl
@[simp] theorem modCond_own (f : Conditioner → Conditioner) : (s.modCond f).own = s.own := rfl
@[simp] theorem modCond_runActive (f : Conditioner → Conditioner) : (s.modCond f).runActive = s.runActive := rfl
@[simp] theorem modCond_runUnderWay (f : Conditioner → Conditioner) : (s.modCond f).runUnderWay = s.runUnderWay := rfl
@[simp] theorem modCond_modCond (f g : Conditioner → Conditioner) : (s.modCond f).modCond g = s.modCond fun x => g (f x) := rfl

/-! ### modBreaker -/

@[simp] theorem modBreaker_pending (f : Breaker → Breaker) : (s.modBreaker f).pending = s.pending := rfl
@[simp] theorem modBreaker_plan (f : Breaker → Breaker) : (s.modBreaker f).plan = s.plan := rfl
@[simp] theorem modBreaker_synth (f : Breaker → Breaker) : (s.modBreaker f).synth = s.synth := rfl
@[simp] theorem modBreaker_engine (f : Breaker → Breaker) : (s.modBreaker f).engine = s.engine := rfl
@[simp] theorem modBreaker_cond (f : Breaker → Breaker) : (s.modBreaker f).cond = s.cond := rfl
@[simp] theorem modBreaker_breaker (f : Breaker → Breaker) : (s.modBreaker f).breaker = f s.breaker := rfl
@[simp] theorem modBreaker_amp (f : Breaker → Breaker) : (s.modBreaker f).amp = s.amp := rfl
@[simp] theorem modBreaker_eval (f : Breaker → Breaker) : (s.modBreaker f).eval = s.eval := rfl
@[simp] theorem modBreaker_link (f : Breaker → Breaker) : (s.modBreaker f).link = s.link := rfl
@[simp] theorem modBreaker_coord (f : Breaker → Breaker) : (s.modBreaker f).coord = s.coord := rfl
@[simp] theorem modBreaker_store (f : Breaker → Breaker) : (s.modBreaker f).store = s.store := rfl
@[simp] theorem modBreaker_gather (f : Breaker → Breaker) : (s.modBreaker f).gather = s.gather := rfl
@[simp] theorem modBreaker_status (f : Breaker → Breaker) : (s.modBreaker f).status = s.status := rfl
@[simp] theorem modBreaker_clock (f : Breaker → Breaker) : (s.modBreaker f).clock = s.clock := rfl
@[simp] theorem modBreaker_supplyFail (f : Breaker → Breaker) : (s.modBreaker f).supplyFail = s.supplyFail := rfl
@[simp] theorem modBreaker_past (f : Breaker → Breaker) : (s.modBreaker f).past = s.past := rfl
@[simp] theorem modBreaker_now (f : Breaker → Breaker) : (s.modBreaker f).now = s.now := rfl
@[simp] theorem modBreaker_header (f : Breaker → Breaker) : (s.modBreaker f).header = s.header := rfl
@[simp] theorem modBreaker_stateItems (f : Breaker → Breaker) : (s.modBreaker f).stateItems = s.stateItems := rfl
@[simp] theorem modBreaker_inputSetup (f : Breaker → Breaker) : (s.modBreaker f).inputSetup = s.inputSetup := rfl
@[simp] theorem modBreaker_breakerSetup (f : Breaker → Breaker) : (s.modBreaker f).breakerSetup = s.breakerSetup := rfl
@[simp] theorem modBreaker_input (f : Breaker → Breaker) : (s.modBreaker f).input = s.input := rfl
@[simp] theorem modBreaker_own (f : Breaker → Breaker) : (s.modBreaker f).own = s.own := rfl
@[simp] theorem modBreaker_runActive (f : Breaker → Breaker) : (s.modBreaker f).runActive = s.runActive := rfl
@[simp] theorem modBreaker_runUnderWay (f : Breaker → Breaker) : (s.modBreaker f).runUnderWay = s.runUnderWay := rfl
@[simp] theorem modBreaker_modBreaker (f g : Breaker → Breaker) : (s.modBreaker f).modBreaker g = s.modBreaker fun x => g (f x) := rfl

/-! ### modAmp -/

@[simp] theorem modAmp_pending (f : Amplifier → Amplifier) : (s.modAmp f).pending = s.pending := rfl
@[simp] theorem modAmp_plan (f : Amplifier → Amplifier) : (s.modAmp f).plan = s.plan := rfl
@[simp] theorem modAmp_synth (f : Amplifier → Amplifier) : (s.modAmp f).synth = s.synth := rfl
@[simp] theorem modAmp_engine (f : Amplifier → Amplifier) : (s.modAmp f).engine = s.engine := rfl
@[simp] theorem modAmp_cond (f : Amplifier → Amplifier) : (s.modAmp f).cond = s.cond := rfl
@[simp] theorem modAmp_breaker (f : Amplifier → Amplifier) : (s.modAmp f).breaker = s.breaker := rfl
@[simp] theorem modAmp_amp (f : Amplifier → Amplifier) : (s.modAmp f).amp = f s.amp := rfl
@[simp] theorem modAmp_eval (f : Amplifier → Amplifier) : (s.modAmp f).eval = s.eval := rfl
@[simp] theorem modAmp_link (f : Amplifier → Amplifier) : (s.modAmp f).link = s.link := rfl
@[simp] theorem modAmp_coord (f : Amplifier → Amplifier) : (s.modAmp f).coord = s.coord := rfl
@[simp] theorem modAmp_store (f : Amplifier → Amplifier) : (s.modAmp f).store = s.store := rfl
@[simp] theorem modAmp_gather (f : Amplifier → Amplifier) : (s.modAmp f).gather = s.gather := rfl
@[simp] theorem modAmp_status (f : Amplifier → Amplifier) : (s.modAmp f).status = s.status := rfl
@[simp] theorem modAmp_clock (f : Amplifier → Amplifier) : (s.modAmp f).clock = s.clock := rfl
@[simp] theorem modAmp_supplyFail (f : Amplifier → Amplifier) : (s.modAmp f).supplyFail = s.supplyFail := rfl
@[simp] theorem modAmp_past (f : Amplifier → Amplifier) : (s.modAmp f).past = s.past := rfl
@[simp] theorem modAmp_now (f : Amplifier → Amplifier) : (s.modAmp f).now = s.now := rfl
@[simp] theorem modAmp_header (f : Amplifier → Amplifier) : (s.modAmp f).header = s.header := rfl
@[simp] theorem modAmp_stateItems (f : Amplifier → Amplifier) : (s.modAmp f).stateItems = s.stateItems := rfl
@[simp] theorem modAmp_inputSetup (f : Amplifier → Amplifier) : (s.modAmp f).inputSetup = s.inputSetup := rfl
@[simp] theorem modAmp_breakerSetup (f : Amplifier → Amplifier) : (s.modAmp f).breakerSetup = s.breakerSetup := rfl
@[simp] theorem modAmp_input (f : Amplifier → Amplifier) : (s.modAmp f).input = s.input := rfl
@[simp] theorem modAmp_own (f : Amplifier → Amplifier) : (s.modAmp f).own = s.own := rfl
@[simp] theorem modAmp_runActive (f : Amplifier → Amplifier) : (s.modAmp f).runActive = s.runActive := rfl
@[simp] theorem modAmp_runUnderWay (f : Amplifier → Amplifier) : (s.modAmp f).runUnderWay = s.runUnderWay := rfl
@[simp] theorem modAmp_modAmp (f g : Amplifier → Amplifier) : (s.modAmp f).modAmp g = s.modAmp fun x => g (f x) := rfl

/-! ### modEval -/

@[simp] theorem modEval_pending (f : Evaluator → Evaluator) : (s.modEval f).pending = s.pending := rfl
@[simp] theorem modEval_plan (f : Evaluator → Evaluator) : (s.modEval f).plan = s.plan := rfl
@[simp] theorem modEval_synth (f : Evaluator → Evaluator) : (s.modEval f).synth = s.synth := rfl
@[simp] theorem modEval_engine (f : Evaluator → Evaluator) : (s.modEval f).engine = s.engine := rfl
@[simp] theorem modEval_cond (f : Evaluator → Evaluator) : (s.modEval f).cond = s.cond := rfl
@[simp] theorem modEval_breaker (f : Evaluator → Evaluator) : (s.modEval f).breaker = s.breaker := rfl
@[simp] theorem modEval_amp (f : Evaluator → Evaluator) : (s.modEval f).amp = s.amp := rfl
@[simp] theorem modEval_eval (f : Evaluator → Evaluator) : (s.modEval f).eval = f s.eval := rfl
@[simp] theorem modEval_link (f : Evaluator → Evaluator) : (s.modEval f).link = s.link := rfl
@[simp] theorem modEval_coord (f : Evaluator → Evaluator) : (s.modEval f).coord = s.coord := rfl
@[simp] theorem modEval_store (f : Evaluator → Evaluator) : (s.modEval f).store = s.store := rfl
@[simp] theorem modEval_gather (f : Evaluator → Evaluator) : (s.modEval f).gather = s.gather := rfl
@[simp] theorem modEval_status (f : Evaluator → Evaluator) : (s.modEval f).status = s.status := rfl
@[simp] theorem modEval_clock (f : Evaluator → Evaluator) : (s.modEval f).clock = s.clock := rfl
@[simp] theorem modEval_supplyFail (f : Evaluator → Evaluator) : (s.modEval f).supplyFail = s.supplyFail := rfl
@[simp] theorem modEval_past (f : Evaluator → Evaluator) : (s.modEval f).past = s.past := rfl
@[simp] theorem modEval_now (f : Evaluator → Evaluator) : (s.modEval f).now = s.now := rfl
@[simp] theorem modEval_header (f : Evaluator → Evaluator) : (s.modEval f).header = s.header := rfl
@[simp] theorem modEval_stateItems (f : Evaluator → Evaluator) : (s.modEval f).stateItems = s.stateItems := rfl
@[simp] theorem modEval_inputSetup (f : Evaluator → Evaluator) : (s.modEval f).inputSetup = s.inputSetup := rfl
@[simp] theorem modEval_breakerSetup (f : Evaluator → Evaluator) : (s.modEval f).breakerSetup = s.breakerSetup := rfl
@[simp] theorem modEval_input (f : Evaluator → Evaluator) : (s.modEval f).input = s.input := rfl
@[simp] theorem modEval_own (f : Evaluator → Evaluator) : (s.modEval f).own = s.own := rfl
@[simp] theorem modEval_runActive (f : Evaluator → Evaluator) : (s.modEval f).runActive = s.runActive := rfl
@[simp] theorem modEval_runUnderWay (f : Evaluator → Evaluator) : (s.modEval f).runUnderWay = s.runUnderWay := rfl
@[simp] theorem modEval_modEval (f g : Evaluator → Evaluator) : (s.modEval f).modEval g = s.modEval fun x => g (f x) := rfl

/-! ### modLink -/

@[simp] theorem modLink_pending (f : Link → Link) : (s.modLink f).pending = s.pending := rfl
@[simp] theorem modLink_plan (f : Link → Link) : (s.modLink f).plan = s.plan := rfl
@[simp] theorem modLink_synth (f : Link → Link) : (s.modLink f).synth = s.synth := rfl
@[simp] theorem modLink_engine (f : Link → Link) : (s.modLink f).engine = s.engine := rfl
@[simp] theorem modLink_cond (f : Link → Link) : (s.modLink f).cond = s.cond := rfl
@[simp] theorem modLink_breaker (f : Link → Link) : (s.modLink f).breaker = s.breaker := rfl
@[simp] theorem modLink_amp (f : Link → Link) : (s.modLink f).amp = s.amp := rfl
@[simp] theorem modLink_eval (f : Link → Link) : (s.modLink f).eval = s.eval := rfl
@[simp] theorem modLink_link (f : Link → Link) : (s.modLink f).link = f s.link := rfl
@[simp] theorem modLink_coord (f : Link → Link) : (s.modLink f).coord = s.coord := rfl
@[simp] theorem modLink_store (f : Link → Link) : (s.modLink f).store = s.store := rfl
@[simp] theorem modLink_gather (f : Link → Link) : (s.modLink f).gather = s.gather := rfl
@[simp] theorem modLink_status (f : Link → Link) : (s.modLink f).status = s.status := rfl
@[simp] theorem modLink_clock (f : Link → Link) : (s.modLink f).clock = s.clock := rfl
@[simp] theorem modLink_supplyFail (f : Link → Link) : (s.modLink f).supplyFail = s.supplyFail := rfl
@[simp] theorem modLink_past (f : Link → Link) : (s.modLink f).past = s.past := rfl
@[simp] theorem modLink_now (f : Link → Link) : (s.modLink f).now = s.now := rfl
@[simp] theorem modLink_header (f : Link → Link) : (s.modLink f).header = s.header := rfl
@[simp] theorem modLink_stateItems (f : Link → Link) : (s.modLink f).stateItems = s.stateItems := rfl
@[simp] theorem modLink_inputSetup (f : Link → Link) : (s.modLink f).inputSetup = s.inputSetup := rfl
@[simp] theorem modLink_breakerSetup (f : Link → Link) : (s.modLink f).breakerSetup = s.breakerSetup := rfl
@[simp] theorem modLink_input (f : Link → Link) : (s.modLink f).input = s.input := rfl
@[simp] theorem modLink_runActive (f : Link → Link) : (s.modLink f).runActive = s.runActive := rfl
@[simp] theorem modLink_runUnderWay (f : Link → Link) : (s.modLink f).runUnderWay = s.runUnderWay := rfl
@[simp] theorem modLink_modLink (f g : Link → Link) : (s.modLink f).modLink g = s.modLink fun x => g (f x) := rfl

/-! ### modCoord -/

@[simp] theorem modCoord_pending (f : Coordination → Coordination) : (s.modCoord f).pending = s.pending := rfl
@[simp] theorem modCoord_plan (f : Coordination → Coordination) : (s.modCoord f).plan = s.plan := rfl
@[simp] theorem modCoord_synth (f : Coordination → Coordination) : (s.modCoord f).synth = s.synth := rfl
@[simp] theorem modCoord_engine (f : Coordination → Coordination) : (s.modCoord f).engine = s.engine := rfl
@[simp] theorem modCoord_cond (f : Coordination → Coordination) : (s.modCoord f).cond = s.cond := rfl
@[simp] theorem modCoord_breaker (f : Coordination → Coordination) : (s.modCoord f).breaker = s.breaker := rfl
@[simp] theorem modCoord_amp (f : Coordination → Coordination) : (s.modCoord f).amp = s.amp := rfl
@[simp] theorem modCoord_eval (f : Coordination → Coordination) : (s.modCoord f).eval = s.eval := rfl
@[simp] theorem modCoord_link (f : Coordination → Coordination) : (s.modCoord f).link = s.link := rfl
@[simp] theorem modCoord_coord (f : Coordination → Coordination) : (s.modCoord f).coord = f s.coord := rfl
@[simp] theorem modCoord_store (f : Coordination → Coordination) : (s.modCoord f).store = s.store := rfl
@[simp] theorem modCoord_gather (f : Coordination → Coordination) : (s.modCoord f).gather = s.gather := rfl
@[simp] theorem modCoord_status (f : Coordination → Coordination) : (s.modCoord f).status = s.status := rfl
@[simp] theorem modCoord_clock (f : Coordination → Coordination) : (s.modCoord f).clock = s.clock := rfl
@[simp] theorem modCoord_supplyFail (f : Coordination → Coordination) : (s.modCoord f).supplyFail = s.supplyFail := rfl
@[simp] theorem modCoord_past (f : Coordination → Coordination) : (s.modCoord f).past = s.past := rfl
@[simp] theorem modCoord_now (f : Coordination → Coordination) : (s.modCoord f).now = s.now := rfl
@[simp] theorem modCoord_header (f : Coordination → Coordination) : (s.modCoord f).header = s.header := rfl
@[simp] theorem modCoord_stateItems (f : Coordination → Coordination) : (s.modCoord f).stateItems = s.stateItems := rfl
@[simp] theorem modCoord_inputSetup (f : Coordination → Coordination) : (s.modCoord f).inputSetup = s.inputSetup := rfl
@[simp] theorem modCoord_breakerSetup (f : Coordination → Coordination) : (s.modCoord f).breakerSetup = s.breakerSetup := rfl
@[simp] theorem modCoord_input (f : Coordination → Coordination) : (s.modCoord f).input = s.input := rfl
@[simp] theorem modCoord_own (f : Coordination → Coordination) : (s.modCoord f).own = s.own := rfl
@[simp] theorem modCoord_runActive (f : Coordination → Coordination) : (s.modCoord f).runActive = s.runActive := rfl
@[simp] theorem modCoord_runUnderWay (f : Coordination → Coordination) : (s.modCoord f).runUnderWay = s.runUnderWay := rfl
@[simp] theorem modCoord_modCoord (f g : Coordination → Coordination) : (s.modCoord f).modCoord g = s.modCoord fun x => g (f x) := rfl

/-! ### modStore -/

@[simp] theorem modStore_pending (f : Store → Store) : (s.modStore f).pending = s.pending := rfl
@[simp] theorem modStore_plan (f : Store → Store) : (s.modStore f).plan = s.plan := rfl
@[simp] theorem modStore_synth (f : Store → Store) : (s.modStore f).synth = s.synth := rfl
@[simp] theorem modStore_engine (f : Store → Store) : (s.modStore f).engine = s.engine := rfl
@[simp] theorem modStore_cond (f : Store → Store) : (s.modStore f).cond = s.cond := rfl
@[simp] theorem modStore_breaker (f : Store → Store) : (s.modStore f).breaker = s.breaker := rfl
@[simp] theorem modStore_amp (f : Store → Store) : (s.modStore f).amp = s.amp := rfl
@[simp] theorem modStore_eval (f : Store → Store) : (s.modStore f).eval = s.eval := rfl
@[simp] theorem modStore_link (f : Store → Store) : (s.modStore f).link = s.link := rfl
@[simp] theorem modStore_coord (f : Store → Store) : (s.modStore f).coord = s.coord := rfl
@[simp] theorem modStore_store (f : Store → Store) : (s.modStore f).store = f s.store := rfl
@[simp] theorem modStore_gather (f : Store → Store) : (s.modStore f).gather = s.gather := rfl
@[simp] theorem modStore_status (f : Store → Store) : (s.modStore f).status = s.status := rfl
@[simp] theorem modStore_clock (f : Store → Store) : (s.modStore f).clock = s.clock := rfl
@[simp] theorem modStore_supplyFail (f : Store → Store) : (s.modStore f).supplyFail = s.supplyFail := rfl
@[simp] theorem modStore_past (f : Store → Store) : (s.modStore f).past = s.past := rfl
@[simp] theorem modStore_now (f : Store → Store) : (s.modStore f).now = s.now := rfl
@[simp] theorem modStore_header (f : Store → Store) : (s.modStore f).header = s.header := rfl
@[simp] theorem modStore_stateItems (f : Store → Store) : (s.modStore f).stateItems = s.stateItems := rfl
@[simp] theorem modStore_inputSetup (f : Store → Store) : (s.modStore f).inputSetup = s.inputSetup := rfl
@[simp] theorem modStore_breakerSetup (f : Store → Store) : (s.modStore f).breakerSetup = s.breakerSetup := rfl
@[simp] theorem modStore_input (f : Store → Store) : (s.modStore f).input = s.input := rfl
@[simp] theorem modStore_own (f : Store → Store) : (s.modStore f).own = s.own := rfl
@[simp] theorem modStore_runActive (f : Store → Store) : (s.modStore f).runActive = s.runActive := rfl
@[simp] theorem modStore_runUnderWay (f : Store → Store) : (s.modStore f).runUnderWay = s.runUnderWay := rfl
@[simp] theorem modStore_modStore (f g : Store → Store) : (s.modStore f).modStore g = s.modStore fun x => g (f x) := rfl

/-! ### modGather -/

@[simp] theorem modGather_pending (f : GatherEngine → GatherEngine) : (s.modGather f).pending = s.pending := rfl
@[simp] theorem modGather_plan (f : GatherEngine → GatherEngine) : (s.modGather f).plan = s.plan := rfl
@[simp] theorem modGather_synth (f : GatherEngine → GatherEngine) : (s.modGather f).synth = s.synth := rfl
@[simp] theorem modGather_engine (f : GatherEngine → GatherEngine) : (s.modGather f).engine = s.engine := rfl
@[simp] theorem modGather_cond (f : GatherEngine → GatherEngine) : (s.modGather f).cond = s.cond := rfl
@[simp] theorem modGather_breaker (f : GatherEngine → GatherEngine) : (s.modGather f).breaker = s.breaker := rfl
@[simp] theorem modGather_amp (f : GatherEngine → GatherEngine) : (s.modGather f).amp = s.amp := rfl
@[simp] theorem modGather_eval (f : GatherEngine → GatherEngine) : (s.modGather f).eval = s.eval := rfl
@[simp] theorem modGather_link (f : GatherEngine → GatherEngine) : (s.modGather f).link = s.link := rfl
@[simp] theorem modGather_coord (f : GatherEngine → GatherEngine) : (s.modGather f).coord = s.coord := rfl
@[simp] theorem modGather_store (f : GatherEngine → GatherEngine) : (s.modGather f).store = s.store := rfl
@[simp] theorem modGather_gather (f : GatherEngine → GatherEngine) : (s.modGather f).gather = f s.gather := rfl
@[simp] theorem modGather_status (f : GatherEngine → GatherEngine) : (s.modGather f).status = s.status := rfl
@[simp] theorem modGather_clock (f : GatherEngine → GatherEngine) : (s.modGather f).clock = s.clock := rfl
@[simp] theorem modGather_supplyFail (f : GatherEngine → GatherEngine) : (s.modGather f).supplyFail = s.supplyFail := rfl
@[simp] theorem modGather_past (f : GatherEngine → GatherEngine) : (s.modGather f).past = s.past := rfl
@[simp] theorem modGather_now (f : GatherEngine → GatherEngine) : (s.modGather f).now = s.now := rfl
@[simp] theorem modGather_header (f : GatherEngine → GatherEngine) : (s.modGather f).header = s.header := rfl
@[simp] theorem modGather_stateItems (f : GatherEngine → GatherEngine) : (s.modGather f).stateItems = s.stateItems := rfl
@[simp] theorem modGather_inputSetup (f : GatherEngine → GatherEngine) : (s.modGather f).inputSetup = s.inputSetup := rfl
@[simp] theorem modGather_breakerSetup (f : GatherEngine → GatherEngine) : (s.modGather f).breakerSetup = s.breakerSetup := rfl
@[simp] theorem modGather_input (f : GatherEngine → GatherEngine) : (s.modGather f).input = s.input := rfl
@[simp] theorem modGather_own (f : GatherEngine → GatherEngine) : (s.modGather f).own = s.own := rfl
@[simp] theorem modGather_runActive (f : GatherEngine → GatherEngine) : (s.modGather f).runActive = s.runActive := rfl
@[simp] theorem modGather_runUnderWay (f : GatherEngine → GatherEngine) : (s.modGather f).runUnderWay = s.runUnderWay := rfl
@[simp] theorem modGather_modGather (f g : GatherEngine → GatherEngine) : (s.modGather f).modGather g = s.modGather fun x => g (f x) := rfl

/-! ### modStatus -/

@[simp] theorem modStatus_pending (f : StatusUnit → StatusUnit) : (s.modStatus f).pending = s.pending := rfl
@[simp] theorem modStatus_plan (f : StatusUnit → StatusUnit) : (s.modStatus f).plan = s.plan := rfl
@[simp] theorem modStatus_synth (f : StatusUnit → StatusUnit) : (s.modStatus f).synth = s.synth := rfl
@[simp] theorem modStatus_engine (f : StatusUnit → StatusUnit) : (s.modStatus f).engine = s.engine := rfl
@[simp] theorem modStatus_cond (f : StatusUnit → StatusUnit) : (s.modStatus f).cond = s.cond := rfl
@[simp] theorem modStatus_breaker (f : StatusUnit → StatusUnit) : (s.modStatus f).breaker = s.breaker := rfl
@[simp] theorem modStatus_amp (f : StatusUnit → StatusUnit) : (s.modStatus f).amp = s.amp := rfl
@[simp] theorem modStatus_eval (f : StatusUnit → StatusUnit) : (s.modStatus f).eval = s.eval := rfl
@[simp] theorem modStatus_link (f : StatusUnit → StatusUnit) : (s.modStatus f).link = s.link := rfl
@[simp] theorem modStatus_coord (f : StatusUnit → StatusUnit) : (s.modStatus f).coord = s.coord := rfl
@[simp] theorem modStatus_store (f : StatusUnit → StatusUnit) : (s.modStatus f).store = s.store := rfl
@[simp] theorem modStatus_gather (f : StatusUnit → StatusUnit) : (s.modStatus f).gather = s.gather := rfl
@[simp] theorem modStatus_status (f : StatusUnit → StatusUnit) : (s.modStatus f).status = f s.status := rfl
@[simp] theorem modStatus_clock (f : StatusUnit → StatusUnit) : (s.modStatus f).clock = s.clock := rfl
@[simp] theorem modStatus_supplyFail (f : StatusUnit → StatusUnit) : (s.modStatus f).supplyFail = s.supplyFail := rfl
@[simp] theorem modStatus_past (f : StatusUnit → StatusUnit) : (s.modStatus f).past = s.past := rfl
@[simp] theorem modStatus_now (f : StatusUnit → StatusUnit) : (s.modStatus f).now = s.now := rfl
@[simp] theorem modStatus_header (f : StatusUnit → StatusUnit) : (s.modStatus f).header = s.header := rfl
@[simp] theorem modStatus_stateItems (f : StatusUnit → StatusUnit) : (s.modStatus f).stateItems = s.stateItems := rfl
@[simp] theorem modStatus_inputSetup (f : StatusUnit → StatusUnit) : (s.modStatus f).inputSetup = s.inputSetup := rfl
@[simp] theorem modStatus_breakerSetup (f : StatusUnit → StatusUnit) : (s.modStatus f).breakerSetup = s.breakerSetup := rfl
@[simp] theorem modStatus_input (f : StatusUnit → StatusUnit) : (s.modStatus f).input = s.input := rfl
@[simp] theorem modStatus_own (f : StatusUnit → StatusUnit) : (s.modStatus f).own = s.own := rfl
@[simp] theorem modStatus_runActive (f : StatusUnit → StatusUnit) : (s.modStatus f).runActive = s.runActive := rfl
@[simp] theorem modStatus_runUnderWay (f : StatusUnit → StatusUnit) : (s.modStatus f).runUnderWay = s.runUnderWay := rfl
@[simp] theorem modStatus_modStatus (f g : StatusUnit → StatusUnit) : (s.modStatus f).modStatus g = s.modStatus fun x => g (f x) := rfl

/-! ### modClock -/

@[simp] theorem modClock_pending (f : Clock → Clock) : (s.modClock f).pending = s.pending := rfl
@[simp] theorem modClock_plan (f : Clock → Clock) : (s.modClock f).plan = s.plan := rfl
@[simp] theorem modClock_synth (f : Clock → Clock) : (s.modClock f).synth = s.synth := rfl
@[simp] theorem modClock_engine (f : Clock → Clock) : (s.modClock f).engine = s.engine := rfl
@[simp] theorem modClock_cond (f : Clock → Clock) : (s.modClock f).cond = s.cond := rfl
@[simp] theorem modClock_breaker (f : Clock → Clock) : (s.modClock f).breaker = s.breaker := rfl
@[simp] theorem modClock_amp (f : Clock → Clock) : (s.modClock f).amp = s.amp := rfl
@[simp] theorem modClock_eval (f : Clock → Clock) : (s.modClock f).eval = s.eval := rfl
@[simp] theorem modClock_link (f : Clock → Clock) : (s.modClock f).link = s.link := rfl
@[simp] theorem modClock_coord (f : Clock → Clock) : (s.modClock f).coord = s.coord := rfl
@[simp] theorem modClock_store (f : Clock → Clock) : (s.modClock f).store = s.store := rfl
@[simp] theorem modClock_gather (f : Clock → Clock) : (s.modClock f).gather = s.gather := rfl
@[simp] theorem modClock_status (f : Clock → Clock) : (s.modClock f).status = s.status := rfl
@[simp] theorem modClock_clock (f : Clock → Clock) : (s.modClock f).clock = f s.clock := rfl
@[simp] theorem modClock_supplyFail (f : Clock → Clock) : (s.modClock f).supplyFail = s.supplyFail := rfl
@[simp] theorem modClock_past (f : Clock → Clock) : (s.modClock f).past = s.past := rfl
@[simp] theorem modClock_header (f : Clock → Clock) : (s.modClock f).header = s.header := rfl
@[simp] theorem modClock_stateItems (f : Clock → Clock) : (s.modClock f).stateItems = s.stateItems := rfl
@[simp] theorem modClock_inputSetup (f : Clock → Clock) : (s.modClock f).inputSetup = s.inputSetup := rfl
@[simp] theorem modClock_breakerSetup (f : Clock → Clock) : (s.modClock f).breakerSetup = s.breakerSetup := rfl
@[simp] theorem modClock_input (f : Clock → Clock) : (s.modClock f).input = s.input := rfl
@[simp] theorem modClock_own (f : Clock → Clock) : (s.modClock f).own = s.own := rfl
@[simp] theorem modClock_runActive (f : Clock → Clock) : (s.modClock f).runActive = s.runActive := rfl
@[simp] theorem modClock_runUnderWay (f : Clock → Clock) : (s.modClock f).runUnderWay = s.runUnderWay := rfl
@[simp] theorem modClock_modClock (f g : Clock → Clock) : (s.modClock f).modClock g = s.modClock fun x => g (f x) := rfl

/-! ### withSupplyFail -/

@[simp] theorem withSupplyFail_pending (b : Bool) : (s.withSupplyFail b).pending = s.pending := rfl
@[simp] theorem withSupplyFail_plan (b : Bool) : (s.withSupplyFail b).plan = s.plan := rfl
@[simp] theorem withSupplyFail_synth (b : Bool) : (s.withSupplyFail b).synth = s.synth := rfl
@[simp] theorem withSupplyFail_engine (b : Bool) : (s.withSupplyFail b).engine = s.engine := rfl
@[simp] theorem withSupplyFail_cond (b : Bool) : (s.withSupplyFail b).cond = s.cond := rfl
@[simp] theorem withSupplyFail_breaker (b : Bool) : (s.withSupplyFail b).breaker = s.breaker := rfl
@[simp] theorem withSupplyFail_amp (b : Bool) : (s.withSupplyFail b).amp = s.amp := rfl
@[simp] theorem withSupplyFail_eval (b : Bool) : (s.withSupplyFail b).eval = s.eval := rfl
@[simp] theorem withSupplyFail_link (b : Bool) : (s.withSupplyFail b).link = s.link := rfl
@[simp] theorem withSupplyFail_coord (b : Bool) : (s.withSupplyFail b).coord = s.coord := rfl
@[simp] theorem withSupplyFail_store (b : Bool) : (s.withSupplyFail b).store = s.store := rfl
@[simp] theorem withSupplyFail_gather (b : Bool) : (s.withSupplyFail b).gather = s.gather := rfl
@[simp] theorem withSupplyFail_status (b : Bool) : (s.withSupplyFail b).status = s.status := rfl
@[simp] theorem withSupplyFail_clock (b : Bool) : (s.withSupplyFail b).clock = s.clock := rfl
@[simp] theorem withSupplyFail_supplyFail (b : Bool) : (s.withSupplyFail b).supplyFail = b := rfl
@[simp] theorem withSupplyFail_past (b : Bool) : (s.withSupplyFail b).past = s.past := rfl
@[simp] theorem withSupplyFail_now (b : Bool) : (s.withSupplyFail b).now = s.now := rfl
@[simp] theorem withSupplyFail_header (b : Bool) : (s.withSupplyFail b).header = s.header := rfl
@[simp] theorem withSupplyFail_stateItems (b : Bool) : (s.withSupplyFail b).stateItems = s.stateItems := rfl
@[simp] theorem withSupplyFail_inputSetup (b : Bool) : (s.withSupplyFail b).inputSetup = s.inputSetup := rfl
@[simp] theorem withSupplyFail_breakerSetup (b : Bool) : (s.withSupplyFail b).breakerSetup = s.breakerSetup := rfl
@[simp] theorem withSupplyFail_input (b : Bool) : (s.withSupplyFail b).input = s.input := rfl
@[simp] theorem withSupplyFail_own (b : Bool) : (s.withSupplyFail b).own = s.own := rfl
@[simp] theorem withSupplyFail_runActive (b : Bool) : (s.withSupplyFail b).runActive = s.runActive := rfl
@[simp] theorem withSupplyFail_runUnderWay (b : Bool) : (s.withSupplyFail b).runUnderWay = s.runUnderWay := rfl

/-! ### withPending -/

@[simp] theorem withPending_pending (q : List Instr) : (s.withPending q).pending = q := rfl
@[simp] theorem withPending_plan (q : List Instr) : (s.withPending q).plan = s.plan := rfl
@[simp] theorem withPending_synth (q : List Instr) : (s.withPending q).synth = s.synth := rfl
@[simp] theorem withPending_engine (q : List Instr) : (s.withPending q).engine = s.engine := rfl
@[simp] theorem withPending_cond (q : List Instr) : (s.withPending q).cond = s.cond := rfl
@[simp] theorem withPending_breaker (q : List Instr) : (s.withPending q).breaker = s.breaker := rfl
@[simp] theorem withPending_amp (q : List Instr) : (s.withPending q).amp = s.amp := rfl
@[simp] theorem withPending_eval (q : List Instr) : (s.withPending q).eval = s.eval := rfl
@[simp] theorem withPending_link (q : List Instr) : (s.withPending q).link = s.link := rfl
@[simp] theorem withPending_coord (q : List Instr) : (s.withPending q).coord = s.coord := rfl
@[simp] theorem withPending_store (q : List Instr) : (s.withPending q).store = s.store := rfl
@[simp] theorem withPending_gather (q : List Instr) : (s.withPending q).gather = s.gather := rfl
@[simp] theorem withPending_status (q : List Instr) : (s.withPending q).status = s.status := rfl
@[simp] theorem withPending_clock (q : List Instr) : (s.withPending q).clock = s.clock := rfl
@[simp] theorem withPending_supplyFail (q : List Instr) : (s.withPending q).supplyFail = s.supplyFail := rfl
@[simp] theorem withPending_past (q : List Instr) : (s.withPending q).past = s.past := rfl
@[simp] theorem withPending_now (q : List Instr) : (s.withPending q).now = s.now := rfl
@[simp] theorem withPending_header (q : List Instr) : (s.withPending q).header = s.header := rfl
@[simp] theorem withPending_stateItems (q : List Instr) : (s.withPending q).stateItems = s.stateItems := rfl
@[simp] theorem withPending_inputSetup (q : List Instr) : (s.withPending q).inputSetup = s.inputSetup := rfl
@[simp] theorem withPending_breakerSetup (q : List Instr) : (s.withPending q).breakerSetup = s.breakerSetup := rfl
@[simp] theorem withPending_input (q : List Instr) : (s.withPending q).input = s.input := rfl
@[simp] theorem withPending_own (q : List Instr) : (s.withPending q).own = s.own := rfl
@[simp] theorem withPending_runActive (q : List Instr) : (s.withPending q).runActive = s.runActive := rfl
@[simp] theorem withPending_runUnderWay (q : List Instr) : (s.withPending q).runUnderWay = s.runUnderWay := rfl

/-! ### withPast -/

@[simp] theorem withPast_pending (vs : List CheckView) : (s.withPast vs).pending = s.pending := rfl
@[simp] theorem withPast_plan (vs : List CheckView) : (s.withPast vs).plan = s.plan := rfl
@[simp] theorem withPast_synth (vs : List CheckView) : (s.withPast vs).synth = s.synth := rfl
@[simp] theorem withPast_engine (vs : List CheckView) : (s.withPast vs).engine = s.engine := rfl
@[simp] theorem withPast_cond (vs : List CheckView) : (s.withPast vs).cond = s.cond := rfl
@[simp] theorem withPast_breaker (vs : List CheckView) : (s.withPast vs).breaker = s.breaker := rfl
@[simp] theorem withPast_amp (vs : List CheckView) : (s.withPast vs).amp = s.amp := rfl
@[simp] theorem withPast_eval (vs : List CheckView) : (s.withPast vs).eval = s.eval := rfl
@[simp] theorem withPast_link (vs : List CheckView) : (s.withPast vs).link = s.link := rfl
@[simp] theorem withPast_coord (vs : List CheckView) : (s.withPast vs).coord = s.coord := rfl
@[simp] theorem withPast_store (vs : List CheckView) : (s.withPast vs).store = s.store := rfl
@[simp] theorem withPast_gather (vs : List CheckView) : (s.withPast vs).gather = s.gather := rfl
@[simp] theorem withPast_status (vs : List CheckView) : (s.withPast vs).status = s.status := rfl
@[simp] theorem withPast_clock (vs : List CheckView) : (s.withPast vs).clock = s.clock := rfl
@[simp] theorem withPast_supplyFail (vs : List CheckView) : (s.withPast vs).supplyFail = s.supplyFail := rfl
@[simp] theorem withPast_past (vs : List CheckView) : (s.withPast vs).past = vs := rfl
@[simp] theorem withPast_now (vs : List CheckView) : (s.withPast vs).now = s.now := rfl
@[simp] theorem withPast_header (vs : List CheckView) : (s.withPast vs).header = s.header := rfl
@[simp] theorem withPast_stateItems (vs : List CheckView) : (s.withPast vs).stateItems = s.stateItems := rfl
@[simp] theorem withPast_inputSetup (vs : List CheckView) : (s.withPast vs).inputSetup = s.inputSetup := rfl
@[simp] theorem withPast_breakerSetup (vs : List CheckView) : (s.withPast vs).breakerSetup = s.breakerSetup := rfl
@[simp] theorem withPast_input (vs : List CheckView) : (s.withPast vs).input = s.input := rfl
@[simp] theorem withPast_own (vs : List CheckView) : (s.withPast vs).own = s.own := rfl
@[simp] theorem withPast_runActive (vs : List CheckView) : (s.withPast vs).runActive = s.runActive := rfl
@[simp] theorem withPast_runUnderWay (vs : List CheckView) : (s.withPast vs).runUnderWay = s.runUnderWay := rfl

/-! ### modInput -/

@[simp] theorem modInput_pending (i : InputNo) (f : InputState → InputState) : (s.modInput i f).pending = s.pending := rfl
@[simp] theorem modInput_plan (i : InputNo) (f : InputState → InputState) : (s.modInput i f).plan = s.plan := rfl
@[simp] theorem modInput_synth (i : InputNo) (f : InputState → InputState) : (s.modInput i f).synth = s.synth := rfl
@[simp] theorem modInput_engine (i : InputNo) (f : InputState → InputState) : (s.modInput i f).engine = s.engine := rfl
@[simp] theorem modInput_breaker (i : InputNo) (f : InputState → InputState) : (s.modInput i f).breaker = s.breaker := rfl
@[simp] theorem modInput_amp (i : InputNo) (f : InputState → InputState) : (s.modInput i f).amp = s.amp := rfl
@[simp] theorem modInput_eval (i : InputNo) (f : InputState → InputState) : (s.modInput i f).eval = s.eval := rfl
@[simp] theorem modInput_link (i : InputNo) (f : InputState → InputState) : (s.modInput i f).link = s.link := rfl
@[simp] theorem modInput_coord (i : InputNo) (f : InputState → InputState) : (s.modInput i f).coord = s.coord := rfl
@[simp] theorem modInput_store (i : InputNo) (f : InputState → InputState) : (s.modInput i f).store = s.store := rfl
@[simp] theorem modInput_gather (i : InputNo) (f : InputState → InputState) : (s.modInput i f).gather = s.gather := rfl
@[simp] theorem modInput_status (i : InputNo) (f : InputState → InputState) : (s.modInput i f).status = s.status := rfl
@[simp] theorem modInput_clock (i : InputNo) (f : InputState → InputState) : (s.modInput i f).clock = s.clock := rfl
@[simp] theorem modInput_supplyFail (i : InputNo) (f : InputState → InputState) : (s.modInput i f).supplyFail = s.supplyFail := rfl
@[simp] theorem modInput_past (i : InputNo) (f : InputState → InputState) : (s.modInput i f).past = s.past := rfl
@[simp] theorem modInput_now (i : InputNo) (f : InputState → InputState) : (s.modInput i f).now = s.now := rfl
@[simp] theorem modInput_header (i : InputNo) (f : InputState → InputState) : (s.modInput i f).header = s.header := rfl
@[simp] theorem modInput_stateItems (i : InputNo) (f : InputState → InputState) : (s.modInput i f).stateItems = s.stateItems := rfl
@[simp] theorem modInput_inputSetup (i : InputNo) (f : InputState → InputState) : (s.modInput i f).inputSetup = s.inputSetup := rfl
@[simp] theorem modInput_breakerSetup (i : InputNo) (f : InputState → InputState) : (s.modInput i f).breakerSetup = s.breakerSetup := rfl
@[simp] theorem modInput_own (i : InputNo) (f : InputState → InputState) : (s.modInput i f).own = s.own := rfl
@[simp] theorem modInput_runActive (i : InputNo) (f : InputState → InputState) : (s.modInput i f).runActive = s.runActive := rfl
@[simp] theorem modInput_runUnderWay (i : InputNo) (f : InputState → InputState) : (s.modInput i f).runUnderWay = s.runUnderWay := rfl

/-! ### latch -/

@[simp] theorem latch_pending (f : FaultLatch → FaultLatch) : (s.latch f).pending = s.pending := rfl
@[simp] theorem latch_plan (f : FaultLatch → FaultLatch) : (s.latch f).plan = s.plan := rfl
@[simp] theorem latch_synth (f : FaultLatch → FaultLatch) : (s.latch f).synth = s.synth := rfl
@[simp] theorem latch_engine (f : FaultLatch → FaultLatch) : (s.latch f).engine = s.engine := rfl
@[simp] theorem latch_cond (f : FaultLatch → FaultLatch) : (s.latch f).cond = s.cond := rfl
@[simp] theorem latch_breaker (f : FaultLatch → FaultLatch) : (s.latch f).breaker = s.breaker := rfl
@[simp] theorem latch_amp (f : FaultLatch → FaultLatch) : (s.latch f).amp = s.amp := rfl
@[simp] theorem latch_eval (f : FaultLatch → FaultLatch) : (s.latch f).eval = s.eval := rfl
@[simp] theorem latch_link (f : FaultLatch → FaultLatch) : (s.latch f).link = s.link := rfl
@[simp] theorem latch_coord (f : FaultLatch → FaultLatch) : (s.latch f).coord = s.coord := rfl
@[simp] theorem latch_store (f : FaultLatch → FaultLatch) : (s.latch f).store = s.store := rfl
@[simp] theorem latch_gather (f : FaultLatch → FaultLatch) : (s.latch f).gather = s.gather := rfl
@[simp] theorem latch_clock (f : FaultLatch → FaultLatch) : (s.latch f).clock = s.clock := rfl
@[simp] theorem latch_supplyFail (f : FaultLatch → FaultLatch) : (s.latch f).supplyFail = s.supplyFail := rfl
@[simp] theorem latch_past (f : FaultLatch → FaultLatch) : (s.latch f).past = s.past := rfl
@[simp] theorem latch_now (f : FaultLatch → FaultLatch) : (s.latch f).now = s.now := rfl
@[simp] theorem latch_header (f : FaultLatch → FaultLatch) : (s.latch f).header = s.header := rfl
@[simp] theorem latch_stateItems (f : FaultLatch → FaultLatch) : (s.latch f).stateItems = s.stateItems := rfl
@[simp] theorem latch_inputSetup (f : FaultLatch → FaultLatch) : (s.latch f).inputSetup = s.inputSetup := rfl
@[simp] theorem latch_breakerSetup (f : FaultLatch → FaultLatch) : (s.latch f).breakerSetup = s.breakerSetup := rfl
@[simp] theorem latch_input (f : FaultLatch → FaultLatch) : (s.latch f).input = s.input := rfl
@[simp] theorem latch_own (f : FaultLatch → FaultLatch) : (s.latch f).own = s.own := rfl
@[simp] theorem latch_runActive (f : FaultLatch → FaultLatch) : (s.latch f).runActive = s.runActive := rfl
@[simp] theorem latch_runUnderWay (f : FaultLatch → FaultLatch) : (s.latch f).runUnderWay = s.runUnderWay := rfl

/-! ### countDrop -/

@[simp] theorem countDrop_pending : (s.countDrop).pending = s.pending := rfl
@[simp] theorem countDrop_plan : (s.countDrop).plan = s.plan := rfl
@[simp] theorem countDrop_synth : (s.countDrop).synth = s.synth := rfl
@[simp] theorem countDrop_engine : (s.countDrop).engine = s.engine := rfl
@[simp] theorem countDrop_cond : (s.countDrop).cond = s.cond := rfl
@[simp] theorem countDrop_breaker : (s.countDrop).breaker = s.breaker := rfl
@[simp] theorem countDrop_amp : (s.countDrop).amp = s.amp := rfl
@[simp] theorem countDrop_eval : (s.countDrop).eval = s.eval := rfl
@[simp] theorem countDrop_link : (s.countDrop).link = s.link := rfl
@[simp] theorem countDrop_coord : (s.countDrop).coord = s.coord := rfl
@[simp] theorem countDrop_store : (s.countDrop).store = s.store := rfl
@[simp] theorem countDrop_gather : (s.countDrop).gather = s.gather := rfl
@[simp] theorem countDrop_clock : (s.countDrop).clock = s.clock := rfl
@[simp] theorem countDrop_supplyFail : (s.countDrop).supplyFail = s.supplyFail := rfl
@[simp] theorem countDrop_past : (s.countDrop).past = s.past := rfl
@[simp] theorem countDrop_now : (s.countDrop).now = s.now := rfl
@[simp] theorem countDrop_header : (s.countDrop).header = s.header := rfl
@[simp] theorem countDrop_stateItems : (s.countDrop).stateItems = s.stateItems := rfl
@[simp] theorem countDrop_inputSetup : (s.countDrop).inputSetup = s.inputSetup := rfl
@[simp] theorem countDrop_breakerSetup : (s.countDrop).breakerSetup = s.breakerSetup := rfl
@[simp] theorem countDrop_input : (s.countDrop).input = s.input := rfl
@[simp] theorem countDrop_own : (s.countDrop).own = s.own := rfl
@[simp] theorem countDrop_runActive : (s.countDrop).runActive = s.runActive := rfl
@[simp] theorem countDrop_runUnderWay : (s.countDrop).runUnderWay = s.runUnderWay := rfl

end Sys2Proof.Machine.State
end

