-- ==== Sys2Proof/Laws/FramesBase.lean ====
section
/-! SUPPORT. Frames: for each shared operation of the transmit queue, the store, the samples, the outputs, the
breaker, the evaluator and the poller, one lemma that says what it leaves as it was, block by block and field by
field. -/

namespace Sys2Proof.Machine

/-- A fold of operations keeps what each of them keeps. -/
theorem foldl_keep {α β : Type} (p : State → β) (f : State → α → State) (h : ∀ s a, p (f s a) = p s) (l : List α)
    (s : State) : p (l.foldl f s) = p s := by
  induction l generalizing s with
  | nil => rfl
  | cons a l ih => simp [ih, h]

@[simp] theorem dropEntry_frame (e : TxEntry) (s : State) :
    (dropEntry e s).pending = s.pending ∧ (dropEntry e s).plan = s.plan ∧ (dropEntry e s).synth = s.synth ∧
      (dropEntry e s).engine = s.engine ∧ (dropEntry e s).cond = s.cond ∧ (dropEntry e s).breaker = s.breaker ∧
      (dropEntry e s).amp = s.amp ∧ (dropEntry e s).eval = s.eval ∧ (dropEntry e s).link.straps = s.link.straps ∧
      (dropEntry e s).link.state = s.link.state ∧ (dropEntry e s).link.tx = s.link.tx ∧
      (dropEntry e s).link.nextAge = s.link.nextAge ∧ (dropEntry e s).link.requests = s.link.requests ∧
      (dropEntry e s).link.replySlot = s.link.replySlot ∧ (dropEntry e s).link.outstanding = s.link.outstanding ∧
      (dropEntry e s).link.resync = s.link.resync ∧ (dropEntry e s).link.drive = s.link.drive ∧
      (dropEntry e s).coord = s.coord ∧ (dropEntry e s).store = s.store ∧ (dropEntry e s).gather = s.gather ∧
      (dropEntry e s).clock = s.clock ∧ (dropEntry e s).supplyFail = s.supplyFail ∧
      (dropEntry e s).past = s.past ∧
      (dropEntry e s).now = s.now ∧
      (dropEntry e s).own = s.own ∧ (dropEntry e s).runActive = s.runActive ∧
      (dropEntry e s).runUnderWay = s.runUnderWay ∧ (dropEntry e s).header = s.header := by
  simp [dropEntry, State.own]

@[simp] theorem place_frame (t : TxFrame) (atHead : Bool) (s : State) :
    (place t atHead s).pending = s.pending ∧ (place t atHead s).plan = s.plan ∧ (place t atHead s).synth = s.synth ∧
      (place t atHead s).engine = s.engine ∧ (place t atHead s).cond = s.cond ∧
      (place t atHead s).breaker = s.breaker ∧ (place t atHead s).amp = s.amp ∧ (place t atHead s).eval = s.eval ∧
      (place t atHead s).link.straps = s.link.straps ∧ (place t atHead s).link.state = s.link.state ∧
      (place t atHead s).link.requests = s.link.requests ∧ (place t atHead s).link.replySlot = s.link.replySlot ∧
      (place t atHead s).link.outstanding = s.link.outstanding ∧ (place t atHead s).link.resync = s.link.resync ∧
      (place t atHead s).link.drive = s.link.drive ∧ (place t atHead s).coord = s.coord ∧
      (place t atHead s).store = s.store ∧ (place t atHead s).gather = s.gather ∧
      (place t atHead s).clock = s.clock ∧ (place t atHead s).supplyFail = s.supplyFail ∧
      (place t atHead s).past = s.past ∧
      (place t atHead s).now = s.now ∧ (place t atHead s).own = s.own ∧ (place t atHead s).runActive = s.runActive ∧
      (place t atHead s).runUnderWay = s.runUnderWay ∧ (place t atHead s).header = s.header := by
  unfold place
  dsimp only
  (repeat' split) <;> simp [State.own]

@[simp] theorem withdraw_frame (age : Nat) (s : State) :
    (withdraw age s).pending = s.pending ∧ (withdraw age s).plan = s.plan ∧ (withdraw age s).synth = s.synth ∧
      (withdraw age s).engine = s.engine ∧ (withdraw age s).cond = s.cond ∧ (withdraw age s).breaker = s.breaker ∧
      (withdraw age s).amp = s.amp ∧ (withdraw age s).eval = s.eval ∧ (withdraw age s).link.straps = s.link.straps ∧
      (withdraw age s).link.state = s.link.state ∧ (withdraw age s).link.nextAge = s.link.nextAge ∧
      (withdraw age s).link.requests = s.link.requests ∧ (withdraw age s).link.replySlot = s.link.replySlot ∧
      (withdraw age s).link.outstanding = s.link.outstanding ∧ (withdraw age s).link.resync = s.link.resync ∧
      (withdraw age s).link.drive = s.link.drive ∧ (withdraw age s).link.notices = s.link.notices ∧
      (withdraw age s).coord = s.coord ∧ (withdraw age s).store = s.store ∧ (withdraw age s).gather = s.gather ∧
      (withdraw age s).status = s.status ∧ (withdraw age s).clock = s.clock ∧
      (withdraw age s).supplyFail = s.supplyFail ∧
      (withdraw age s).past = s.past ∧
      (withdraw age s).now = s.now ∧ (withdraw age s).own = s.own ∧
      (withdraw age s).runActive = s.runActive ∧ (withdraw age s).runUnderWay = s.runUnderWay ∧
      (withdraw age s).header = s.header := by
  unfold withdraw
  (repeat' split) <;> simp [State.own]

@[simp] theorem removeEntry_frame (age : Nat) (s : State) :
    (removeEntry age s).pending = s.pending ∧ (removeEntry age s).plan = s.plan ∧
      (removeEntry age s).synth = s.synth ∧ (removeEntry age s).engine = s.engine ∧
      (removeEntry age s).cond = s.cond ∧ (removeEntry age s).breaker = s.breaker ∧
      (removeEntry age s).amp = s.amp ∧ (removeEntry age s).eval = s.eval ∧
      (removeEntry age s).link.straps = s.link.straps ∧ (removeEntry age s).link.state = s.link.state ∧
      (removeEntry age s).link.nextAge = s.link.nextAge ∧ (removeEntry age s).link.requests = s.link.requests ∧
      (removeEntry age s).link.replySlot = s.link.replySlot ∧
      (removeEntry age s).link.outstanding = s.link.outstanding ∧ (removeEntry age s).link.resync = s.link.resync ∧
      (removeEntry age s).link.drive = s.link.drive ∧ (removeEntry age s).link.notices = s.link.notices ∧
      (removeEntry age s).coord = s.coord ∧ (removeEntry age s).store = s.store ∧
      (removeEntry age s).gather = s.gather ∧ (removeEntry age s).status = s.status ∧
      (removeEntry age s).clock = s.clock ∧ (removeEntry age s).supplyFail = s.supplyFail ∧
      (removeEntry age s).past = s.past ∧
      (removeEntry age s).now = s.now ∧ (removeEntry age s).own = s.own ∧
      (removeEntry age s).runActive = s.runActive ∧ (removeEntry age s).runUnderWay = s.runUnderWay ∧
      (removeEntry age s).header = s.header := by
  simp [removeEntry, State.own]

@[simp] theorem tellBegun_frame (age : Nat) (s : State) :
    (tellBegun age s).pending = s.pending ∧ (tellBegun age s).plan = s.plan ∧ (tellBegun age s).synth = s.synth ∧
      (tellBegun age s).engine.runState = s.engine.runState ∧
      (tellBegun age s).engine.runLabel = s.engine.runLabel ∧ (tellBegun age s).engine.visit = s.engine.visit ∧
      (tellBegun age s).engine.visitCount = s.engine.visitCount ∧
      (tellBegun age s).engine.decided = s.engine.decided ∧
      (tellBegun age s).engine.pendingFallback = s.engine.pendingFallback ∧
      (tellBegun age s).engine.firstOperates = s.engine.firstOperates ∧
      (tellBegun age s).engine.timers = s.engine.timers ∧ (tellBegun age s).engine.backstop = s.engine.backstop ∧
      (tellBegun age s).engine.held = s.engine.held ∧ (tellBegun age s).engine.latestVisit = s.engine.latestVisit ∧
      (tellBegun age s).engine.endReason = s.engine.endReason ∧
      (tellBegun age s).engine.lastState = s.engine.lastState ∧
      (tellBegun age s).engine.boLevels = s.engine.boLevels ∧
      (tellBegun age s).engine.boSchedule = s.engine.boSchedule ∧
      (tellBegun age s).engine.boHeld = s.engine.boHeld ∧ (tellBegun age s).cond = s.cond ∧
      (tellBegun age s).breaker = s.breaker ∧ (tellBegun age s).amp = s.amp ∧ (tellBegun age s).eval = s.eval ∧
      (tellBegun age s).link = s.link ∧ (tellBegun age s).coord = s.coord ∧ (tellBegun age s).store = s.store ∧
      (tellBegun age s).gather = s.gather ∧ (tellBegun age s).status = s.status ∧
      (tellBegun age s).clock = s.clock ∧ (tellBegun age s).supplyFail = s.supplyFail ∧
      (tellBegun age s).past = s.past ∧
      (tellBegun age s).now = s.now ∧ (tellBegun age s).own = s.own ∧ (tellBegun age s).runActive = s.runActive ∧
      (tellBegun age s).runUnderWay = s.runUnderWay ∧ (tellBegun age s).header = s.header := by
  simp [tellBegun, State.runActive, State.runUnderWay]

@[simp] theorem contend_frame (rivals : List (BitVec 7)) (s : State) :
    (contend rivals s).pending = s.pending ∧ (contend rivals s).plan = s.plan ∧ (contend rivals s).synth = s.synth ∧
      (contend rivals s).engine.runState = s.engine.runState ∧
      (contend rivals s).engine.runLabel = s.engine.runLabel ∧ (contend rivals s).engine.visit = s.engine.visit ∧
      (contend rivals s).engine.visitCount = s.engine.visitCount ∧
      (contend rivals s).engine.decided = s.engine.decided ∧
      (contend rivals s).engine.pendingFallback = s.engine.pendingFallback ∧
      (contend rivals s).engine.firstOperates = s.engine.firstOperates ∧
      (contend rivals s).engine.timers = s.engine.timers ∧ (contend rivals s).engine.backstop = s.engine.backstop ∧
      (contend rivals s).engine.held = s.engine.held ∧
      (contend rivals s).engine.latestVisit = s.engine.latestVisit ∧
      (contend rivals s).engine.endReason = s.engine.endReason ∧
      (contend rivals s).engine.lastState = s.engine.lastState ∧
      (contend rivals s).engine.boLevels = s.engine.boLevels ∧
      (contend rivals s).engine.boSchedule = s.engine.boSchedule ∧
      (contend rivals s).engine.boHeld = s.engine.boHeld ∧ (contend rivals s).cond = s.cond ∧
      (contend rivals s).breaker = s.breaker ∧ (contend rivals s).amp = s.amp ∧ (contend rivals s).eval = s.eval ∧
      (contend rivals s).link.straps = s.link.straps ∧ (contend rivals s).link.state = s.link.state ∧
      (contend rivals s).link.nextAge = s.link.nextAge ∧ (contend rivals s).link.requests = s.link.requests ∧
      (contend rivals s).link.replySlot = s.link.replySlot ∧
      (contend rivals s).link.outstanding = s.link.outstanding ∧ (contend rivals s).link.resync = s.link.resync ∧
      (contend rivals s).link.drive = s.link.drive ∧ (contend rivals s).link.notices = s.link.notices ∧
      (contend rivals s).coord = s.coord ∧ (contend rivals s).store = s.store ∧
      (contend rivals s).gather = s.gather ∧ (contend rivals s).status = s.status ∧
      (contend rivals s).clock = s.clock ∧ (contend rivals s).supplyFail = s.supplyFail ∧
      (contend rivals s).past = s.past ∧
      (contend rivals s).now = s.now ∧ (contend rivals s).own = s.own ∧ (contend rivals s).runActive = s.runActive ∧
      (contend rivals s).runUnderWay = s.runUnderWay ∧ (contend rivals s).header = s.header := by
  unfold contend
  (repeat' split) <;> simp [State.own, State.runActive, State.runUnderWay]

@[simp] theorem storeEvent_frame (l : Label) (c : Contents) (s : State) :
    (storeEvent l c s).pending = s.pending ∧ (storeEvent l c s).plan = s.plan ∧ (storeEvent l c s).synth = s.synth ∧
      (storeEvent l c s).engine = s.engine ∧ (storeEvent l c s).cond = s.cond ∧
      (storeEvent l c s).breaker = s.breaker ∧ (storeEvent l c s).amp = s.amp ∧ (storeEvent l c s).eval = s.eval ∧
      (storeEvent l c s).link = s.link ∧ (storeEvent l c s).coord = s.coord ∧ (storeEvent l c s).gather = s.gather ∧
      (storeEvent l c s).status = s.status ∧ (storeEvent l c s).clock = s.clock ∧
      (storeEvent l c s).supplyFail = s.supplyFail ∧
      (storeEvent l c s).past = s.past ∧
      (storeEvent l c s).now = s.now ∧
      (storeEvent l c s).own = s.own ∧ (storeEvent l c s).runActive = s.runActive ∧
      (storeEvent l c s).runUnderWay = s.runUnderWay ∧ (storeEvent l c s).header = s.header := by
  unfold storeEvent
  dsimp only
  (repeat' split) <;> simp

@[simp] theorem storeRunEvent_frame (c : Contents) (s : State) :
    (storeRunEvent c s).pending = s.pending ∧ (storeRunEvent c s).plan = s.plan ∧
      (storeRunEvent c s).synth = s.synth ∧ (storeRunEvent c s).engine = s.engine ∧
      (storeRunEvent c s).cond = s.cond ∧ (storeRunEvent c s).breaker = s.breaker ∧
      (storeRunEvent c s).amp = s.amp ∧ (storeRunEvent c s).eval = s.eval ∧ (storeRunEvent c s).link = s.link ∧
      (storeRunEvent c s).coord = s.coord ∧ (storeRunEvent c s).gather = s.gather ∧
      (storeRunEvent c s).status = s.status ∧ (storeRunEvent c s).clock = s.clock ∧
      (storeRunEvent c s).supplyFail = s.supplyFail ∧
      (storeRunEvent c s).past = s.past ∧
      (storeRunEvent c s).now = s.now ∧
      (storeRunEvent c s).own = s.own ∧ (storeRunEvent c s).runActive = s.runActive ∧
      (storeRunEvent c s).runUnderWay = s.runUnderWay ∧ (storeRunEvent c s).header = s.header := by
  unfold storeRunEvent
  (repeat' split) <;> simp

@[simp] theorem storeEvaluation_frame (c : Contents) (s : State) :
    (storeEvaluation c s).pending = s.pending ∧ (storeEvaluation c s).plan = s.plan ∧
      (storeEvaluation c s).synth = s.synth ∧ (storeEvaluation c s).engine = s.engine ∧
      (storeEvaluation c s).cond = s.cond ∧ (storeEvaluation c s).breaker = s.breaker ∧
      (storeEvaluation c s).amp = s.amp ∧ (storeEvaluation c s).eval = s.eval ∧
      (storeEvaluation c s).link = s.link ∧ (storeEvaluation c s).coord = s.coord ∧
      (storeEvaluation c s).gather = s.gather ∧ (storeEvaluation c s).status = s.status ∧
      (storeEvaluation c s).clock = s.clock ∧ (storeEvaluation c s).supplyFail = s.supplyFail ∧
      (storeEvaluation c s).past = s.past ∧
      (storeEvaluation c s).now = s.now ∧ (storeEvaluation c s).own = s.own ∧
      (storeEvaluation c s).runActive = s.runActive ∧ (storeEvaluation c s).runUnderWay = s.runUnderWay ∧
      (storeEvaluation c s).header = s.header := by
  unfold storeEvaluation
  (repeat' split) <;> simp

@[simp] theorem storeSummary_frame (c : Contents) (e : EndState) (s : State) :
    (storeSummary c e s).pending = s.pending ∧ (storeSummary c e s).plan = s.plan ∧
      (storeSummary c e s).synth = s.synth ∧ (storeSummary c e s).engine = s.engine ∧
      (storeSummary c e s).cond = s.cond ∧ (storeSummary c e s).breaker = s.breaker ∧
      (storeSummary c e s).amp = s.amp ∧ (storeSummary c e s).eval = s.eval ∧ (storeSummary c e s).link = s.link ∧
      (storeSummary c e s).coord = s.coord ∧ (storeSummary c e s).gather = s.gather ∧
      (storeSummary c e s).status = s.status ∧ (storeSummary c e s).clock = s.clock ∧
      (storeSummary c e s).supplyFail = s.supplyFail ∧
      (storeSummary c e s).past = s.past ∧
      (storeSummary c e s).now = s.now ∧
      (storeSummary c e s).own = s.own ∧ (storeSummary c e s).runActive = s.runActive ∧
      (storeSummary c e s).runUnderWay = s.runUnderWay ∧ (storeSummary c e s).header = s.header := by
  unfold storeSummary
  (repeat' split) <;> simp

@[simp] theorem sampleVisit_frame (s : State) :
    (sampleVisit s).pending = s.pending ∧ (sampleVisit s).plan = s.plan ∧
      (sampleVisit s).synth.freqWord = s.synth.freqWord ∧ (sampleVisit s).engine = s.engine ∧
      (sampleVisit s).cond = s.cond ∧ (sampleVisit s).breaker.state = s.breaker.state ∧
      (sampleVisit s).breaker.timer = s.breaker.timer ∧ (sampleVisit s).amp = s.amp ∧
      (sampleVisit s).eval = s.eval ∧ (sampleVisit s).link = s.link ∧ (sampleVisit s).coord = s.coord ∧
      (sampleVisit s).store = s.store ∧ (sampleVisit s).gather = s.gather ∧ (sampleVisit s).status = s.status ∧
      (sampleVisit s).clock = s.clock ∧ (sampleVisit s).supplyFail = s.supplyFail ∧
      (sampleVisit s).past = s.past ∧
      (sampleVisit s).now = s.now ∧
      (sampleVisit s).own = s.own ∧ (sampleVisit s).runActive = s.runActive ∧
      (sampleVisit s).runUnderWay = s.runUnderWay ∧ (sampleVisit s).header = s.header := by
  simp [sampleVisit]

@[simp] theorem sampleZero_frame (s : State) :
    (sampleZero s).pending = s.pending ∧ (sampleZero s).plan = s.plan ∧
      (sampleZero s).synth.thetaRef = s.synth.thetaRef ∧ (sampleZero s).synth.freqWord = s.synth.freqWord ∧
      (sampleZero s).synth.sampleIndex = s.synth.sampleIndex ∧ (sampleZero s).engine = s.engine ∧
      (sampleZero s).cond = s.cond ∧ (sampleZero s).breaker = s.breaker ∧ (sampleZero s).amp = s.amp ∧
      (sampleZero s).eval = s.eval ∧ (sampleZero s).link = s.link ∧ (sampleZero s).coord = s.coord ∧
      (sampleZero s).store = s.store ∧ (sampleZero s).gather = s.gather ∧ (sampleZero s).status = s.status ∧
      (sampleZero s).clock = s.clock ∧ (sampleZero s).supplyFail = s.supplyFail ∧
      (sampleZero s).past = s.past ∧
      (sampleZero s).now = s.now ∧
      (sampleZero s).own = s.own ∧ (sampleZero s).runActive = s.runActive ∧
      (sampleZero s).runUnderWay = s.runUnderWay ∧ (sampleZero s).header = s.header := by
  simp [sampleZero]

@[simp] theorem outputsToRest_frame (s : State) :
    (outputsToRest s).pending = s.pending ∧ (outputsToRest s).plan = s.plan ∧ (outputsToRest s).synth = s.synth ∧
      (outputsToRest s).engine.runState = s.engine.runState ∧
      (outputsToRest s).engine.runLabel = s.engine.runLabel ∧ (outputsToRest s).engine.visit = s.engine.visit ∧
      (outputsToRest s).engine.visitCount = s.engine.visitCount ∧
      (outputsToRest s).engine.decided = s.engine.decided ∧
      (outputsToRest s).engine.pendingMark = s.engine.pendingMark ∧
      (outputsToRest s).engine.pendingFallback = s.engine.pendingFallback ∧
      (outputsToRest s).engine.firstOperates = s.engine.firstOperates ∧
      (outputsToRest s).engine.timers = s.engine.timers ∧ (outputsToRest s).engine.backstop = s.engine.backstop ∧
      (outputsToRest s).engine.held = s.engine.held ∧ (outputsToRest s).engine.latestVisit = s.engine.latestVisit ∧
      (outputsToRest s).engine.endReason = s.engine.endReason ∧
      (outputsToRest s).engine.lastState = s.engine.lastState ∧ (outputsToRest s).cond = s.cond ∧
      (outputsToRest s).breaker = s.breaker ∧ (outputsToRest s).amp = s.amp ∧ (outputsToRest s).eval = s.eval ∧
      (outputsToRest s).link = s.link ∧ (outputsToRest s).coord = s.coord ∧ (outputsToRest s).store = s.store ∧
      (outputsToRest s).gather = s.gather ∧ (outputsToRest s).status = s.status ∧
      (outputsToRest s).clock = s.clock ∧ (outputsToRest s).supplyFail = s.supplyFail ∧
      (outputsToRest s).past = s.past ∧
      (outputsToRest s).now = s.now ∧ (outputsToRest s).own = s.own ∧ (outputsToRest s).runActive = s.runActive ∧
      (outputsToRest s).runUnderWay = s.runUnderWay ∧ (outputsToRest s).header = s.header := by
  simp [outputsToRest, State.runActive, State.runUnderWay]

@[simp] theorem driveContacts_frame (s : State) :
    (driveContacts s).pending = s.pending ∧ (driveContacts s).plan = s.plan ∧ (driveContacts s).synth = s.synth ∧
      (driveContacts s).engine.runState = s.engine.runState ∧
      (driveContacts s).engine.runLabel = s.engine.runLabel ∧ (driveContacts s).engine.visit = s.engine.visit ∧
      (driveContacts s).engine.visitCount = s.engine.visitCount ∧
      (driveContacts s).engine.decided = s.engine.decided ∧
      (driveContacts s).engine.pendingMark = s.engine.pendingMark ∧
      (driveContacts s).engine.pendingFallback = s.engine.pendingFallback ∧
      (driveContacts s).engine.firstOperates = s.engine.firstOperates ∧
      (driveContacts s).engine.timers = s.engine.timers ∧ (driveContacts s).engine.backstop = s.engine.backstop ∧
      (driveContacts s).engine.held = s.engine.held ∧ (driveContacts s).engine.latestVisit = s.engine.latestVisit ∧
      (driveContacts s).engine.endReason = s.engine.endReason ∧
      (driveContacts s).engine.lastState = s.engine.lastState ∧
      (driveContacts s).engine.boSchedule = s.engine.boSchedule ∧
      (driveContacts s).engine.boHeld = s.engine.boHeld ∧ (driveContacts s).cond = s.cond ∧
      (driveContacts s).breaker = s.breaker ∧ (driveContacts s).amp = s.amp ∧ (driveContacts s).eval = s.eval ∧
      (driveContacts s).link = s.link ∧ (driveContacts s).coord = s.coord ∧ (driveContacts s).store = s.store ∧
      (driveContacts s).gather = s.gather ∧ (driveContacts s).status = s.status ∧
      (driveContacts s).clock = s.clock ∧ (driveContacts s).supplyFail = s.supplyFail ∧
      (driveContacts s).past = s.past ∧
      (driveContacts s).now = s.now ∧ (driveContacts s).own = s.own ∧ (driveContacts s).runActive = s.runActive ∧
      (driveContacts s).runUnderWay = s.runUnderWay ∧ (driveContacts s).header = s.header := by
  unfold driveContacts
  (repeat' split) <;> simp [State.runActive, State.runUnderWay]

@[simp] theorem resetBreaker_frame (s : State) :
    (resetBreaker s).pending = s.pending ∧ (resetBreaker s).plan = s.plan ∧ (resetBreaker s).synth = s.synth ∧
      (resetBreaker s).engine = s.engine ∧ (resetBreaker s).cond = s.cond ∧ (resetBreaker s).amp = s.amp ∧
      (resetBreaker s).eval = s.eval ∧ (resetBreaker s).link = s.link ∧ (resetBreaker s).coord = s.coord ∧
      (resetBreaker s).store = s.store ∧ (resetBreaker s).gather = s.gather ∧ (resetBreaker s).status = s.status ∧
      (resetBreaker s).clock = s.clock ∧ (resetBreaker s).supplyFail = s.supplyFail ∧
      (resetBreaker s).past = s.past ∧
      (resetBreaker s).now = s.now ∧
      (resetBreaker s).own = s.own ∧ (resetBreaker s).runActive = s.runActive ∧
      (resetBreaker s).runUnderWay = s.runUnderWay ∧ (resetBreaker s).header = s.header := by
  simp [resetBreaker]

@[simp] theorem breakerTo_frame (b : BreakerState) (t : BreakerTimer) (cause : InputNo) (s : State) :
    (breakerTo b t cause s).pending = s.pending ∧ (breakerTo b t cause s).plan = s.plan ∧
      (breakerTo b t cause s).synth = s.synth ∧ (breakerTo b t cause s).engine = s.engine ∧
      (breakerTo b t cause s).cond = s.cond ∧ (breakerTo b t cause s).breaker.forcing = s.breaker.forcing ∧
      (breakerTo b t cause s).amp = s.amp ∧ (breakerTo b t cause s).eval = s.eval ∧
      (breakerTo b t cause s).link = s.link ∧ (breakerTo b t cause s).coord = s.coord ∧
      (breakerTo b t cause s).gather = s.gather ∧ (breakerTo b t cause s).status = s.status ∧
      (breakerTo b t cause s).clock = s.clock ∧ (breakerTo b t cause s).supplyFail = s.supplyFail ∧
      (breakerTo b t cause s).past = s.past ∧
      (breakerTo b t cause s).now = s.now ∧ (breakerTo b t cause s).own = s.own ∧
      (breakerTo b t cause s).runActive = s.runActive ∧ (breakerTo b t cause s).runUnderWay = s.runUnderWay ∧
      (breakerTo b t cause s).header = s.header := by
  simp [breakerTo]

@[simp] theorem breakerOpens_frame (s : State) :
    (breakerOpens s).pending = s.pending ∧ (breakerOpens s).plan = s.plan ∧ (breakerOpens s).synth = s.synth ∧
      (breakerOpens s).engine.runState = s.engine.runState ∧ (breakerOpens s).engine.runLabel = s.engine.runLabel ∧
      (breakerOpens s).engine.visit = s.engine.visit ∧ (breakerOpens s).engine.visitCount = s.engine.visitCount ∧
      (breakerOpens s).engine.decided = s.engine.decided ∧
      (breakerOpens s).engine.pendingMark = s.engine.pendingMark ∧
      (breakerOpens s).engine.pendingFallback = s.engine.pendingFallback ∧
      (breakerOpens s).engine.firstOperates = s.engine.firstOperates ∧
      (breakerOpens s).engine.timers = s.engine.timers ∧ (breakerOpens s).engine.backstop = s.engine.backstop ∧
      (breakerOpens s).engine.held = s.engine.held ∧ (breakerOpens s).engine.latestVisit = s.engine.latestVisit ∧
      (breakerOpens s).engine.endReason = s.engine.endReason ∧
      (breakerOpens s).engine.lastState = s.engine.lastState ∧
      (breakerOpens s).engine.boSchedule = s.engine.boSchedule ∧
      (breakerOpens s).engine.boHeld = s.engine.boHeld ∧ (breakerOpens s).cond = s.cond ∧
      (breakerOpens s).breaker.forcing = s.breaker.forcing ∧ (breakerOpens s).amp = s.amp ∧
      (breakerOpens s).eval = s.eval ∧ (breakerOpens s).link = s.link ∧ (breakerOpens s).coord = s.coord ∧
      (breakerOpens s).gather = s.gather ∧ (breakerOpens s).status = s.status ∧ (breakerOpens s).clock = s.clock ∧
      (breakerOpens s).supplyFail = s.supplyFail ∧
      (breakerOpens s).past = s.past ∧
      (breakerOpens s).now = s.now ∧ (breakerOpens s).own = s.own ∧
      (breakerOpens s).runActive = s.runActive ∧ (breakerOpens s).runUnderWay = s.runUnderWay ∧
      (breakerOpens s).header = s.header := by
  simp [breakerOpens, State.runActive, State.runUnderWay]

@[simp] theorem breakerCloses_frame (cause : InputNo) (s : State) :
    (breakerCloses cause s).pending = s.pending ∧ (breakerCloses cause s).plan = s.plan ∧
      (breakerCloses cause s).synth = s.synth ∧ (breakerCloses cause s).engine.runState = s.engine.runState ∧
      (breakerCloses cause s).engine.runLabel = s.engine.runLabel ∧
      (breakerCloses cause s).engine.visit = s.engine.visit ∧
      (breakerCloses cause s).engine.visitCount = s.engine.visitCount ∧
      (breakerCloses cause s).engine.decided = s.engine.decided ∧
      (breakerCloses cause s).engine.pendingMark = s.engine.pendingMark ∧
      (breakerCloses cause s).engine.pendingFallback = s.engine.pendingFallback ∧
      (breakerCloses cause s).engine.firstOperates = s.engine.firstOperates ∧
      (breakerCloses cause s).engine.timers = s.engine.timers ∧
      (breakerCloses cause s).engine.backstop = s.engine.backstop ∧
      (breakerCloses cause s).engine.held = s.engine.held ∧
      (breakerCloses cause s).engine.latestVisit = s.engine.latestVisit ∧
      (breakerCloses cause s).engine.endReason = s.engine.endReason ∧
      (breakerCloses cause s).engine.lastState = s.engine.lastState ∧
      (breakerCloses cause s).engine.boSchedule = s.engine.boSchedule ∧
      (breakerCloses cause s).engine.boHeld = s.engine.boHeld ∧ (breakerCloses cause s).cond = s.cond ∧
      (breakerCloses cause s).breaker.forcing = s.breaker.forcing ∧ (breakerCloses cause s).amp = s.amp ∧
      (breakerCloses cause s).eval = s.eval ∧ (breakerCloses cause s).link = s.link ∧
      (breakerCloses cause s).coord = s.coord ∧ (breakerCloses cause s).gather = s.gather ∧
      (breakerCloses cause s).status = s.status ∧ (breakerCloses cause s).clock = s.clock ∧
      (breakerCloses cause s).supplyFail = s.supplyFail ∧
      (breakerCloses cause s).past = s.past ∧
      (breakerCloses cause s).now = s.now ∧
      (breakerCloses cause s).own = s.own ∧ (breakerCloses cause s).runActive = s.runActive ∧
      (breakerCloses cause s).runUnderWay = s.runUnderWay ∧ (breakerCloses cause s).header = s.header := by
  simp [breakerCloses, State.runActive, State.runUnderWay]

@[simp] theorem tripOperate_frame (s : State) :
    (tripOperate s).pending = s.pending ∧ (tripOperate s).plan = s.plan ∧ (tripOperate s).synth = s.synth ∧
      (tripOperate s).engine.runState = s.engine.runState ∧ (tripOperate s).engine.runLabel = s.engine.runLabel ∧
      (tripOperate s).engine.visit = s.engine.visit ∧ (tripOperate s).engine.visitCount = s.engine.visitCount ∧
      (tripOperate s).engine.decided = s.engine.decided ∧
      (tripOperate s).engine.pendingMark = s.engine.pendingMark ∧
      (tripOperate s).engine.pendingFallback = s.engine.pendingFallback ∧
      (tripOperate s).engine.firstOperates = s.engine.firstOperates ∧
      (tripOperate s).engine.timers = s.engine.timers ∧ (tripOperate s).engine.backstop = s.engine.backstop ∧
      (tripOperate s).engine.held = s.engine.held ∧ (tripOperate s).engine.latestVisit = s.engine.latestVisit ∧
      (tripOperate s).engine.endReason = s.engine.endReason ∧
      (tripOperate s).engine.lastState = s.engine.lastState ∧
      (tripOperate s).engine.boSchedule = s.engine.boSchedule ∧
      (tripOperate s).engine.boHeld = s.engine.boHeld ∧ (tripOperate s).cond = s.cond ∧
      (tripOperate s).breaker.forcing = s.breaker.forcing ∧ (tripOperate s).amp = s.amp ∧
      (tripOperate s).eval = s.eval ∧ (tripOperate s).link = s.link ∧ (tripOperate s).coord = s.coord ∧
      (tripOperate s).gather = s.gather ∧ (tripOperate s).status = s.status ∧ (tripOperate s).clock = s.clock ∧
      (tripOperate s).supplyFail = s.supplyFail ∧
      (tripOperate s).past = s.past ∧
      (tripOperate s).now = s.now ∧ (tripOperate s).own = s.own ∧
      (tripOperate s).runActive = s.runActive ∧ (tripOperate s).runUnderWay = s.runUnderWay ∧
      (tripOperate s).header = s.header := by
  unfold tripOperate
  (repeat' split) <;> simp [State.runActive, State.runUnderWay]

@[simp] theorem closeOperate_frame (i : InputNo) (s : State) :
    (closeOperate i s).pending = s.pending ∧ (closeOperate i s).plan = s.plan ∧ (closeOperate i s).synth = s.synth ∧
      (closeOperate i s).engine.runState = s.engine.runState ∧
      (closeOperate i s).engine.runLabel = s.engine.runLabel ∧ (closeOperate i s).engine.visit = s.engine.visit ∧
      (closeOperate i s).engine.visitCount = s.engine.visitCount ∧
      (closeOperate i s).engine.decided = s.engine.decided ∧
      (closeOperate i s).engine.pendingMark = s.engine.pendingMark ∧
      (closeOperate i s).engine.pendingFallback = s.engine.pendingFallback ∧
      (closeOperate i s).engine.firstOperates = s.engine.firstOperates ∧
      (closeOperate i s).engine.timers = s.engine.timers ∧ (closeOperate i s).engine.backstop = s.engine.backstop ∧
      (closeOperate i s).engine.held = s.engine.held ∧
      (closeOperate i s).engine.latestVisit = s.engine.latestVisit ∧
      (closeOperate i s).engine.endReason = s.engine.endReason ∧
      (closeOperate i s).engine.lastState = s.engine.lastState ∧
      (closeOperate i s).engine.boSchedule = s.engine.boSchedule ∧
      (closeOperate i s).engine.boHeld = s.engine.boHeld ∧ (closeOperate i s).cond = s.cond ∧
      (closeOperate i s).breaker.forcing = s.breaker.forcing ∧ (closeOperate i s).amp = s.amp ∧
      (closeOperate i s).eval = s.eval ∧ (closeOperate i s).link = s.link ∧ (closeOperate i s).coord = s.coord ∧
      (closeOperate i s).gather = s.gather ∧ (closeOperate i s).status = s.status ∧
      (closeOperate i s).clock = s.clock ∧ (closeOperate i s).supplyFail = s.supplyFail ∧
      (closeOperate i s).past = s.past ∧
      (closeOperate i s).now = s.now ∧ (closeOperate i s).own = s.own ∧ (closeOperate i s).runActive = s.runActive ∧
      (closeOperate i s).runUnderWay = s.runUnderWay ∧ (closeOperate i s).header = s.header := by
  unfold closeOperate
  (repeat' split) <;> simp [State.runActive, State.runUnderWay]

@[simp] theorem breakerTakes_frame (i : InputNo) (dir : Direction) (s : State) :
    (breakerTakes i dir s).pending = s.pending ∧ (breakerTakes i dir s).plan = s.plan ∧
      (breakerTakes i dir s).synth = s.synth ∧ (breakerTakes i dir s).engine.runState = s.engine.runState ∧
      (breakerTakes i dir s).engine.runLabel = s.engine.runLabel ∧
      (breakerTakes i dir s).engine.visit = s.engine.visit ∧
      (breakerTakes i dir s).engine.visitCount = s.engine.visitCount ∧
      (breakerTakes i dir s).engine.decided = s.engine.decided ∧
      (breakerTakes i dir s).engine.pendingMark = s.engine.pendingMark ∧
      (breakerTakes i dir s).engine.pendingFallback = s.engine.pendingFallback ∧
      (breakerTakes i dir s).engine.firstOperates = s.engine.firstOperates ∧
      (breakerTakes i dir s).engine.timers = s.engine.timers ∧
      (breakerTakes i dir s).engine.backstop = s.engine.backstop ∧
      (breakerTakes i dir s).engine.held = s.engine.held ∧
      (breakerTakes i dir s).engine.latestVisit = s.engine.latestVisit ∧
      (breakerTakes i dir s).engine.endReason = s.engine.endReason ∧
      (breakerTakes i dir s).engine.lastState = s.engine.lastState ∧
      (breakerTakes i dir s).engine.boSchedule = s.engine.boSchedule ∧
      (breakerTakes i dir s).engine.boHeld = s.engine.boHeld ∧ (breakerTakes i dir s).cond = s.cond ∧
      (breakerTakes i dir s).breaker.forcing = s.breaker.forcing ∧ (breakerTakes i dir s).amp = s.amp ∧
      (breakerTakes i dir s).eval = s.eval ∧ (breakerTakes i dir s).link = s.link ∧
      (breakerTakes i dir s).coord = s.coord ∧ (breakerTakes i dir s).gather = s.gather ∧
      (breakerTakes i dir s).status = s.status ∧ (breakerTakes i dir s).clock = s.clock ∧
      (breakerTakes i dir s).supplyFail = s.supplyFail ∧
      (breakerTakes i dir s).past = s.past ∧
      (breakerTakes i dir s).now = s.now ∧
      (breakerTakes i dir s).own = s.own ∧ (breakerTakes i dir s).runActive = s.runActive ∧
      (breakerTakes i dir s).runUnderWay = s.runUnderWay ∧ (breakerTakes i dir s).header = s.header := by
  unfold breakerTakes
  (repeat' split) <;> simp [State.runActive, State.runUnderWay]

@[simp] theorem openWorking_frame (s : State) :
    (openWorking s).pending = s.pending ∧ (openWorking s).plan = s.plan ∧ (openWorking s).synth = s.synth ∧
      (openWorking s).engine = s.engine ∧ (openWorking s).cond = s.cond ∧ (openWorking s).breaker = s.breaker ∧
      (openWorking s).amp = s.amp ∧ (openWorking s).eval.pendingList = s.eval.pendingList ∧
      (openWorking s).link = s.link ∧ (openWorking s).coord = s.coord ∧ (openWorking s).store = s.store ∧
      (openWorking s).gather = s.gather ∧ (openWorking s).status = s.status ∧ (openWorking s).clock = s.clock ∧
      (openWorking s).supplyFail = s.supplyFail ∧
      (openWorking s).past = s.past ∧
      (openWorking s).now = s.now ∧ (openWorking s).own = s.own ∧
      (openWorking s).runActive = s.runActive ∧ (openWorking s).runUnderWay = s.runUnderWay ∧
      (openWorking s).header = s.header := by
  simp [openWorking]

@[simp] theorem attributeEdge_frame (i : InputNo) (e : Instant) (s : State) :
    (attributeEdge i e s).pending = s.pending ∧ (attributeEdge i e s).plan = s.plan ∧
      (attributeEdge i e s).synth = s.synth ∧ (attributeEdge i e s).engine = s.engine ∧
      (attributeEdge i e s).cond = s.cond ∧ (attributeEdge i e s).breaker = s.breaker ∧
      (attributeEdge i e s).amp = s.amp ∧ (attributeEdge i e s).link = s.link ∧
      (attributeEdge i e s).coord = s.coord ∧ (attributeEdge i e s).store = s.store ∧
      (attributeEdge i e s).gather = s.gather ∧ (attributeEdge i e s).status = s.status ∧
      (attributeEdge i e s).clock = s.clock ∧ (attributeEdge i e s).supplyFail = s.supplyFail ∧
      (attributeEdge i e s).past = s.past ∧
      (attributeEdge i e s).now = s.now ∧ (attributeEdge i e s).own = s.own ∧
      (attributeEdge i e s).runActive = s.runActive ∧ (attributeEdge i e s).runUnderWay = s.runUnderWay ∧
      (attributeEdge i e s).header = s.header := by
  unfold attributeEdge
  (repeat' split) <;> simp

@[simp] theorem lockoutSeen_frame (i : InputNo) (s : State) :
    (lockoutSeen i s).pending = s.pending ∧ (lockoutSeen i s).plan = s.plan ∧ (lockoutSeen i s).synth = s.synth ∧
      (lockoutSeen i s).engine = s.engine ∧ (lockoutSeen i s).cond = s.cond ∧
      (lockoutSeen i s).breaker = s.breaker ∧ (lockoutSeen i s).amp = s.amp ∧
      (lockoutSeen i s).eval.pendingList = s.eval.pendingList ∧ (lockoutSeen i s).link = s.link ∧
      (lockoutSeen i s).coord = s.coord ∧ (lockoutSeen i s).store = s.store ∧ (lockoutSeen i s).gather = s.gather ∧
      (lockoutSeen i s).status = s.status ∧ (lockoutSeen i s).clock = s.clock ∧
      (lockoutSeen i s).supplyFail = s.supplyFail ∧
      (lockoutSeen i s).past = s.past ∧
      (lockoutSeen i s).now = s.now ∧ (lockoutSeen i s).own = s.own ∧
      (lockoutSeen i s).runActive = s.runActive ∧ (lockoutSeen i s).runUnderWay = s.runUnderWay ∧
      (lockoutSeen i s).header = s.header := by
  simp [lockoutSeen]

@[simp] theorem releaseSeen_frame (i : InputNo) (s : State) :
    (releaseSeen i s).pending = s.pending ∧ (releaseSeen i s).plan = s.plan ∧ (releaseSeen i s).synth = s.synth ∧
      (releaseSeen i s).engine = s.engine ∧ (releaseSeen i s).cond = s.cond ∧
      (releaseSeen i s).breaker = s.breaker ∧ (releaseSeen i s).amp = s.amp ∧
      (releaseSeen i s).eval.pendingList = s.eval.pendingList ∧ (releaseSeen i s).link = s.link ∧
      (releaseSeen i s).coord = s.coord ∧ (releaseSeen i s).store = s.store ∧ (releaseSeen i s).gather = s.gather ∧
      (releaseSeen i s).status = s.status ∧ (releaseSeen i s).clock = s.clock ∧
      (releaseSeen i s).supplyFail = s.supplyFail ∧
      (releaseSeen i s).past = s.past ∧
      (releaseSeen i s).now = s.now ∧ (releaseSeen i s).own = s.own ∧
      (releaseSeen i s).runActive = s.runActive ∧ (releaseSeen i s).runUnderWay = s.runUnderWay ∧
      (releaseSeen i s).header = s.header := by
  unfold releaseSeen
  (repeat' split) <;> simp

@[simp] theorem closeWorking_frame (v : Visit) (exit : Instant) (cause : ExitCause) (s : State) :
    (closeWorking v exit cause s).pending = s.pending ∧ (closeWorking v exit cause s).plan = s.plan ∧
      (closeWorking v exit cause s).synth = s.synth ∧ (closeWorking v exit cause s).engine = s.engine ∧
      (closeWorking v exit cause s).cond = s.cond ∧ (closeWorking v exit cause s).breaker = s.breaker ∧
      (closeWorking v exit cause s).amp = s.amp ∧ (closeWorking v exit cause s).link = s.link ∧
      (closeWorking v exit cause s).coord = s.coord ∧ (closeWorking v exit cause s).store = s.store ∧
      (closeWorking v exit cause s).gather = s.gather ∧ (closeWorking v exit cause s).status = s.status ∧
      (closeWorking v exit cause s).clock = s.clock ∧ (closeWorking v exit cause s).supplyFail = s.supplyFail ∧
      (closeWorking v exit cause s).past = s.past ∧
      (closeWorking v exit cause s).now = s.now ∧ (closeWorking v exit cause s).own = s.own ∧
      (closeWorking v exit cause s).runActive = s.runActive ∧
      (closeWorking v exit cause s).runUnderWay = s.runUnderWay ∧ (closeWorking v exit cause s).header = s.header := by
  simp [closeWorking]

@[simp] theorem evaluateHead_frame (s : State) :
    (evaluateHead s).pending = s.pending ∧ (evaluateHead s).plan = s.plan ∧ (evaluateHead s).synth = s.synth ∧
      (evaluateHead s).engine = s.engine ∧ (evaluateHead s).cond = s.cond ∧ (evaluateHead s).breaker = s.breaker ∧
      (evaluateHead s).amp = s.amp ∧ (evaluateHead s).eval.working = s.eval.working ∧
      (evaluateHead s).link = s.link ∧ (evaluateHead s).coord = s.coord ∧ (evaluateHead s).gather = s.gather ∧
      (evaluateHead s).status = s.status ∧ (evaluateHead s).clock = s.clock ∧
      (evaluateHead s).supplyFail = s.supplyFail ∧
      (evaluateHead s).past = s.past ∧
      (evaluateHead s).now = s.now ∧ (evaluateHead s).own = s.own ∧
      (evaluateHead s).runActive = s.runActive ∧ (evaluateHead s).runUnderWay = s.runUnderWay ∧
      (evaluateHead s).header = s.header := by
  unfold evaluateHead
  (repeat' split) <;> simp

@[simp] theorem evaluateWhileDue_frame (n : Nat) (s : State) :
    (evaluateWhileDue n s).pending = s.pending ∧ (evaluateWhileDue n s).plan = s.plan ∧
      (evaluateWhileDue n s).synth = s.synth ∧ (evaluateWhileDue n s).engine = s.engine ∧
      (evaluateWhileDue n s).cond = s.cond ∧ (evaluateWhileDue n s).breaker = s.breaker ∧
      (evaluateWhileDue n s).amp = s.amp ∧ (evaluateWhileDue n s).eval.working = s.eval.working ∧
      (evaluateWhileDue n s).link = s.link ∧ (evaluateWhileDue n s).coord = s.coord ∧
      (evaluateWhileDue n s).gather = s.gather ∧ (evaluateWhileDue n s).status = s.status ∧
      (evaluateWhileDue n s).clock = s.clock ∧ (evaluateWhileDue n s).supplyFail = s.supplyFail ∧
      (evaluateWhileDue n s).past = s.past ∧
      (evaluateWhileDue n s).now = s.now ∧ (evaluateWhileDue n s).own = s.own ∧
      (evaluateWhileDue n s).runActive = s.runActive ∧ (evaluateWhileDue n s).runUnderWay = s.runUnderWay ∧
      (evaluateWhileDue n s).header = s.header := by
  induction n generalizing s with
  | zero => simp [evaluateWhileDue, State.now, State.own]
  | succ n ih =>
      simp only [evaluateWhileDue]
      (repeat' split) <;> simp [ih]

@[simp] theorem evaluateDue_frame (s : State) :
    (evaluateDue s).pending = s.pending ∧ (evaluateDue s).plan = s.plan ∧ (evaluateDue s).synth = s.synth ∧
      (evaluateDue s).engine = s.engine ∧ (evaluateDue s).cond = s.cond ∧ (evaluateDue s).breaker = s.breaker ∧
      (evaluateDue s).amp = s.amp ∧ (evaluateDue s).eval.working = s.eval.working ∧ (evaluateDue s).link = s.link ∧
      (evaluateDue s).coord = s.coord ∧ (evaluateDue s).gather = s.gather ∧ (evaluateDue s).status = s.status ∧
      (evaluateDue s).clock = s.clock ∧ (evaluateDue s).supplyFail = s.supplyFail ∧
      (evaluateDue s).past = s.past ∧
      (evaluateDue s).now = s.now ∧
      (evaluateDue s).own = s.own ∧ (evaluateDue s).runActive = s.runActive ∧
      (evaluateDue s).runUnderWay = s.runUnderWay ∧ (evaluateDue s).header = s.header := by
  simp [evaluateDue]

@[simp] theorem evaluateTimes_frame (n : Nat) (s : State) :
    (evaluateTimes n s).pending = s.pending ∧ (evaluateTimes n s).plan = s.plan ∧
      (evaluateTimes n s).synth = s.synth ∧ (evaluateTimes n s).engine = s.engine ∧
      (evaluateTimes n s).cond = s.cond ∧ (evaluateTimes n s).breaker = s.breaker ∧
      (evaluateTimes n s).amp = s.amp ∧ (evaluateTimes n s).eval.working = s.eval.working ∧
      (evaluateTimes n s).link = s.link ∧ (evaluateTimes n s).coord = s.coord ∧
      (evaluateTimes n s).gather = s.gather ∧ (evaluateTimes n s).status = s.status ∧
      (evaluateTimes n s).clock = s.clock ∧ (evaluateTimes n s).supplyFail = s.supplyFail ∧
      (evaluateTimes n s).past = s.past ∧
      (evaluateTimes n s).now = s.now ∧ (evaluateTimes n s).own = s.own ∧
      (evaluateTimes n s).runActive = s.runActive ∧ (evaluateTimes n s).runUnderWay = s.runUnderWay ∧
      (evaluateTimes n s).header = s.header := by
  induction n generalizing s with
  | zero => simp [evaluateTimes, State.now, State.own]
  | succ n ih =>
      simp only [evaluateTimes]
      (repeat' split) <;> simp [ih]

@[simp] theorem flushPending_frame (s : State) :
    (flushPending s).pending = s.pending ∧ (flushPending s).plan = s.plan ∧ (flushPending s).synth = s.synth ∧
      (flushPending s).engine = s.engine ∧ (flushPending s).cond = s.cond ∧ (flushPending s).breaker = s.breaker ∧
      (flushPending s).amp = s.amp ∧ (flushPending s).eval.working = s.eval.working ∧
      (flushPending s).link = s.link ∧ (flushPending s).coord = s.coord ∧ (flushPending s).gather = s.gather ∧
      (flushPending s).status = s.status ∧ (flushPending s).clock = s.clock ∧
      (flushPending s).supplyFail = s.supplyFail ∧
      (flushPending s).past = s.past ∧
      (flushPending s).now = s.now ∧ (flushPending s).own = s.own ∧
      (flushPending s).runActive = s.runActive ∧ (flushPending s).runUnderWay = s.runUnderWay ∧
      (flushPending s).header = s.header := by
  simp [flushPending]

@[simp] theorem queueReadyRoll_frame (s : State) :
    (queueReadyRoll s).pending = s.pending ∧ (queueReadyRoll s).plan = s.plan ∧ (queueReadyRoll s).synth = s.synth ∧
      (queueReadyRoll s).engine = s.engine ∧ (queueReadyRoll s).cond = s.cond ∧
      (queueReadyRoll s).breaker = s.breaker ∧ (queueReadyRoll s).amp = s.amp ∧ (queueReadyRoll s).eval = s.eval ∧
      (queueReadyRoll s).link.straps = s.link.straps ∧ (queueReadyRoll s).link.state = s.link.state ∧
      (queueReadyRoll s).link.requests = s.link.requests ∧ (queueReadyRoll s).link.replySlot = s.link.replySlot ∧
      (queueReadyRoll s).link.outstanding = s.link.outstanding ∧ (queueReadyRoll s).link.resync = s.link.resync ∧
      (queueReadyRoll s).link.drive = s.link.drive ∧ (queueReadyRoll s).coord.count = s.coord.count ∧
      (queueReadyRoll s).coord.poller = s.coord.poller ∧ (queueReadyRoll s).coord.nextPoll = s.coord.nextPoll ∧
      (queueReadyRoll s).coord.ownStart = s.coord.ownStart ∧
      (queueReadyRoll s).coord.gatherRoll = s.coord.gatherRoll ∧ (queueReadyRoll s).store = s.store ∧
      (queueReadyRoll s).gather = s.gather ∧ (queueReadyRoll s).clock = s.clock ∧
      (queueReadyRoll s).supplyFail = s.supplyFail ∧
      (queueReadyRoll s).past = s.past ∧
      (queueReadyRoll s).now = s.now ∧
      (queueReadyRoll s).own = s.own ∧ (queueReadyRoll s).runActive = s.runActive ∧
      (queueReadyRoll s).runUnderWay = s.runUnderWay ∧ (queueReadyRoll s).header = s.header := by
  unfold queueReadyRoll
  (repeat' split) <;> simp [State.own]

@[simp] theorem enterPolling_frame (s : State) :
    (enterPolling s).pending = s.pending ∧ (enterPolling s).plan = s.plan ∧ (enterPolling s).synth = s.synth ∧
      (enterPolling s).engine = s.engine ∧ (enterPolling s).cond = s.cond ∧ (enterPolling s).breaker = s.breaker ∧
      (enterPolling s).amp = s.amp ∧ (enterPolling s).eval = s.eval ∧ (enterPolling s).link.straps = s.link.straps ∧
      (enterPolling s).link.state = s.link.state ∧ (enterPolling s).link.requests = s.link.requests ∧
      (enterPolling s).link.replySlot = s.link.replySlot ∧ (enterPolling s).link.outstanding = s.link.outstanding ∧
      (enterPolling s).link.resync = s.link.resync ∧ (enterPolling s).link.drive = s.link.drive ∧
      (enterPolling s).coord.count = s.coord.count ∧ (enterPolling s).coord.ownStart = s.coord.ownStart ∧
      (enterPolling s).coord.gatherRoll = s.coord.gatherRoll ∧ (enterPolling s).store = s.store ∧
      (enterPolling s).gather = s.gather ∧ (enterPolling s).clock = s.clock ∧
      (enterPolling s).supplyFail = s.supplyFail ∧
      (enterPolling s).past = s.past ∧
      (enterPolling s).now = s.now ∧ (enterPolling s).own = s.own ∧
      (enterPolling s).runActive = s.runActive ∧ (enterPolling s).runUnderWay = s.runUnderWay ∧
      (enterPolling s).header = s.header := by
  simp [enterPolling, State.own]

@[simp] theorem pollerMayStart_frame (s : State) :
    (pollerMayStart s).pending = s.pending ∧ (pollerMayStart s).plan = s.plan ∧ (pollerMayStart s).synth = s.synth ∧
      (pollerMayStart s).engine = s.engine ∧ (pollerMayStart s).cond = s.cond ∧
      (pollerMayStart s).breaker = s.breaker ∧ (pollerMayStart s).amp = s.amp ∧ (pollerMayStart s).eval = s.eval ∧
      (pollerMayStart s).link.straps = s.link.straps ∧ (pollerMayStart s).link.state = s.link.state ∧
      (pollerMayStart s).link.requests = s.link.requests ∧ (pollerMayStart s).link.replySlot = s.link.replySlot ∧
      (pollerMayStart s).link.outstanding = s.link.outstanding ∧ (pollerMayStart s).link.resync = s.link.resync ∧
      (pollerMayStart s).link.drive = s.link.drive ∧ (pollerMayStart s).coord.count = s.coord.count ∧
      (pollerMayStart s).coord.ownStart = s.coord.ownStart ∧
      (pollerMayStart s).coord.gatherRoll = s.coord.gatherRoll ∧ (pollerMayStart s).store = s.store ∧
      (pollerMayStart s).gather = s.gather ∧ (pollerMayStart s).clock = s.clock ∧
      (pollerMayStart s).supplyFail = s.supplyFail ∧
      (pollerMayStart s).past = s.past ∧
      (pollerMayStart s).now = s.now ∧
      (pollerMayStart s).own = s.own ∧ (pollerMayStart s).runActive = s.runActive ∧
      (pollerMayStart s).runUnderWay = s.runUnderWay ∧ (pollerMayStart s).header = s.header := by
  unfold pollerMayStart
  (repeat' split) <;> simp [State.own]

@[simp] theorem giveUp_frame (age : Option Nat) (s : State) :
    (giveUp age s).pending = s.pending ∧ (giveUp age s).plan = s.plan ∧ (giveUp age s).synth = s.synth ∧
      (giveUp age s).engine = s.engine ∧ (giveUp age s).cond = s.cond ∧ (giveUp age s).breaker = s.breaker ∧
      (giveUp age s).amp = s.amp ∧ (giveUp age s).eval = s.eval ∧ (giveUp age s).link.straps = s.link.straps ∧
      (giveUp age s).link.state = s.link.state ∧ (giveUp age s).link.nextAge = s.link.nextAge ∧
      (giveUp age s).link.requests = s.link.requests ∧ (giveUp age s).link.replySlot = s.link.replySlot ∧
      (giveUp age s).link.outstanding = s.link.outstanding ∧ (giveUp age s).link.resync = s.link.resync ∧
      (giveUp age s).link.drive = s.link.drive ∧ (giveUp age s).link.notices = s.link.notices ∧
      (giveUp age s).coord = s.coord ∧ (giveUp age s).store = s.store ∧ (giveUp age s).gather = s.gather ∧
      (giveUp age s).status = s.status ∧ (giveUp age s).clock = s.clock ∧ (giveUp age s).supplyFail = s.supplyFail ∧
      (giveUp age s).past = s.past ∧
      (giveUp age s).now = s.now ∧ (giveUp age s).own = s.own ∧ (giveUp age s).runActive = s.runActive ∧
      (giveUp age s).runUnderWay = s.runUnderWay ∧ (giveUp age s).header = s.header := by
  unfold giveUp
  (repeat' split) <;> simp [State.own]

@[simp] theorem pollerOff_frame (s : State) :
    (pollerOff s).pending = s.pending ∧ (pollerOff s).plan = s.plan ∧ (pollerOff s).synth = s.synth ∧
      (pollerOff s).engine = s.engine ∧ (pollerOff s).cond = s.cond ∧ (pollerOff s).breaker = s.breaker ∧
      (pollerOff s).amp = s.amp ∧ (pollerOff s).eval = s.eval ∧ (pollerOff s).link.straps = s.link.straps ∧
      (pollerOff s).link.state = s.link.state ∧ (pollerOff s).link.nextAge = s.link.nextAge ∧
      (pollerOff s).link.requests = s.link.requests ∧ (pollerOff s).link.replySlot = s.link.replySlot ∧
      (pollerOff s).link.outstanding = s.link.outstanding ∧ (pollerOff s).link.resync = s.link.resync ∧
      (pollerOff s).link.drive = s.link.drive ∧ (pollerOff s).link.notices = s.link.notices ∧
      (pollerOff s).coord.count = s.coord.count ∧ (pollerOff s).coord.gatherRoll = s.coord.gatherRoll ∧
      (pollerOff s).store = s.store ∧ (pollerOff s).gather = s.gather ∧ (pollerOff s).status = s.status ∧
      (pollerOff s).clock = s.clock ∧ (pollerOff s).supplyFail = s.supplyFail ∧
      (pollerOff s).past = s.past ∧
      (pollerOff s).now = s.now ∧
      (pollerOff s).own = s.own ∧ (pollerOff s).runActive = s.runActive ∧
      (pollerOff s).runUnderWay = s.runUnderWay ∧ (pollerOff s).header = s.header := by
  simp [pollerOff, State.own]

@[simp] theorem pollerCheck_frame (s : State) :
    (pollerCheck s).pending = s.pending ∧ (pollerCheck s).plan = s.plan ∧ (pollerCheck s).synth = s.synth ∧
      (pollerCheck s).engine = s.engine ∧ (pollerCheck s).cond = s.cond ∧ (pollerCheck s).breaker = s.breaker ∧
      (pollerCheck s).amp = s.amp ∧ (pollerCheck s).eval = s.eval ∧ (pollerCheck s).link.straps = s.link.straps ∧
      (pollerCheck s).link.state = s.link.state ∧ (pollerCheck s).link.nextAge = s.link.nextAge ∧
      (pollerCheck s).link.requests = s.link.requests ∧ (pollerCheck s).link.replySlot = s.link.replySlot ∧
      (pollerCheck s).link.outstanding = s.link.outstanding ∧ (pollerCheck s).link.resync = s.link.resync ∧
      (pollerCheck s).link.drive = s.link.drive ∧ (pollerCheck s).link.notices = s.link.notices ∧
      (pollerCheck s).coord.count = s.coord.count ∧ (pollerCheck s).coord.gatherRoll = s.coord.gatherRoll ∧
      (pollerCheck s).store = s.store ∧ (pollerCheck s).gather = s.gather ∧ (pollerCheck s).status = s.status ∧
      (pollerCheck s).clock = s.clock ∧ (pollerCheck s).supplyFail = s.supplyFail ∧
      (pollerCheck s).past = s.past ∧
      (pollerCheck s).now = s.now ∧
      (pollerCheck s).own = s.own ∧ (pollerCheck s).runActive = s.runActive ∧
      (pollerCheck s).runUnderWay = s.runUnderWay ∧ (pollerCheck s).header = s.header := by
  unfold pollerCheck
  (repeat' split) <;> simp [State.own]

@[simp] theorem pollerMap_frame (answers : BitVec 16) (s : State) :
    (pollerMap answers s).pending = s.pending ∧ (pollerMap answers s).plan = s.plan ∧
      (pollerMap answers s).synth = s.synth ∧ (pollerMap answers s).engine = s.engine ∧
      (pollerMap answers s).cond = s.cond ∧ (pollerMap answers s).breaker = s.breaker ∧
      (pollerMap answers s).amp = s.amp ∧ (pollerMap answers s).eval = s.eval ∧
      (pollerMap answers s).link.straps = s.link.straps ∧ (pollerMap answers s).link.state = s.link.state ∧
      (pollerMap answers s).link.requests = s.link.requests ∧
      (pollerMap answers s).link.replySlot = s.link.replySlot ∧
      (pollerMap answers s).link.outstanding = s.link.outstanding ∧
      (pollerMap answers s).link.resync = s.link.resync ∧ (pollerMap answers s).link.drive = s.link.drive ∧
      (pollerMap answers s).coord.count = s.coord.count ∧
      (pollerMap answers s).coord.gatherRoll = s.coord.gatherRoll ∧ (pollerMap answers s).store = s.store ∧
      (pollerMap answers s).gather = s.gather ∧ (pollerMap answers s).clock = s.clock ∧
      (pollerMap answers s).supplyFail = s.supplyFail ∧
      (pollerMap answers s).past = s.past ∧
      (pollerMap answers s).now = s.now ∧
      (pollerMap answers s).own = s.own ∧ (pollerMap answers s).runActive = s.runActive ∧
      (pollerMap answers s).runUnderWay = s.runUnderWay ∧ (pollerMap answers s).header = s.header := by
  unfold pollerMap
  dsimp only
  (repeat' split) <;> simp [State.own]

@[simp] theorem pollerStartLost_frame (s : State) :
    (pollerStartLost s).pending = s.pending ∧ (pollerStartLost s).plan = s.plan ∧
      (pollerStartLost s).synth = s.synth ∧ (pollerStartLost s).engine = s.engine ∧
      (pollerStartLost s).cond = s.cond ∧ (pollerStartLost s).breaker = s.breaker ∧
      (pollerStartLost s).amp = s.amp ∧ (pollerStartLost s).eval = s.eval ∧
      (pollerStartLost s).link.straps = s.link.straps ∧ (pollerStartLost s).link.state = s.link.state ∧
      (pollerStartLost s).link.nextAge = s.link.nextAge ∧ (pollerStartLost s).link.requests = s.link.requests ∧
      (pollerStartLost s).link.replySlot = s.link.replySlot ∧
      (pollerStartLost s).link.outstanding = s.link.outstanding ∧ (pollerStartLost s).link.resync = s.link.resync ∧
      (pollerStartLost s).link.drive = s.link.drive ∧ (pollerStartLost s).link.notices = s.link.notices ∧
      (pollerStartLost s).coord.count = s.coord.count ∧ (pollerStartLost s).coord.gatherRoll = s.coord.gatherRoll ∧
      (pollerStartLost s).store = s.store ∧ (pollerStartLost s).gather = s.gather ∧
      (pollerStartLost s).status = s.status ∧ (pollerStartLost s).clock = s.clock ∧
      (pollerStartLost s).supplyFail = s.supplyFail ∧
      (pollerStartLost s).past = s.past ∧
      (pollerStartLost s).now = s.now ∧
      (pollerStartLost s).own = s.own ∧ (pollerStartLost s).runActive = s.runActive ∧
      (pollerStartLost s).runUnderWay = s.runUnderWay ∧ (pollerStartLost s).header = s.header := by
  unfold pollerStartLost
  dsimp only
  (repeat' split) <;> simp [State.own]

@[simp] theorem pollNow_frame (s : State) :
    (pollNow s).pending = s.pending ∧ (pollNow s).plan = s.plan ∧ (pollNow s).synth = s.synth ∧
      (pollNow s).engine = s.engine ∧ (pollNow s).cond = s.cond ∧ (pollNow s).breaker = s.breaker ∧
      (pollNow s).amp = s.amp ∧ (pollNow s).eval = s.eval ∧ (pollNow s).link.straps = s.link.straps ∧
      (pollNow s).link.state = s.link.state ∧ (pollNow s).link.requests = s.link.requests ∧
      (pollNow s).link.replySlot = s.link.replySlot ∧ (pollNow s).link.outstanding = s.link.outstanding ∧
      (pollNow s).link.resync = s.link.resync ∧ (pollNow s).link.drive = s.link.drive ∧
      (pollNow s).coord.count = s.coord.count ∧ (pollNow s).coord.poller = s.coord.poller ∧
      (pollNow s).coord.ownStart = s.coord.ownStart ∧ (pollNow s).coord.gatherRoll = s.coord.gatherRoll ∧
      (pollNow s).store = s.store ∧ (pollNow s).gather = s.gather ∧ (pollNow s).clock = s.clock ∧
      (pollNow s).supplyFail = s.supplyFail ∧
      (pollNow s).past = s.past ∧
      (pollNow s).now = s.now ∧ (pollNow s).own = s.own ∧
      (pollNow s).runActive = s.runActive ∧ (pollNow s).runUnderWay = s.runUnderWay ∧ (pollNow s).header = s.header := by
  simp [pollNow, State.own]

end Sys2Proof.Machine
end

