-- ==== Sys2Proof/Laws/FramesEngine.lean ====
section
/-! SUPPORT. Frames: for each shared operation of the Sequence Engine, one lemma that says what it leaves as it was,
block by block and field by field. -/

namespace Sys2Proof.Machine

@[simp] theorem logMark_frame (l : Label) (code : MarkCode) (detection : Instant) (o : FrameOutcome) (at? : Option
    Instant) (s : State) :
    (logMark l code detection o at? s).pending = s.pending ∧ (logMark l code detection o at? s).plan = s.plan ∧
      (logMark l code detection o at? s).synth = s.synth ∧ (logMark l code detection o at? s).engine = s.engine ∧
      (logMark l code detection o at? s).cond = s.cond ∧ (logMark l code detection o at? s).breaker = s.breaker ∧
      (logMark l code detection o at? s).amp = s.amp ∧ (logMark l code detection o at? s).eval = s.eval ∧
      (logMark l code detection o at? s).link = s.link ∧ (logMark l code detection o at? s).coord = s.coord ∧
      (logMark l code detection o at? s).gather = s.gather ∧ (logMark l code detection o at? s).status = s.status ∧
      (logMark l code detection o at? s).clock = s.clock ∧
      (logMark l code detection o at? s).supplyFail = s.supplyFail ∧
      (logMark l code detection o at? s).past = s.past ∧
      (logMark l code detection o at? s).now = s.now ∧ (logMark l code detection o at? s).own = s.own ∧
      (logMark l code detection o at? s).runActive = s.runActive ∧
      (logMark l code detection o at? s).runUnderWay = s.runUnderWay ∧
      (logMark l code detection o at? s).header = s.header := by
  simp [logMark]

@[simp] theorem queueMark_frame (code : MarkCode) (detection : Instant) (s : State) :
    (queueMark code detection s).pending = s.pending ∧ (queueMark code detection s).plan = s.plan ∧
      (queueMark code detection s).synth = s.synth ∧ (queueMark code detection s).engine = s.engine ∧
      (queueMark code detection s).cond = s.cond ∧ (queueMark code detection s).breaker = s.breaker ∧
      (queueMark code detection s).amp = s.amp ∧ (queueMark code detection s).eval = s.eval ∧
      (queueMark code detection s).link.straps = s.link.straps ∧
      (queueMark code detection s).link.state = s.link.state ∧
      (queueMark code detection s).link.requests = s.link.requests ∧
      (queueMark code detection s).link.replySlot = s.link.replySlot ∧
      (queueMark code detection s).link.outstanding = s.link.outstanding ∧
      (queueMark code detection s).link.resync = s.link.resync ∧
      (queueMark code detection s).link.drive = s.link.drive ∧ (queueMark code detection s).coord = s.coord ∧
      (queueMark code detection s).store = s.store ∧ (queueMark code detection s).gather = s.gather ∧
      (queueMark code detection s).clock = s.clock ∧ (queueMark code detection s).supplyFail = s.supplyFail ∧
      (queueMark code detection s).past = s.past ∧
      (queueMark code detection s).now = s.now ∧ (queueMark code detection s).own = s.own ∧
      (queueMark code detection s).runActive = s.runActive ∧
      (queueMark code detection s).runUnderWay = s.runUnderWay ∧ (queueMark code detection s).header = s.header := by
  unfold queueMark
  (repeat' split) <;> simp [State.own]

@[simp] theorem withdrawMark_frame (age : Nat) (l : Label) (code : MarkCode) (detection : Instant) (s : State) :
    (withdrawMark age l code detection s).pending = s.pending ∧
      (withdrawMark age l code detection s).plan = s.plan ∧ (withdrawMark age l code detection s).synth = s.synth ∧
      (withdrawMark age l code detection s).engine = s.engine ∧
      (withdrawMark age l code detection s).cond = s.cond ∧
      (withdrawMark age l code detection s).breaker = s.breaker ∧
      (withdrawMark age l code detection s).amp = s.amp ∧ (withdrawMark age l code detection s).eval = s.eval ∧
      (withdrawMark age l code detection s).link.straps = s.link.straps ∧
      (withdrawMark age l code detection s).link.state = s.link.state ∧
      (withdrawMark age l code detection s).link.nextAge = s.link.nextAge ∧
      (withdrawMark age l code detection s).link.requests = s.link.requests ∧
      (withdrawMark age l code detection s).link.replySlot = s.link.replySlot ∧
      (withdrawMark age l code detection s).link.outstanding = s.link.outstanding ∧
      (withdrawMark age l code detection s).link.resync = s.link.resync ∧
      (withdrawMark age l code detection s).link.drive = s.link.drive ∧
      (withdrawMark age l code detection s).link.notices = s.link.notices ∧
      (withdrawMark age l code detection s).coord = s.coord ∧
      (withdrawMark age l code detection s).gather = s.gather ∧
      (withdrawMark age l code detection s).status = s.status ∧
      (withdrawMark age l code detection s).clock = s.clock ∧
      (withdrawMark age l code detection s).supplyFail = s.supplyFail ∧
      (withdrawMark age l code detection s).past = s.past ∧
      (withdrawMark age l code detection s).now = s.now ∧ (withdrawMark age l code detection s).own = s.own ∧
      (withdrawMark age l code detection s).runActive = s.runActive ∧
      (withdrawMark age l code detection s).runUnderWay = s.runUnderWay ∧
      (withdrawMark age l code detection s).header = s.header := by
  unfold withdrawMark
  (repeat' split) <;> simp [State.own]

@[simp] theorem giveUpMark_frame (s : State) :
    (giveUpMark s).pending = s.pending ∧ (giveUpMark s).plan = s.plan ∧ (giveUpMark s).synth = s.synth ∧
      (giveUpMark s).engine.runState = s.engine.runState ∧ (giveUpMark s).engine.runLabel = s.engine.runLabel ∧
      (giveUpMark s).engine.visit = s.engine.visit ∧ (giveUpMark s).engine.visitCount = s.engine.visitCount ∧
      (giveUpMark s).engine.decided = s.engine.decided ∧
      (giveUpMark s).engine.pendingFallback = s.engine.pendingFallback ∧
      (giveUpMark s).engine.firstOperates = s.engine.firstOperates ∧
      (giveUpMark s).engine.timers = s.engine.timers ∧ (giveUpMark s).engine.backstop = s.engine.backstop ∧
      (giveUpMark s).engine.held = s.engine.held ∧ (giveUpMark s).engine.latestVisit = s.engine.latestVisit ∧
      (giveUpMark s).engine.endReason = s.engine.endReason ∧ (giveUpMark s).engine.lastState = s.engine.lastState ∧
      (giveUpMark s).engine.boLevels = s.engine.boLevels ∧ (giveUpMark s).engine.boSchedule = s.engine.boSchedule ∧
      (giveUpMark s).engine.boHeld = s.engine.boHeld ∧
      (giveUpMark s).cond = s.cond ∧ (giveUpMark s).breaker = s.breaker ∧ (giveUpMark s).amp = s.amp ∧
      (giveUpMark s).eval = s.eval ∧ (giveUpMark s).link.straps = s.link.straps ∧
      (giveUpMark s).link.state = s.link.state ∧ (giveUpMark s).link.nextAge = s.link.nextAge ∧
      (giveUpMark s).link.requests = s.link.requests ∧ (giveUpMark s).link.replySlot = s.link.replySlot ∧
      (giveUpMark s).link.outstanding = s.link.outstanding ∧ (giveUpMark s).link.resync = s.link.resync ∧
      (giveUpMark s).link.drive = s.link.drive ∧ (giveUpMark s).link.notices = s.link.notices ∧
      (giveUpMark s).coord = s.coord ∧ (giveUpMark s).gather = s.gather ∧ (giveUpMark s).status = s.status ∧
      (giveUpMark s).clock = s.clock ∧ (giveUpMark s).supplyFail = s.supplyFail ∧
      (giveUpMark s).past = s.past ∧
      (giveUpMark s).now = s.now ∧
      (giveUpMark s).own = s.own ∧ (giveUpMark s).runActive = s.runActive ∧
      (giveUpMark s).runUnderWay = s.runUnderWay ∧ (giveUpMark s).header = s.header := by
  unfold giveUpMark
  (repeat' split) <;> simp [State.own, State.runActive, State.runUnderWay]

@[simp] theorem withdrawRunMarks_frame (s : State) :
    (withdrawRunMarks s).pending = s.pending ∧ (withdrawRunMarks s).plan = s.plan ∧
      (withdrawRunMarks s).synth = s.synth ∧ (withdrawRunMarks s).engine = s.engine ∧
      (withdrawRunMarks s).cond = s.cond ∧ (withdrawRunMarks s).breaker = s.breaker ∧
      (withdrawRunMarks s).amp = s.amp ∧ (withdrawRunMarks s).eval = s.eval ∧
      (withdrawRunMarks s).link.straps = s.link.straps ∧ (withdrawRunMarks s).link.state = s.link.state ∧
      (withdrawRunMarks s).link.nextAge = s.link.nextAge ∧ (withdrawRunMarks s).link.requests = s.link.requests ∧
      (withdrawRunMarks s).link.replySlot = s.link.replySlot ∧
      (withdrawRunMarks s).link.outstanding = s.link.outstanding ∧
      (withdrawRunMarks s).link.resync = s.link.resync ∧ (withdrawRunMarks s).link.drive = s.link.drive ∧
      (withdrawRunMarks s).link.notices = s.link.notices ∧ (withdrawRunMarks s).coord = s.coord ∧
      (withdrawRunMarks s).gather = s.gather ∧ (withdrawRunMarks s).status = s.status ∧
      (withdrawRunMarks s).clock = s.clock ∧ (withdrawRunMarks s).supplyFail = s.supplyFail ∧
      (withdrawRunMarks s).past = s.past ∧
      (withdrawRunMarks s).now = s.now ∧ (withdrawRunMarks s).own = s.own ∧
      (withdrawRunMarks s).runActive = s.runActive ∧ (withdrawRunMarks s).runUnderWay = s.runUnderWay ∧
      (withdrawRunMarks s).header = s.header := by
  unfold withdrawRunMarks
  refine ⟨foldl_keep (fun s => s.pending) _ (by intros; (repeat' split) <;> simp [State.own]) _ _,
    foldl_keep (fun s => s.plan) _ (by intros; (repeat' split) <;> simp [State.own]) _ _,
    foldl_keep (fun s => s.synth) _ (by intros; (repeat' split) <;> simp [State.own]) _ _,
    foldl_keep (fun s => s.engine) _ (by intros; (repeat' split) <;> simp [State.own]) _ _,
    foldl_keep (fun s => s.cond) _ (by intros; (repeat' split) <;> simp [State.own]) _ _,
    foldl_keep (fun s => s.breaker) _ (by intros; (repeat' split) <;> simp [State.own]) _ _,
    foldl_keep (fun s => s.amp) _ (by intros; (repeat' split) <;> simp [State.own]) _ _,
    foldl_keep (fun s => s.eval) _ (by intros; (repeat' split) <;> simp [State.own]) _ _,
    foldl_keep (fun s => s.link.straps) _ (by intros; (repeat' split) <;> simp [State.own]) _ _,
    foldl_keep (fun s => s.link.state) _ (by intros; (repeat' split) <;> simp [State.own]) _ _,
    foldl_keep (fun s => s.link.nextAge) _ (by intros; (repeat' split) <;> simp [State.own]) _ _,
    foldl_keep (fun s => s.link.requests) _ (by intros; (repeat' split) <;> simp [State.own]) _ _,
    foldl_keep (fun s => s.link.replySlot) _ (by intros; (repeat' split) <;> simp [State.own]) _ _,
    foldl_keep (fun s => s.link.outstanding) _ (by intros; (repeat' split) <;> simp [State.own]) _ _,
    foldl_keep (fun s => s.link.resync) _ (by intros; (repeat' split) <;> simp [State.own]) _ _,
    foldl_keep (fun s => s.link.drive) _ (by intros; (repeat' split) <;> simp [State.own]) _ _,
    foldl_keep (fun s => s.link.notices) _ (by intros; (repeat' split) <;> simp [State.own]) _ _,
    foldl_keep (fun s => s.coord) _ (by intros; (repeat' split) <;> simp [State.own]) _ _,
    foldl_keep (fun s => s.gather) _ (by intros; (repeat' split) <;> simp [State.own]) _ _,
    foldl_keep (fun s => s.status) _ (by intros; (repeat' split) <;> simp [State.own]) _ _,
    foldl_keep (fun s => s.clock) _ (by intros; (repeat' split) <;> simp [State.own]) _ _,
    foldl_keep (fun s => s.supplyFail) _ (by intros; (repeat' split) <;> simp [State.own]) _ _,
    foldl_keep (fun s => s.past) _ (by intros; (repeat' split) <;> simp [State.own]) _ _,
    foldl_keep (fun s => s.now) _ (by intros; (repeat' split) <;> simp [State.own]) _ _,
    foldl_keep (fun s => s.own) _ (by intros; (repeat' split) <;> simp [State.own]) _ _,
    foldl_keep (fun s => s.runActive) _ (by intros; (repeat' split) <;> simp [State.own]) _ _,
    foldl_keep (fun s => s.runUnderWay) _ (by intros; (repeat' split) <;> simp [State.own]) _ _,
    foldl_keep (fun s => s.header) _ (by intros; (repeat' split) <;> simp [State.own]) _ _⟩

@[simp] theorem decideExit_frame (d : DecidedExit) (v : Visit) (fallback : Bool) (s : State) :
    (decideExit d v fallback s).pending = s.pending ∧ (decideExit d v fallback s).plan = s.plan ∧
      (decideExit d v fallback s).synth = s.synth ∧
      (decideExit d v fallback s).engine.runState = s.engine.runState ∧
      (decideExit d v fallback s).engine.runLabel = s.engine.runLabel ∧
      (decideExit d v fallback s).engine.visitCount = s.engine.visitCount ∧
      (decideExit d v fallback s).engine.pendingFallback = s.engine.pendingFallback ∧
      (decideExit d v fallback s).engine.firstOperates = s.engine.firstOperates ∧
      (decideExit d v fallback s).engine.timers = s.engine.timers ∧
      (decideExit d v fallback s).engine.backstop = s.engine.backstop ∧
      (decideExit d v fallback s).engine.held = s.engine.held ∧
      (decideExit d v fallback s).engine.latestVisit = s.engine.latestVisit ∧
      (decideExit d v fallback s).engine.endReason = s.engine.endReason ∧
      (decideExit d v fallback s).engine.lastState = s.engine.lastState ∧
      (decideExit d v fallback s).engine.boLevels = s.engine.boLevels ∧
      (decideExit d v fallback s).engine.boSchedule = s.engine.boSchedule ∧
      (decideExit d v fallback s).engine.boHeld = s.engine.boHeld ∧
      (decideExit d v fallback s).cond = s.cond ∧ (decideExit d v fallback s).breaker = s.breaker ∧
      (decideExit d v fallback s).amp = s.amp ∧ (decideExit d v fallback s).eval = s.eval ∧
      (decideExit d v fallback s).link.straps = s.link.straps ∧
      (decideExit d v fallback s).link.state = s.link.state ∧
      (decideExit d v fallback s).link.nextAge = s.link.nextAge ∧
      (decideExit d v fallback s).link.requests = s.link.requests ∧
      (decideExit d v fallback s).link.replySlot = s.link.replySlot ∧
      (decideExit d v fallback s).link.outstanding = s.link.outstanding ∧
      (decideExit d v fallback s).link.resync = s.link.resync ∧
      (decideExit d v fallback s).link.drive = s.link.drive ∧
      (decideExit d v fallback s).link.notices = s.link.notices ∧ (decideExit d v fallback s).coord = s.coord ∧
      (decideExit d v fallback s).gather = s.gather ∧ (decideExit d v fallback s).clock = s.clock ∧
      (decideExit d v fallback s).supplyFail = s.supplyFail ∧
      (decideExit d v fallback s).past = s.past ∧
      (decideExit d v fallback s).now = s.now ∧
      (decideExit d v fallback s).own = s.own ∧ (decideExit d v fallback s).runActive = s.runActive ∧
      (decideExit d v fallback s).runUnderWay = s.runUnderWay ∧ (decideExit d v fallback s).header = s.header := by
  unfold decideExit
  dsimp only
  (repeat' split) <;> simp [State.own, State.runActive, State.runUnderWay]

@[simp] theorem present_frame (d : Decider) (t : Target) (x : Instant) (fallback : Bool) (s : State) :
    (present d t x fallback s).pending = s.pending ∧ (present d t x fallback s).plan = s.plan ∧
      (present d t x fallback s).synth = s.synth ∧ (present d t x fallback s).engine.runState = s.engine.runState ∧
      (present d t x fallback s).engine.runLabel = s.engine.runLabel ∧
      (present d t x fallback s).engine.visitCount = s.engine.visitCount ∧
      (present d t x fallback s).engine.pendingFallback = s.engine.pendingFallback ∧
      (present d t x fallback s).engine.firstOperates = s.engine.firstOperates ∧
      (present d t x fallback s).engine.timers = s.engine.timers ∧
      (present d t x fallback s).engine.backstop = s.engine.backstop ∧
      (present d t x fallback s).engine.held = s.engine.held ∧
      (present d t x fallback s).engine.latestVisit = s.engine.latestVisit ∧
      (present d t x fallback s).engine.endReason = s.engine.endReason ∧
      (present d t x fallback s).engine.lastState = s.engine.lastState ∧
      (present d t x fallback s).engine.boLevels = s.engine.boLevels ∧
      (present d t x fallback s).engine.boSchedule = s.engine.boSchedule ∧
      (present d t x fallback s).engine.boHeld = s.engine.boHeld ∧
      (present d t x fallback s).cond = s.cond ∧ (present d t x fallback s).breaker = s.breaker ∧
      (present d t x fallback s).amp = s.amp ∧ (present d t x fallback s).eval = s.eval ∧
      (present d t x fallback s).link.straps = s.link.straps ∧
      (present d t x fallback s).link.state = s.link.state ∧
      (present d t x fallback s).link.nextAge = s.link.nextAge ∧
      (present d t x fallback s).link.requests = s.link.requests ∧
      (present d t x fallback s).link.replySlot = s.link.replySlot ∧
      (present d t x fallback s).link.outstanding = s.link.outstanding ∧
      (present d t x fallback s).link.resync = s.link.resync ∧
      (present d t x fallback s).link.drive = s.link.drive ∧
      (present d t x fallback s).link.notices = s.link.notices ∧ (present d t x fallback s).coord = s.coord ∧
      (present d t x fallback s).gather = s.gather ∧ (present d t x fallback s).clock = s.clock ∧
      (present d t x fallback s).supplyFail = s.supplyFail ∧
      (present d t x fallback s).past = s.past ∧
      (present d t x fallback s).now = s.now ∧
      (present d t x fallback s).own = s.own ∧ (present d t x fallback s).runActive = s.runActive ∧
      (present d t x fallback s).runUnderWay = s.runUnderWay ∧ (present d t x fallback s).header = s.header := by
  unfold present
  (repeat' split) <;> simp [State.own, State.runActive, State.runUnderWay]

@[simp] theorem coordinatedCondition_frame (n : SlotNo) (code : MarkCode) (x : Instant) (s : State) :
    (coordinatedCondition n code x s).pending = s.pending ∧ (coordinatedCondition n code x s).plan = s.plan ∧
      (coordinatedCondition n code x s).synth = s.synth ∧
      (coordinatedCondition n code x s).engine.runState = s.engine.runState ∧
      (coordinatedCondition n code x s).engine.runLabel = s.engine.runLabel ∧
      (coordinatedCondition n code x s).engine.visit = s.engine.visit ∧
      (coordinatedCondition n code x s).engine.visitCount = s.engine.visitCount ∧
      (coordinatedCondition n code x s).engine.decided = s.engine.decided ∧
      (coordinatedCondition n code x s).engine.pendingFallback = s.engine.pendingFallback ∧
      (coordinatedCondition n code x s).engine.firstOperates = s.engine.firstOperates ∧
      (coordinatedCondition n code x s).engine.timers = s.engine.timers ∧
      (coordinatedCondition n code x s).engine.backstop = s.engine.backstop ∧
      (coordinatedCondition n code x s).engine.held = s.engine.held ∧
      (coordinatedCondition n code x s).engine.latestVisit = s.engine.latestVisit ∧
      (coordinatedCondition n code x s).engine.endReason = s.engine.endReason ∧
      (coordinatedCondition n code x s).engine.lastState = s.engine.lastState ∧
      (coordinatedCondition n code x s).engine.boLevels = s.engine.boLevels ∧
      (coordinatedCondition n code x s).engine.boSchedule = s.engine.boSchedule ∧
      (coordinatedCondition n code x s).engine.boHeld = s.engine.boHeld ∧
      (coordinatedCondition n code x s).cond = s.cond ∧ (coordinatedCondition n code x s).breaker = s.breaker ∧
      (coordinatedCondition n code x s).amp = s.amp ∧ (coordinatedCondition n code x s).eval = s.eval ∧
      (coordinatedCondition n code x s).link.straps = s.link.straps ∧
      (coordinatedCondition n code x s).link.state = s.link.state ∧
      (coordinatedCondition n code x s).link.requests = s.link.requests ∧
      (coordinatedCondition n code x s).link.replySlot = s.link.replySlot ∧
      (coordinatedCondition n code x s).link.outstanding = s.link.outstanding ∧
      (coordinatedCondition n code x s).link.resync = s.link.resync ∧
      (coordinatedCondition n code x s).link.drive = s.link.drive ∧
      (coordinatedCondition n code x s).coord = s.coord ∧ (coordinatedCondition n code x s).gather = s.gather ∧
      (coordinatedCondition n code x s).clock = s.clock ∧
      (coordinatedCondition n code x s).supplyFail = s.supplyFail ∧
      (coordinatedCondition n code x s).past = s.past ∧
      (coordinatedCondition n code x s).now = s.now ∧
      (coordinatedCondition n code x s).own = s.own ∧ (coordinatedCondition n code x s).runActive = s.runActive ∧
      (coordinatedCondition n code x s).runUnderWay = s.runUnderWay ∧
      (coordinatedCondition n code x s).header = s.header := by
  unfold coordinatedCondition
  (repeat' split) <;> simp [State.own, State.runActive, State.runUnderWay]

@[simp] theorem fireSlot_frame (n : SlotNo) (t : Target) (coord : Option MarkCode) (x : Instant) (s : State) :
    (fireSlot n t coord x s).pending = s.pending ∧ (fireSlot n t coord x s).plan = s.plan ∧
      (fireSlot n t coord x s).synth = s.synth ∧ (fireSlot n t coord x s).engine.runState = s.engine.runState ∧
      (fireSlot n t coord x s).engine.runLabel = s.engine.runLabel ∧
      (fireSlot n t coord x s).engine.visitCount = s.engine.visitCount ∧
      (fireSlot n t coord x s).engine.pendingFallback = s.engine.pendingFallback ∧
      (fireSlot n t coord x s).engine.firstOperates = s.engine.firstOperates ∧
      (fireSlot n t coord x s).engine.timers = s.engine.timers ∧
      (fireSlot n t coord x s).engine.backstop = s.engine.backstop ∧
      (fireSlot n t coord x s).engine.held = s.engine.held ∧
      (fireSlot n t coord x s).engine.latestVisit = s.engine.latestVisit ∧
      (fireSlot n t coord x s).engine.endReason = s.engine.endReason ∧
      (fireSlot n t coord x s).engine.lastState = s.engine.lastState ∧
      (fireSlot n t coord x s).engine.boLevels = s.engine.boLevels ∧
      (fireSlot n t coord x s).engine.boSchedule = s.engine.boSchedule ∧
      (fireSlot n t coord x s).engine.boHeld = s.engine.boHeld ∧ (fireSlot n t coord x s).cond = s.cond ∧
      (fireSlot n t coord x s).breaker = s.breaker ∧ (fireSlot n t coord x s).amp = s.amp ∧
      (fireSlot n t coord x s).eval = s.eval ∧ (fireSlot n t coord x s).link.straps = s.link.straps ∧
      (fireSlot n t coord x s).link.state = s.link.state ∧
      (fireSlot n t coord x s).link.requests = s.link.requests ∧
      (fireSlot n t coord x s).link.replySlot = s.link.replySlot ∧
      (fireSlot n t coord x s).link.outstanding = s.link.outstanding ∧
      (fireSlot n t coord x s).link.resync = s.link.resync ∧ (fireSlot n t coord x s).link.drive = s.link.drive ∧
      (fireSlot n t coord x s).coord = s.coord ∧ (fireSlot n t coord x s).gather = s.gather ∧
      (fireSlot n t coord x s).clock = s.clock ∧ (fireSlot n t coord x s).supplyFail = s.supplyFail ∧
      (fireSlot n t coord x s).past = s.past ∧
      (fireSlot n t coord x s).now = s.now ∧ (fireSlot n t coord x s).own = s.own ∧
      (fireSlot n t coord x s).runActive = s.runActive ∧ (fireSlot n t coord x s).runUnderWay = s.runUnderWay ∧
      (fireSlot n t coord x s).header = s.header := by
  unfold fireSlot
  (repeat' split) <;> simp [State.own, State.runActive, State.runUnderWay]

@[simp] theorem markOutcome_frame (age : Nat) (l : Label) (code : MarkCode) (detection : Instant) (o : FrameOutcome)
    (s : State) :
    (markOutcome age l code detection o s).pending = s.pending ∧
      (markOutcome age l code detection o s).plan = s.plan ∧
      (markOutcome age l code detection o s).synth = s.synth ∧
      (markOutcome age l code detection o s).engine.runState = s.engine.runState ∧
      (markOutcome age l code detection o s).engine.runLabel = s.engine.runLabel ∧
      (markOutcome age l code detection o s).engine.visitCount = s.engine.visitCount ∧
      (markOutcome age l code detection o s).engine.firstOperates = s.engine.firstOperates ∧
      (markOutcome age l code detection o s).engine.timers = s.engine.timers ∧
      (markOutcome age l code detection o s).engine.backstop = s.engine.backstop ∧
      (markOutcome age l code detection o s).engine.held = s.engine.held ∧
      (markOutcome age l code detection o s).engine.latestVisit = s.engine.latestVisit ∧
      (markOutcome age l code detection o s).engine.endReason = s.engine.endReason ∧
      (markOutcome age l code detection o s).engine.lastState = s.engine.lastState ∧
      (markOutcome age l code detection o s).engine.boLevels = s.engine.boLevels ∧
      (markOutcome age l code detection o s).engine.boSchedule = s.engine.boSchedule ∧
      (markOutcome age l code detection o s).engine.boHeld = s.engine.boHeld ∧
      (markOutcome age l code detection o s).cond = s.cond ∧
      (markOutcome age l code detection o s).breaker = s.breaker ∧
      (markOutcome age l code detection o s).amp = s.amp ∧ (markOutcome age l code detection o s).eval = s.eval ∧
      (markOutcome age l code detection o s).link.straps = s.link.straps ∧
      (markOutcome age l code detection o s).link.state = s.link.state ∧
      (markOutcome age l code detection o s).link.nextAge = s.link.nextAge ∧
      (markOutcome age l code detection o s).link.requests = s.link.requests ∧
      (markOutcome age l code detection o s).link.replySlot = s.link.replySlot ∧
      (markOutcome age l code detection o s).link.outstanding = s.link.outstanding ∧
      (markOutcome age l code detection o s).link.resync = s.link.resync ∧
      (markOutcome age l code detection o s).link.drive = s.link.drive ∧
      (markOutcome age l code detection o s).link.notices = s.link.notices ∧
      (markOutcome age l code detection o s).coord = s.coord ∧
      (markOutcome age l code detection o s).gather = s.gather ∧
      (markOutcome age l code detection o s).clock = s.clock ∧
      (markOutcome age l code detection o s).supplyFail = s.supplyFail ∧
      (markOutcome age l code detection o s).past = s.past ∧
      (markOutcome age l code detection o s).now = s.now ∧ (markOutcome age l code detection o s).own = s.own ∧
      (markOutcome age l code detection o s).runActive = s.runActive ∧
      (markOutcome age l code detection o s).runUnderWay = s.runUnderWay ∧
      (markOutcome age l code detection o s).header = s.header := by
  unfold markOutcome
  dsimp only
  (repeat' split) <;> simp [State.own, State.runActive, State.runUnderWay]

@[simp] theorem firstOperateMark_frame (i : InputNo) (s : State) :
    (firstOperateMark i s).pending = s.pending ∧ (firstOperateMark i s).plan = s.plan ∧
      (firstOperateMark i s).synth = s.synth ∧ (firstOperateMark i s).engine.runState = s.engine.runState ∧
      (firstOperateMark i s).engine.runLabel = s.engine.runLabel ∧
      (firstOperateMark i s).engine.visit = s.engine.visit ∧
      (firstOperateMark i s).engine.visitCount = s.engine.visitCount ∧
      (firstOperateMark i s).engine.decided = s.engine.decided ∧
      (firstOperateMark i s).engine.pendingMark = s.engine.pendingMark ∧
      (firstOperateMark i s).engine.pendingFallback = s.engine.pendingFallback ∧
      (firstOperateMark i s).engine.timers = s.engine.timers ∧
      (firstOperateMark i s).engine.backstop = s.engine.backstop ∧
      (firstOperateMark i s).engine.held = s.engine.held ∧
      (firstOperateMark i s).engine.latestVisit = s.engine.latestVisit ∧
      (firstOperateMark i s).engine.endReason = s.engine.endReason ∧
      (firstOperateMark i s).engine.lastState = s.engine.lastState ∧
      (firstOperateMark i s).engine.boLevels = s.engine.boLevels ∧
      (firstOperateMark i s).engine.boSchedule = s.engine.boSchedule ∧
      (firstOperateMark i s).engine.boHeld = s.engine.boHeld ∧ (firstOperateMark i s).cond = s.cond ∧
      (firstOperateMark i s).breaker = s.breaker ∧ (firstOperateMark i s).amp = s.amp ∧
      (firstOperateMark i s).eval = s.eval ∧ (firstOperateMark i s).link.straps = s.link.straps ∧
      (firstOperateMark i s).link.state = s.link.state ∧ (firstOperateMark i s).link.requests = s.link.requests ∧
      (firstOperateMark i s).link.replySlot = s.link.replySlot ∧
      (firstOperateMark i s).link.outstanding = s.link.outstanding ∧
      (firstOperateMark i s).link.resync = s.link.resync ∧ (firstOperateMark i s).link.drive = s.link.drive ∧
      (firstOperateMark i s).coord = s.coord ∧ (firstOperateMark i s).store = s.store ∧
      (firstOperateMark i s).gather = s.gather ∧ (firstOperateMark i s).clock = s.clock ∧
      (firstOperateMark i s).supplyFail = s.supplyFail ∧
      (firstOperateMark i s).past = s.past ∧
      (firstOperateMark i s).now = s.now ∧
      (firstOperateMark i s).own = s.own ∧ (firstOperateMark i s).runActive = s.runActive ∧
      (firstOperateMark i s).runUnderWay = s.runUnderWay ∧ (firstOperateMark i s).header = s.header := by
  unfold firstOperateMark
  (repeat' split) <;> simp [State.own, State.runActive, State.runUnderWay]

@[simp] theorem takeHeld_frame (hs : List HeldOperate) (s : State) :
    (takeHeld hs s).pending = s.pending ∧ (takeHeld hs s).plan = s.plan ∧ (takeHeld hs s).synth = s.synth ∧
      (takeHeld hs s).engine.runState = s.engine.runState ∧ (takeHeld hs s).engine.runLabel = s.engine.runLabel ∧
      (takeHeld hs s).engine.visit = s.engine.visit ∧ (takeHeld hs s).engine.visitCount = s.engine.visitCount ∧
      (takeHeld hs s).engine.decided = s.engine.decided ∧
      (takeHeld hs s).engine.pendingMark = s.engine.pendingMark ∧
      (takeHeld hs s).engine.pendingFallback = s.engine.pendingFallback ∧
      (takeHeld hs s).engine.timers = s.engine.timers ∧ (takeHeld hs s).engine.backstop = s.engine.backstop ∧
      (takeHeld hs s).engine.held = s.engine.held ∧ (takeHeld hs s).engine.latestVisit = s.engine.latestVisit ∧
      (takeHeld hs s).engine.endReason = s.engine.endReason ∧
      (takeHeld hs s).engine.lastState = s.engine.lastState ∧ (takeHeld hs s).engine.boLevels = s.engine.boLevels ∧
      (takeHeld hs s).engine.boSchedule = s.engine.boSchedule ∧
      (takeHeld hs s).engine.boHeld = s.engine.boHeld ∧ (takeHeld hs s).cond = s.cond ∧
      (takeHeld hs s).breaker = s.breaker ∧ (takeHeld hs s).amp = s.amp ∧
      (takeHeld hs s).link.straps = s.link.straps ∧ (takeHeld hs s).link.state = s.link.state ∧
      (takeHeld hs s).link.requests = s.link.requests ∧ (takeHeld hs s).link.replySlot = s.link.replySlot ∧
      (takeHeld hs s).link.outstanding = s.link.outstanding ∧ (takeHeld hs s).link.resync = s.link.resync ∧
      (takeHeld hs s).link.drive = s.link.drive ∧ (takeHeld hs s).coord = s.coord ∧
      (takeHeld hs s).store = s.store ∧ (takeHeld hs s).gather = s.gather ∧ (takeHeld hs s).clock = s.clock ∧
      (takeHeld hs s).supplyFail = s.supplyFail ∧
      (takeHeld hs s).past = s.past ∧
      (takeHeld hs s).now = s.now ∧ (takeHeld hs s).own = s.own ∧
      (takeHeld hs s).runActive = s.runActive ∧ (takeHeld hs s).runUnderWay = s.runUnderWay ∧
      (takeHeld hs s).header = s.header := by
  unfold takeHeld
  refine ⟨foldl_keep (fun s => s.pending) _ (by intros; (repeat' split) <;> simp [State.own, State.runActive, State.runUnderWay]) _ _,
    foldl_keep (fun s => s.plan) _ (by intros; (repeat' split) <;> simp [State.own, State.runActive, State.runUnderWay]) _ _,
    foldl_keep (fun s => s.synth) _ (by intros; (repeat' split) <;> simp [State.own, State.runActive, State.runUnderWay]) _ _,
    foldl_keep (fun s => s.engine.runState) _ (by intros; (repeat' split) <;> simp [State.own, State.runActive, State.runUnderWay]) _ _,
    foldl_keep (fun s => s.engine.runLabel) _ (by intros; (repeat' split) <;> simp [State.own, State.runActive, State.runUnderWay]) _ _,
    foldl_keep (fun s => s.engine.visit) _ (by intros; (repeat' split) <;> simp [State.own, State.runActive, State.runUnderWay]) _ _,
    foldl_keep (fun s => s.engine.visitCount) _ (by intros; (repeat' split) <;> simp [State.own, State.runActive, State.runUnderWay]) _ _,
    foldl_keep (fun s => s.engine.decided) _ (by intros; (repeat' split) <;> simp [State.own, State.runActive, State.runUnderWay]) _ _,
    foldl_keep (fun s => s.engine.pendingMark) _ (by intros; (repeat' split) <;> simp [State.own, State.runActive, State.runUnderWay]) _ _,
    foldl_keep (fun s => s.engine.pendingFallback) _ (by intros; (repeat' split) <;> simp [State.own, State.runActive, State.runUnderWay]) _ _,
    foldl_keep (fun s => s.engine.timers) _ (by intros; (repeat' split) <;> simp [State.own, State.runActive, State.runUnderWay]) _ _,
    foldl_keep (fun s => s.engine.backstop) _ (by intros; (repeat' split) <;> simp [State.own, State.runActive, State.runUnderWay]) _ _,
    foldl_keep (fun s => s.engine.held) _ (by intros; (repeat' split) <;> simp [State.own, State.runActive, State.runUnderWay]) _ _,
    foldl_keep (fun s => s.engine.latestVisit) _ (by intros; (repeat' split) <;> simp [State.own, State.runActive, State.runUnderWay]) _ _,
    foldl_keep (fun s => s.engine.endReason) _ (by intros; (repeat' split) <;> simp [State.own, State.runActive, State.runUnderWay]) _ _,
    foldl_keep (fun s => s.engine.lastState) _ (by intros; (repeat' split) <;> simp [State.own, State.runActive, State.runUnderWay]) _ _,
    foldl_keep (fun s => s.engine.boLevels) _ (by intros; (repeat' split) <;> simp [State.own, State.runActive, State.runUnderWay]) _ _,
    foldl_keep (fun s => s.engine.boSchedule) _ (by intros; (repeat' split) <;> simp [State.own, State.runActive, State.runUnderWay]) _ _,
    foldl_keep (fun s => s.engine.boHeld) _ (by intros; (repeat' split) <;> simp [State.own, State.runActive, State.runUnderWay]) _ _,
    foldl_keep (fun s => s.cond) _ (by intros; (repeat' split) <;> simp [State.own, State.runActive, State.runUnderWay]) _ _,
    foldl_keep (fun s => s.breaker) _ (by intros; (repeat' split) <;> simp [State.own, State.runActive, State.runUnderWay]) _ _,
    foldl_keep (fun s => s.amp) _ (by intros; (repeat' split) <;> simp [State.own, State.runActive, State.runUnderWay]) _ _,
    foldl_keep (fun s => s.link.straps) _ (by intros; (repeat' split) <;> simp [State.own, State.runActive, State.runUnderWay]) _ _,
    foldl_keep (fun s => s.link.state) _ (by intros; (repeat' split) <;> simp [State.own, State.runActive, State.runUnderWay]) _ _,
    foldl_keep (fun s => s.link.requests) _ (by intros; (repeat' split) <;> simp [State.own, State.runActive, State.runUnderWay]) _ _,
    foldl_keep (fun s => s.link.replySlot) _ (by intros; (repeat' split) <;> simp [State.own, State.runActive, State.runUnderWay]) _ _,
    foldl_keep (fun s => s.link.outstanding) _ (by intros; (repeat' split) <;> simp [State.own, State.runActive, State.runUnderWay]) _ _,
    foldl_keep (fun s => s.link.resync) _ (by intros; (repeat' split) <;> simp [State.own, State.runActive, State.runUnderWay]) _ _,
    foldl_keep (fun s => s.link.drive) _ (by intros; (repeat' split) <;> simp [State.own, State.runActive, State.runUnderWay]) _ _,
    foldl_keep (fun s => s.coord) _ (by intros; (repeat' split) <;> simp [State.own, State.runActive, State.runUnderWay]) _ _,
    foldl_keep (fun s => s.store) _ (by intros; (repeat' split) <;> simp [State.own, State.runActive, State.runUnderWay]) _ _,
    foldl_keep (fun s => s.gather) _ (by intros; (repeat' split) <;> simp [State.own, State.runActive, State.runUnderWay]) _ _,
    foldl_keep (fun s => s.clock) _ (by intros; (repeat' split) <;> simp [State.own, State.runActive, State.runUnderWay]) _ _,
    foldl_keep (fun s => s.supplyFail) _ (by intros; (repeat' split) <;> simp [State.own, State.runActive, State.runUnderWay]) _ _,
    foldl_keep (fun s => s.past) _ (by intros; (repeat' split) <;> simp [State.own, State.runActive, State.runUnderWay]) _ _,
    foldl_keep (fun s => s.now) _ (by intros; (repeat' split) <;> simp [State.own, State.runActive, State.runUnderWay]) _ _,
    foldl_keep (fun s => s.own) _ (by intros; (repeat' split) <;> simp [State.own, State.runActive, State.runUnderWay]) _ _,
    foldl_keep (fun s => s.runActive) _ (by intros; (repeat' split) <;> simp [State.own, State.runActive, State.runUnderWay]) _ _,
    foldl_keep (fun s => s.runUnderWay) _ (by intros; (repeat' split) <;> simp [State.own, State.runActive, State.runUnderWay]) _ _,
    foldl_keep (fun s => s.header) _ (by intros; (repeat' split) <;> simp [State.own, State.runActive, State.runUnderWay]) _ _⟩

@[simp] theorem resolveHeld_frame (s : State) :
    (resolveHeld s).pending = s.pending ∧ (resolveHeld s).plan = s.plan ∧ (resolveHeld s).synth = s.synth ∧
      (resolveHeld s).engine.runState = s.engine.runState ∧ (resolveHeld s).engine.runLabel = s.engine.runLabel ∧
      (resolveHeld s).engine.visit = s.engine.visit ∧ (resolveHeld s).engine.visitCount = s.engine.visitCount ∧
      (resolveHeld s).engine.decided = s.engine.decided ∧
      (resolveHeld s).engine.pendingMark = s.engine.pendingMark ∧
      (resolveHeld s).engine.pendingFallback = s.engine.pendingFallback ∧
      (resolveHeld s).engine.timers = s.engine.timers ∧ (resolveHeld s).engine.backstop = s.engine.backstop ∧
      (resolveHeld s).engine.latestVisit = s.engine.latestVisit ∧
      (resolveHeld s).engine.endReason = s.engine.endReason ∧
      (resolveHeld s).engine.lastState = s.engine.lastState ∧ (resolveHeld s).engine.boLevels = s.engine.boLevels ∧
      (resolveHeld s).engine.boSchedule = s.engine.boSchedule ∧
      (resolveHeld s).engine.boHeld = s.engine.boHeld ∧ (resolveHeld s).cond = s.cond ∧
      (resolveHeld s).breaker = s.breaker ∧ (resolveHeld s).amp = s.amp ∧
      (resolveHeld s).link.straps = s.link.straps ∧ (resolveHeld s).link.state = s.link.state ∧
      (resolveHeld s).link.requests = s.link.requests ∧ (resolveHeld s).link.replySlot = s.link.replySlot ∧
      (resolveHeld s).link.outstanding = s.link.outstanding ∧ (resolveHeld s).link.resync = s.link.resync ∧
      (resolveHeld s).link.drive = s.link.drive ∧ (resolveHeld s).coord = s.coord ∧
      (resolveHeld s).store = s.store ∧ (resolveHeld s).gather = s.gather ∧ (resolveHeld s).clock = s.clock ∧
      (resolveHeld s).supplyFail = s.supplyFail ∧
      (resolveHeld s).past = s.past ∧
      (resolveHeld s).now = s.now ∧ (resolveHeld s).own = s.own ∧
      (resolveHeld s).runActive = s.runActive ∧ (resolveHeld s).runUnderWay = s.runUnderWay ∧
      (resolveHeld s).header = s.header := by
  simp [resolveHeld, State.own, State.runActive, State.runUnderWay]

@[simp] theorem enterState_frame (st : StateNo) (b : Instant) (initial : Bool) (s : State) :
    (enterState st b initial s).pending = s.pending ∧ (enterState st b initial s).plan = s.plan ∧
      (enterState st b initial s).engine.runState = s.engine.runState ∧
      (enterState st b initial s).engine.runLabel = s.engine.runLabel ∧
      (enterState st b initial s).engine.endReason = s.engine.endReason ∧
      (enterState st b initial s).engine.lastState = s.engine.lastState ∧
      (enterState st b initial s).cond = s.cond ∧ (enterState st b initial s).breaker = s.breaker ∧
      (enterState st b initial s).amp = s.amp ∧ (enterState st b initial s).eval.pendingList = s.eval.pendingList ∧
      (enterState st b initial s).link.straps = s.link.straps ∧
      (enterState st b initial s).link.state = s.link.state ∧
      (enterState st b initial s).link.requests = s.link.requests ∧
      (enterState st b initial s).link.replySlot = s.link.replySlot ∧
      (enterState st b initial s).link.outstanding = s.link.outstanding ∧
      (enterState st b initial s).link.resync = s.link.resync ∧
      (enterState st b initial s).link.drive = s.link.drive ∧ (enterState st b initial s).coord = s.coord ∧
      (enterState st b initial s).store = s.store ∧ (enterState st b initial s).gather = s.gather ∧
      (enterState st b initial s).clock = s.clock ∧ (enterState st b initial s).supplyFail = s.supplyFail ∧
      (enterState st b initial s).past = s.past ∧
      (enterState st b initial s).now = s.now ∧ (enterState st b initial s).own = s.own ∧
      (enterState st b initial s).runActive = s.runActive ∧
      (enterState st b initial s).runUnderWay = s.runUnderWay ∧ (enterState st b initial s).header = s.header := by
  unfold enterState
  dsimp only
  (repeat' split) <;> simp [State.own, State.runActive, State.runUnderWay]

@[simp] theorem closeVisit_frame (exit : Instant) (cause : ExitCause) (s : State) :
    (closeVisit exit cause s).pending = s.pending ∧ (closeVisit exit cause s).plan = s.plan ∧
      (closeVisit exit cause s).synth = s.synth ∧ (closeVisit exit cause s).engine.runState = s.engine.runState ∧
      (closeVisit exit cause s).engine.runLabel = s.engine.runLabel ∧
      (closeVisit exit cause s).engine.visitCount = s.engine.visitCount ∧
      (closeVisit exit cause s).engine.latestVisit = s.engine.latestVisit ∧
      (closeVisit exit cause s).engine.endReason = s.engine.endReason ∧
      (closeVisit exit cause s).engine.lastState = s.engine.lastState ∧
      (closeVisit exit cause s).cond = s.cond ∧
      (closeVisit exit cause s).breaker = s.breaker ∧ (closeVisit exit cause s).amp = s.amp ∧
      (closeVisit exit cause s).link.straps = s.link.straps ∧ (closeVisit exit cause s).link.state = s.link.state ∧
      (closeVisit exit cause s).link.nextAge = s.link.nextAge ∧
      (closeVisit exit cause s).link.requests = s.link.requests ∧
      (closeVisit exit cause s).link.replySlot = s.link.replySlot ∧
      (closeVisit exit cause s).link.outstanding = s.link.outstanding ∧
      (closeVisit exit cause s).link.resync = s.link.resync ∧ (closeVisit exit cause s).link.drive = s.link.drive ∧
      (closeVisit exit cause s).link.notices = s.link.notices ∧ (closeVisit exit cause s).coord = s.coord ∧
      (closeVisit exit cause s).gather = s.gather ∧ (closeVisit exit cause s).status = s.status ∧
      (closeVisit exit cause s).clock = s.clock ∧ (closeVisit exit cause s).supplyFail = s.supplyFail ∧
      (closeVisit exit cause s).past = s.past ∧
      (closeVisit exit cause s).now = s.now ∧ (closeVisit exit cause s).own = s.own ∧
      (closeVisit exit cause s).runActive = s.runActive ∧ (closeVisit exit cause s).runUnderWay = s.runUnderWay ∧
      (closeVisit exit cause s).header = s.header := by
  unfold closeVisit
  (repeat' split) <;> simp [State.own, State.runActive, State.runUnderWay]

/-- What a closing visit leaves on the outputs (R62). -/
theorem closeVisit_boLevels (exit : Instant) (cause : ExitCause) (v : Visit) (s : State) (h : s.engine.visit = some v) :
    (closeVisit exit cause s).engine.boLevels = levelsAtClose exit s.engine := by
  simp [closeVisit, h, levelsAtClose]

@[simp] theorem ampRunEnded_frame (s : State) :
    (ampRunEnded s).pending = s.pending ∧ (ampRunEnded s).plan = s.plan ∧ (ampRunEnded s).synth = s.synth ∧
      (ampRunEnded s).engine = s.engine ∧ (ampRunEnded s).cond = s.cond ∧ (ampRunEnded s).breaker = s.breaker ∧
      (ampRunEnded s).amp.count = s.amp.count ∧ (ampRunEnded s).amp.state = s.amp.state ∧
      (ampRunEnded s).amp.warmUp = s.amp.warmUp ∧ (ampRunEnded s).amp.debouncers = s.amp.debouncers ∧
      (ampRunEnded s).eval = s.eval ∧ (ampRunEnded s).link = s.link ∧ (ampRunEnded s).coord = s.coord ∧
      (ampRunEnded s).store = s.store ∧ (ampRunEnded s).gather = s.gather ∧ (ampRunEnded s).status = s.status ∧
      (ampRunEnded s).clock = s.clock ∧ (ampRunEnded s).supplyFail = s.supplyFail ∧
      (ampRunEnded s).past = s.past ∧
      (ampRunEnded s).now = s.now ∧
      (ampRunEnded s).own = s.own ∧ (ampRunEnded s).runActive = s.runActive ∧
      (ampRunEnded s).runUnderWay = s.runUnderWay ∧ (ampRunEnded s).header = s.header := by
  unfold ampRunEnded
  (repeat' split) <;> simp

@[simp] theorem writeSummary_frame (e : EndState) (s : State) :
    (writeSummary e s).pending = s.pending ∧ (writeSummary e s).plan = s.plan ∧ (writeSummary e s).synth = s.synth ∧
      (writeSummary e s).engine.runState = s.engine.runState ∧
      (writeSummary e s).engine.runLabel = s.engine.runLabel ∧ (writeSummary e s).engine.visit = s.engine.visit ∧
      (writeSummary e s).engine.visitCount = s.engine.visitCount ∧
      (writeSummary e s).engine.decided = s.engine.decided ∧
      (writeSummary e s).engine.pendingMark = s.engine.pendingMark ∧
      (writeSummary e s).engine.pendingFallback = s.engine.pendingFallback ∧
      (writeSummary e s).engine.firstOperates = s.engine.firstOperates ∧
      (writeSummary e s).engine.timers = s.engine.timers ∧ (writeSummary e s).engine.backstop = s.engine.backstop ∧
      (writeSummary e s).engine.held = s.engine.held ∧
      (writeSummary e s).engine.latestVisit = s.engine.latestVisit ∧
      (writeSummary e s).engine.endReason = s.engine.endReason ∧
      (writeSummary e s).engine.boLevels = s.engine.boLevels ∧
      (writeSummary e s).engine.boSchedule = s.engine.boSchedule ∧
      (writeSummary e s).engine.boHeld = s.engine.boHeld ∧ (writeSummary e s).cond = s.cond ∧
      (writeSummary e s).breaker = s.breaker ∧ (writeSummary e s).amp = s.amp ∧ (writeSummary e s).eval = s.eval ∧
      (writeSummary e s).link = s.link ∧ (writeSummary e s).coord = s.coord ∧ (writeSummary e s).gather = s.gather ∧
      (writeSummary e s).status = s.status ∧ (writeSummary e s).clock = s.clock ∧
      (writeSummary e s).supplyFail = s.supplyFail ∧
      (writeSummary e s).past = s.past ∧
      (writeSummary e s).now = s.now ∧
      (writeSummary e s).own = s.own ∧ (writeSummary e s).runActive = s.runActive ∧
      (writeSummary e s).runUnderWay = s.runUnderWay ∧ (writeSummary e s).header = s.header := by
  simp [writeSummary, State.runActive, State.runUnderWay]

@[simp] theorem finishRun_frame (s : State) :
    (finishRun s).pending = s.pending ∧ (finishRun s).plan = s.plan ∧ (finishRun s).synth = s.synth ∧
      (finishRun s).engine.runLabel = s.engine.runLabel ∧ (finishRun s).engine.visit = s.engine.visit ∧
      (finishRun s).engine.visitCount = s.engine.visitCount ∧ (finishRun s).engine.decided = s.engine.decided ∧
      (finishRun s).engine.pendingMark = s.engine.pendingMark ∧
      (finishRun s).engine.pendingFallback = s.engine.pendingFallback ∧
      (finishRun s).engine.firstOperates = s.engine.firstOperates ∧ (finishRun s).engine.timers = s.engine.timers ∧
      (finishRun s).engine.backstop = s.engine.backstop ∧ (finishRun s).engine.held = s.engine.held ∧
      (finishRun s).engine.latestVisit = s.engine.latestVisit ∧
      (finishRun s).engine.endReason = s.engine.endReason ∧ (finishRun s).engine.boLevels = s.engine.boLevels ∧
      (finishRun s).engine.boSchedule = s.engine.boSchedule ∧
      (finishRun s).engine.boHeld = s.engine.boHeld ∧ (finishRun s).cond = s.cond ∧
      (finishRun s).breaker = s.breaker ∧ (finishRun s).amp.count = s.amp.count ∧
      (finishRun s).amp.state = s.amp.state ∧ (finishRun s).amp.warmUp = s.amp.warmUp ∧
      (finishRun s).amp.debouncers = s.amp.debouncers ∧ (finishRun s).eval = s.eval ∧ (finishRun s).link = s.link ∧
      (finishRun s).coord = s.coord ∧ (finishRun s).gather.count = s.gather.count ∧
      (finishRun s).gather.state = s.gather.state ∧ (finishRun s).gather.cursor = s.gather.cursor ∧
      (finishRun s).gather.tagCounter = s.gather.tagCounter ∧ (finishRun s).gather.report = s.gather.report ∧
      (finishRun s).status = s.status ∧ (finishRun s).clock = s.clock ∧ (finishRun s).supplyFail = s.supplyFail ∧
      (finishRun s).past = s.past ∧
      (finishRun s).now = s.now ∧ (finishRun s).own = s.own ∧ (finishRun s).header = s.header := by
  unfold finishRun
  dsimp only
  (repeat' split) <;> simp

@[simp] theorem finishIfDone_frame (s : State) :
    (finishIfDone s).pending = s.pending ∧ (finishIfDone s).plan = s.plan ∧ (finishIfDone s).synth = s.synth ∧
      (finishIfDone s).engine.runLabel = s.engine.runLabel ∧ (finishIfDone s).engine.visit = s.engine.visit ∧
      (finishIfDone s).engine.visitCount = s.engine.visitCount ∧
      (finishIfDone s).engine.decided = s.engine.decided ∧
      (finishIfDone s).engine.pendingMark = s.engine.pendingMark ∧
      (finishIfDone s).engine.pendingFallback = s.engine.pendingFallback ∧
      (finishIfDone s).engine.firstOperates = s.engine.firstOperates ∧
      (finishIfDone s).engine.timers = s.engine.timers ∧ (finishIfDone s).engine.backstop = s.engine.backstop ∧
      (finishIfDone s).engine.held = s.engine.held ∧ (finishIfDone s).engine.latestVisit = s.engine.latestVisit ∧
      (finishIfDone s).engine.endReason = s.engine.endReason ∧
      (finishIfDone s).engine.boLevels = s.engine.boLevels ∧
      (finishIfDone s).engine.boSchedule = s.engine.boSchedule ∧
      (finishIfDone s).engine.boHeld = s.engine.boHeld ∧ (finishIfDone s).cond = s.cond ∧
      (finishIfDone s).breaker = s.breaker ∧ (finishIfDone s).amp.count = s.amp.count ∧
      (finishIfDone s).amp.state = s.amp.state ∧ (finishIfDone s).amp.warmUp = s.amp.warmUp ∧
      (finishIfDone s).amp.debouncers = s.amp.debouncers ∧ (finishIfDone s).eval = s.eval ∧
      (finishIfDone s).link = s.link ∧ (finishIfDone s).coord = s.coord ∧
      (finishIfDone s).gather.count = s.gather.count ∧ (finishIfDone s).gather.state = s.gather.state ∧
      (finishIfDone s).gather.cursor = s.gather.cursor ∧ (finishIfDone s).gather.tagCounter = s.gather.tagCounter ∧
      (finishIfDone s).gather.report = s.gather.report ∧ (finishIfDone s).status = s.status ∧
      (finishIfDone s).clock = s.clock ∧ (finishIfDone s).supplyFail = s.supplyFail ∧
      (finishIfDone s).past = s.past ∧
      (finishIfDone s).now = s.now ∧
      (finishIfDone s).own = s.own ∧ (finishIfDone s).header = s.header := by
  unfold finishIfDone
  (repeat' split) <;> simp

@[simp] theorem quiesce_frame (s : State) :
    (quiesce s).pending = s.pending ∧ (quiesce s).plan = s.plan ∧ (quiesce s).engine.runState = s.engine.runState ∧
      (quiesce s).engine.runLabel = s.engine.runLabel ∧ (quiesce s).engine.visit = s.engine.visit ∧
      (quiesce s).engine.visitCount = s.engine.visitCount ∧ (quiesce s).engine.decided = s.engine.decided ∧
      (quiesce s).engine.pendingMark = s.engine.pendingMark ∧
      (quiesce s).engine.pendingFallback = s.engine.pendingFallback ∧
      (quiesce s).engine.firstOperates = s.engine.firstOperates ∧ (quiesce s).engine.timers = s.engine.timers ∧
      (quiesce s).engine.backstop = s.engine.backstop ∧ (quiesce s).engine.held = s.engine.held ∧
      (quiesce s).engine.latestVisit = s.engine.latestVisit ∧ (quiesce s).engine.endReason = s.engine.endReason ∧
      (quiesce s).engine.lastState = s.engine.lastState ∧ (quiesce s).cond = s.cond ∧ (quiesce s).amp = s.amp ∧
      (quiesce s).eval = s.eval ∧ (quiesce s).link = s.link ∧ (quiesce s).coord = s.coord ∧
      (quiesce s).store = s.store ∧ (quiesce s).gather = s.gather ∧ (quiesce s).status = s.status ∧
      (quiesce s).clock = s.clock ∧ (quiesce s).supplyFail = s.supplyFail ∧
      (quiesce s).past = s.past ∧
      (quiesce s).now = s.now ∧
      (quiesce s).own = s.own ∧ (quiesce s).runActive = s.runActive ∧ (quiesce s).runUnderWay = s.runUnderWay ∧
      (quiesce s).header = s.header := by
  simp [quiesce, State.runActive, State.runUnderWay]

@[simp] theorem enterEnding_frame (r : EndReason) (s : State) :
    (enterEnding r s).pending = s.pending ∧ (enterEnding r s).plan = s.plan ∧
      (enterEnding r s).engine.runLabel = s.engine.runLabel ∧ (enterEnding r s).engine.visit = s.engine.visit ∧
      (enterEnding r s).engine.visitCount = s.engine.visitCount ∧
      (enterEnding r s).engine.decided = s.engine.decided ∧
      (enterEnding r s).engine.pendingMark = s.engine.pendingMark ∧
      (enterEnding r s).engine.pendingFallback = s.engine.pendingFallback ∧
      (enterEnding r s).engine.firstOperates = s.engine.firstOperates ∧
      (enterEnding r s).engine.timers = s.engine.timers ∧ (enterEnding r s).engine.backstop = s.engine.backstop ∧
      (enterEnding r s).engine.latestVisit = s.engine.latestVisit ∧ (enterEnding r s).cond = s.cond ∧
      (enterEnding r s).amp.count = s.amp.count ∧ (enterEnding r s).amp.state = s.amp.state ∧
      (enterEnding r s).amp.warmUp = s.amp.warmUp ∧ (enterEnding r s).amp.debouncers = s.amp.debouncers ∧
      (enterEnding r s).eval = s.eval ∧ (enterEnding r s).link = s.link ∧ (enterEnding r s).coord = s.coord ∧
      (enterEnding r s).gather.count = s.gather.count ∧ (enterEnding r s).gather.state = s.gather.state ∧
      (enterEnding r s).gather.cursor = s.gather.cursor ∧
      (enterEnding r s).gather.tagCounter = s.gather.tagCounter ∧
      (enterEnding r s).gather.report = s.gather.report ∧ (enterEnding r s).status = s.status ∧
      (enterEnding r s).clock = s.clock ∧ (enterEnding r s).supplyFail = s.supplyFail ∧
      (enterEnding r s).past = s.past ∧
      (enterEnding r s).now = s.now ∧ (enterEnding r s).own = s.own ∧ (enterEnding r s).header = s.header := by
  simp [enterEnding]

@[simp] theorem takeExit_frame (s : State) :
    (takeExit s).pending = s.pending ∧ (takeExit s).plan = s.plan ∧
      (takeExit s).engine.runLabel = s.engine.runLabel ∧ (takeExit s).cond = s.cond ∧
      (takeExit s).amp.count = s.amp.count ∧ (takeExit s).amp.state = s.amp.state ∧
      (takeExit s).amp.warmUp = s.amp.warmUp ∧ (takeExit s).amp.debouncers = s.amp.debouncers ∧
      (takeExit s).link.straps = s.link.straps ∧ (takeExit s).link.state = s.link.state ∧
      (takeExit s).link.requests = s.link.requests ∧ (takeExit s).link.replySlot = s.link.replySlot ∧
      (takeExit s).link.outstanding = s.link.outstanding ∧ (takeExit s).link.resync = s.link.resync ∧
      (takeExit s).link.drive = s.link.drive ∧ (takeExit s).coord = s.coord ∧
      (takeExit s).gather.count = s.gather.count ∧ (takeExit s).gather.state = s.gather.state ∧
      (takeExit s).gather.cursor = s.gather.cursor ∧ (takeExit s).gather.tagCounter = s.gather.tagCounter ∧
      (takeExit s).gather.report = s.gather.report ∧ (takeExit s).clock = s.clock ∧
      (takeExit s).supplyFail = s.supplyFail ∧
      (takeExit s).past = s.past ∧
      (takeExit s).now = s.now ∧ (takeExit s).own = s.own ∧
      (takeExit s).header = s.header := by
  unfold takeExit
  dsimp only
  (repeat' split) <;> simp [State.own]

@[simp] theorem settleBoundary_frame (s : State) :
    (settleBoundary s).pending = s.pending ∧ (settleBoundary s).plan = s.plan ∧
      (settleBoundary s).engine.runLabel = s.engine.runLabel ∧ (settleBoundary s).cond = s.cond ∧
      (settleBoundary s).amp.count = s.amp.count ∧ (settleBoundary s).amp.state = s.amp.state ∧
      (settleBoundary s).amp.warmUp = s.amp.warmUp ∧ (settleBoundary s).amp.debouncers = s.amp.debouncers ∧
      (settleBoundary s).link.straps = s.link.straps ∧ (settleBoundary s).link.state = s.link.state ∧
      (settleBoundary s).link.requests = s.link.requests ∧ (settleBoundary s).link.replySlot = s.link.replySlot ∧
      (settleBoundary s).link.outstanding = s.link.outstanding ∧ (settleBoundary s).link.resync = s.link.resync ∧
      (settleBoundary s).link.drive = s.link.drive ∧ (settleBoundary s).coord = s.coord ∧
      (settleBoundary s).gather.count = s.gather.count ∧ (settleBoundary s).gather.state = s.gather.state ∧
      (settleBoundary s).gather.cursor = s.gather.cursor ∧
      (settleBoundary s).gather.tagCounter = s.gather.tagCounter ∧
      (settleBoundary s).gather.report = s.gather.report ∧ (settleBoundary s).clock = s.clock ∧
      (settleBoundary s).supplyFail = s.supplyFail ∧
      (settleBoundary s).past = s.past ∧
      (settleBoundary s).now = s.now ∧
      (settleBoundary s).own = s.own ∧ (settleBoundary s).header = s.header := by
  unfold settleBoundary
  (repeat' split) <;> simp [State.own]

@[simp] theorem takeClockLimit_frame (s : State) :
    (takeClockLimit s).pending = s.pending ∧ (takeClockLimit s).plan = s.plan ∧
      (takeClockLimit s).engine.runLabel = s.engine.runLabel ∧
      (takeClockLimit s).engine.visitCount = s.engine.visitCount ∧
      (takeClockLimit s).engine.latestVisit = s.engine.latestVisit ∧ (takeClockLimit s).cond = s.cond ∧
      (takeClockLimit s).amp.count = s.amp.count ∧ (takeClockLimit s).amp.state = s.amp.state ∧
      (takeClockLimit s).amp.warmUp = s.amp.warmUp ∧ (takeClockLimit s).amp.debouncers = s.amp.debouncers ∧
      (takeClockLimit s).link.straps = s.link.straps ∧ (takeClockLimit s).link.state = s.link.state ∧
      (takeClockLimit s).link.nextAge = s.link.nextAge ∧ (takeClockLimit s).link.requests = s.link.requests ∧
      (takeClockLimit s).link.replySlot = s.link.replySlot ∧
      (takeClockLimit s).link.outstanding = s.link.outstanding ∧ (takeClockLimit s).link.resync = s.link.resync ∧
      (takeClockLimit s).link.drive = s.link.drive ∧ (takeClockLimit s).link.notices = s.link.notices ∧
      (takeClockLimit s).coord = s.coord ∧ (takeClockLimit s).gather.count = s.gather.count ∧
      (takeClockLimit s).gather.state = s.gather.state ∧ (takeClockLimit s).gather.cursor = s.gather.cursor ∧
      (takeClockLimit s).gather.tagCounter = s.gather.tagCounter ∧
      (takeClockLimit s).gather.report = s.gather.report ∧ (takeClockLimit s).status = s.status ∧
      (takeClockLimit s).clock = s.clock ∧ (takeClockLimit s).supplyFail = s.supplyFail ∧
      (takeClockLimit s).past = s.past ∧
      (takeClockLimit s).now = s.now ∧ (takeClockLimit s).own = s.own ∧ (takeClockLimit s).header = s.header := by
  simp [takeClockLimit, State.own]

@[simp] theorem queueAbort_frame (r : EndReason) (atHead : Bool) (s : State) :
    (queueAbort r atHead s).pending = s.pending ∧ (queueAbort r atHead s).plan = s.plan ∧
      (queueAbort r atHead s).synth = s.synth ∧ (queueAbort r atHead s).engine = s.engine ∧
      (queueAbort r atHead s).cond = s.cond ∧ (queueAbort r atHead s).breaker = s.breaker ∧
      (queueAbort r atHead s).amp = s.amp ∧ (queueAbort r atHead s).eval = s.eval ∧
      (queueAbort r atHead s).link.straps = s.link.straps ∧ (queueAbort r atHead s).link.state = s.link.state ∧
      (queueAbort r atHead s).link.requests = s.link.requests ∧
      (queueAbort r atHead s).link.replySlot = s.link.replySlot ∧
      (queueAbort r atHead s).link.outstanding = s.link.outstanding ∧
      (queueAbort r atHead s).link.resync = s.link.resync ∧ (queueAbort r atHead s).link.drive = s.link.drive ∧
      (queueAbort r atHead s).coord = s.coord ∧ (queueAbort r atHead s).store = s.store ∧
      (queueAbort r atHead s).gather = s.gather ∧ (queueAbort r atHead s).clock = s.clock ∧
      (queueAbort r atHead s).supplyFail = s.supplyFail ∧
      (queueAbort r atHead s).past = s.past ∧
      (queueAbort r atHead s).now = s.now ∧
      (queueAbort r atHead s).own = s.own ∧ (queueAbort r atHead s).runActive = s.runActive ∧
      (queueAbort r atHead s).runUnderWay = s.runUnderWay ∧ (queueAbort r atHead s).header = s.header := by
  unfold queueAbort
  (repeat' split) <;> simp [State.own]

@[simp] theorem abortUnderWay_frame (r : EndReason) (s : State) :
    (abortUnderWay r s).pending = s.pending ∧ (abortUnderWay r s).plan = s.plan ∧
      (abortUnderWay r s).engine.runLabel = s.engine.runLabel ∧
      (abortUnderWay r s).engine.visitCount = s.engine.visitCount ∧
      (abortUnderWay r s).engine.latestVisit = s.engine.latestVisit ∧ (abortUnderWay r s).cond = s.cond ∧
      (abortUnderWay r s).amp.count = s.amp.count ∧ (abortUnderWay r s).amp.state = s.amp.state ∧
      (abortUnderWay r s).amp.warmUp = s.amp.warmUp ∧ (abortUnderWay r s).amp.debouncers = s.amp.debouncers ∧
      (abortUnderWay r s).link.straps = s.link.straps ∧ (abortUnderWay r s).link.state = s.link.state ∧
      (abortUnderWay r s).link.requests = s.link.requests ∧ (abortUnderWay r s).link.replySlot = s.link.replySlot ∧
      (abortUnderWay r s).link.outstanding = s.link.outstanding ∧ (abortUnderWay r s).link.resync = s.link.resync ∧
      (abortUnderWay r s).link.drive = s.link.drive ∧ (abortUnderWay r s).coord = s.coord ∧
      (abortUnderWay r s).gather = s.gather ∧ (abortUnderWay r s).clock = s.clock ∧
      (abortUnderWay r s).supplyFail = s.supplyFail ∧
      (abortUnderWay r s).past = s.past ∧
      (abortUnderWay r s).now = s.now ∧
      (abortUnderWay r s).own = s.own ∧ (abortUnderWay r s).header = s.header := by
  simp [abortUnderWay, State.own]

@[simp] theorem abortArmed_frame (r : EndReason) (s : State) :
    (abortArmed r s).pending = s.pending ∧ (abortArmed r s).plan = s.plan ∧ (abortArmed r s).synth = s.synth ∧
      (abortArmed r s).engine.runLabel = s.engine.runLabel ∧ (abortArmed r s).engine.visit = s.engine.visit ∧
      (abortArmed r s).engine.visitCount = s.engine.visitCount ∧
      (abortArmed r s).engine.decided = s.engine.decided ∧
      (abortArmed r s).engine.pendingMark = s.engine.pendingMark ∧
      (abortArmed r s).engine.pendingFallback = s.engine.pendingFallback ∧
      (abortArmed r s).engine.firstOperates = s.engine.firstOperates ∧
      (abortArmed r s).engine.timers = s.engine.timers ∧ (abortArmed r s).engine.backstop = s.engine.backstop ∧
      (abortArmed r s).engine.held = s.engine.held ∧ (abortArmed r s).engine.latestVisit = s.engine.latestVisit ∧
      (abortArmed r s).engine.lastState = s.engine.lastState ∧
      (abortArmed r s).engine.boLevels = s.engine.boLevels ∧
      (abortArmed r s).engine.boSchedule = s.engine.boSchedule ∧
      (abortArmed r s).engine.boHeld = s.engine.boHeld ∧ (abortArmed r s).cond = s.cond ∧
      (abortArmed r s).breaker = s.breaker ∧ (abortArmed r s).amp = s.amp ∧ (abortArmed r s).eval = s.eval ∧
      (abortArmed r s).link.straps = s.link.straps ∧ (abortArmed r s).link.state = s.link.state ∧
      (abortArmed r s).link.nextAge = s.link.nextAge ∧ (abortArmed r s).link.requests = s.link.requests ∧
      (abortArmed r s).link.replySlot = s.link.replySlot ∧ (abortArmed r s).link.outstanding = s.link.outstanding ∧
      (abortArmed r s).link.resync = s.link.resync ∧ (abortArmed r s).link.drive = s.link.drive ∧
      (abortArmed r s).link.notices = s.link.notices ∧ (abortArmed r s).coord.count = s.coord.count ∧
      (abortArmed r s).coord.gatherRoll = s.coord.gatherRoll ∧ (abortArmed r s).gather = s.gather ∧
      (abortArmed r s).status = s.status ∧ (abortArmed r s).clock = s.clock ∧
      (abortArmed r s).supplyFail = s.supplyFail ∧
      (abortArmed r s).past = s.past ∧
      (abortArmed r s).now = s.now ∧ (abortArmed r s).own = s.own ∧
      (abortArmed r s).header = s.header := by
  unfold abortArmed
  (repeat' split) <;> simp [State.own]

@[simp] theorem abortRun_frame (r : EndReason) (s : State) :
    (abortRun r s).pending = s.pending ∧ (abortRun r s).plan = s.plan ∧
      (abortRun r s).engine.runLabel = s.engine.runLabel ∧ (abortRun r s).engine.visitCount = s.engine.visitCount ∧
      (abortRun r s).engine.latestVisit = s.engine.latestVisit ∧ (abortRun r s).cond = s.cond ∧
      (abortRun r s).amp.count = s.amp.count ∧ (abortRun r s).amp.state = s.amp.state ∧
      (abortRun r s).amp.warmUp = s.amp.warmUp ∧ (abortRun r s).amp.debouncers = s.amp.debouncers ∧
      (abortRun r s).link.straps = s.link.straps ∧ (abortRun r s).link.state = s.link.state ∧
      (abortRun r s).link.requests = s.link.requests ∧ (abortRun r s).link.replySlot = s.link.replySlot ∧
      (abortRun r s).link.outstanding = s.link.outstanding ∧ (abortRun r s).link.resync = s.link.resync ∧
      (abortRun r s).link.drive = s.link.drive ∧ (abortRun r s).coord.count = s.coord.count ∧
      (abortRun r s).coord.gatherRoll = s.coord.gatherRoll ∧ (abortRun r s).gather = s.gather ∧
      (abortRun r s).clock = s.clock ∧ (abortRun r s).supplyFail = s.supplyFail ∧
      (abortRun r s).past = s.past ∧
      (abortRun r s).now = s.now ∧
      (abortRun r s).own = s.own ∧ (abortRun r s).header = s.header := by
  unfold abortRun
  (repeat' split) <;> simp [State.own]

@[simp] theorem fireSlots_frame (f : Trigger → Option (Target × Option MarkCode)) (x : Instant) (s : State) :
    (fireSlots f x s).pending = s.pending ∧ (fireSlots f x s).plan = s.plan ∧ (fireSlots f x s).synth = s.synth ∧
      (fireSlots f x s).engine.runState = s.engine.runState ∧
      (fireSlots f x s).engine.runLabel = s.engine.runLabel ∧
      (fireSlots f x s).engine.visitCount = s.engine.visitCount ∧
      (fireSlots f x s).engine.pendingFallback = s.engine.pendingFallback ∧
      (fireSlots f x s).engine.firstOperates = s.engine.firstOperates ∧
      (fireSlots f x s).engine.timers = s.engine.timers ∧ (fireSlots f x s).engine.backstop = s.engine.backstop ∧
      (fireSlots f x s).engine.held = s.engine.held ∧ (fireSlots f x s).engine.latestVisit = s.engine.latestVisit ∧
      (fireSlots f x s).engine.endReason = s.engine.endReason ∧
      (fireSlots f x s).engine.lastState = s.engine.lastState ∧
      (fireSlots f x s).engine.boLevels = s.engine.boLevels ∧
      (fireSlots f x s).engine.boSchedule = s.engine.boSchedule ∧
      (fireSlots f x s).engine.boHeld = s.engine.boHeld ∧ (fireSlots f x s).cond = s.cond ∧
      (fireSlots f x s).breaker = s.breaker ∧ (fireSlots f x s).amp = s.amp ∧ (fireSlots f x s).eval = s.eval ∧
      (fireSlots f x s).link.straps = s.link.straps ∧ (fireSlots f x s).link.state = s.link.state ∧
      (fireSlots f x s).link.requests = s.link.requests ∧ (fireSlots f x s).link.replySlot = s.link.replySlot ∧
      (fireSlots f x s).link.outstanding = s.link.outstanding ∧ (fireSlots f x s).link.resync = s.link.resync ∧
      (fireSlots f x s).link.drive = s.link.drive ∧ (fireSlots f x s).coord = s.coord ∧
      (fireSlots f x s).gather = s.gather ∧ (fireSlots f x s).clock = s.clock ∧
      (fireSlots f x s).supplyFail = s.supplyFail ∧
      (fireSlots f x s).past = s.past ∧
      (fireSlots f x s).now = s.now ∧ (fireSlots f x s).own = s.own ∧
      (fireSlots f x s).runActive = s.runActive ∧ (fireSlots f x s).runUnderWay = s.runUnderWay ∧
      (fireSlots f x s).header = s.header := by
  unfold fireSlots
  split
  · simp [State.own, State.runActive, State.runUnderWay]
  refine ⟨foldl_keep (fun s => s.pending) _ (by intros; (repeat' split) <;> simp [State.own, State.runActive, State.runUnderWay]) _ _,
    foldl_keep (fun s => s.plan) _ (by intros; (repeat' split) <;> simp [State.own, State.runActive, State.runUnderWay]) _ _,
    foldl_keep (fun s => s.synth) _ (by intros; (repeat' split) <;> simp [State.own, State.runActive, State.runUnderWay]) _ _,
    foldl_keep (fun s => s.engine.runState) _ (by intros; (repeat' split) <;> simp [State.own, State.runActive, State.runUnderWay]) _ _,
    foldl_keep (fun s => s.engine.runLabel) _ (by intros; (repeat' split) <;> simp [State.own, State.runActive, State.runUnderWay]) _ _,
    foldl_keep (fun s => s.engine.visitCount) _ (by intros; (repeat' split) <;> simp [State.own, State.runActive, State.runUnderWay]) _ _,
    foldl_keep (fun s => s.engine.pendingFallback) _ (by intros; (repeat' split) <;> simp [State.own, State.runActive, State.runUnderWay]) _ _,
    foldl_keep (fun s => s.engine.firstOperates) _ (by intros; (repeat' split) <;> simp [State.own, State.runActive, State.runUnderWay]) _ _,
    foldl_keep (fun s => s.engine.timers) _ (by intros; (repeat' split) <;> simp [State.own, State.runActive, State.runUnderWay]) _ _,
    foldl_keep (fun s => s.engine.backstop) _ (by intros; (repeat' split) <;> simp [State.own, State.runActive, State.runUnderWay]) _ _,
    foldl_keep (fun s => s.engine.held) _ (by intros; (repeat' split) <;> simp [State.own, State.runActive, State.runUnderWay]) _ _,
    foldl_keep (fun s => s.engine.latestVisit) _ (by intros; (repeat' split) <;> simp [State.own, State.runActive, State.runUnderWay]) _ _,
    foldl_keep (fun s => s.engine.endReason) _ (by intros; (repeat' split) <;> simp [State.own, State.runActive, State.runUnderWay]) _ _,
    foldl_keep (fun s => s.engine.lastState) _ (by intros; (repeat' split) <;> simp [State.own, State.runActive, State.runUnderWay]) _ _,
    foldl_keep (fun s => s.engine.boLevels) _ (by intros; (repeat' split) <;> simp [State.own, State.runActive, State.runUnderWay]) _ _,
    foldl_keep (fun s => s.engine.boSchedule) _ (by intros; (repeat' split) <;> simp [State.own, State.runActive, State.runUnderWay]) _ _,
    foldl_keep (fun s => s.engine.boHeld) _ (by intros; (repeat' split) <;> simp [State.own, State.runActive, State.runUnderWay]) _ _,
    foldl_keep (fun s => s.cond) _ (by intros; (repeat' split) <;> simp [State.own, State.runActive, State.runUnderWay]) _ _,
    foldl_keep (fun s => s.breaker) _ (by intros; (repeat' split) <;> simp [State.own, State.runActive, State.runUnderWay]) _ _,
    foldl_keep (fun s => s.amp) _ (by intros; (repeat' split) <;> simp [State.own, State.runActive, State.runUnderWay]) _ _,
    foldl_keep (fun s => s.eval) _ (by intros; (repeat' split) <;> simp [State.own, State.runActive, State.runUnderWay]) _ _,
    foldl_keep (fun s => s.link.straps) _ (by intros; (repeat' split) <;> simp [State.own, State.runActive, State.runUnderWay]) _ _,
    foldl_keep (fun s => s.link.state) _ (by intros; (repeat' split) <;> simp [State.own, State.runActive, State.runUnderWay]) _ _,
    foldl_keep (fun s => s.link.requests) _ (by intros; (repeat' split) <;> simp [State.own, State.runActive, State.runUnderWay]) _ _,
    foldl_keep (fun s => s.link.replySlot) _ (by intros; (repeat' split) <;> simp [State.own, State.runActive, State.runUnderWay]) _ _,
    foldl_keep (fun s => s.link.outstanding) _ (by intros; (repeat' split) <;> simp [State.own, State.runActive, State.runUnderWay]) _ _,
    foldl_keep (fun s => s.link.resync) _ (by intros; (repeat' split) <;> simp [State.own, State.runActive, State.runUnderWay]) _ _,
    foldl_keep (fun s => s.link.drive) _ (by intros; (repeat' split) <;> simp [State.own, State.runActive, State.runUnderWay]) _ _,
    foldl_keep (fun s => s.coord) _ (by intros; (repeat' split) <;> simp [State.own, State.runActive, State.runUnderWay]) _ _,
    foldl_keep (fun s => s.gather) _ (by intros; (repeat' split) <;> simp [State.own, State.runActive, State.runUnderWay]) _ _,
    foldl_keep (fun s => s.clock) _ (by intros; (repeat' split) <;> simp [State.own, State.runActive, State.runUnderWay]) _ _,
    foldl_keep (fun s => s.supplyFail) _ (by intros; (repeat' split) <;> simp [State.own, State.runActive, State.runUnderWay]) _ _,
    foldl_keep (fun s => s.past) _ (by intros; (repeat' split) <;> simp [State.own, State.runActive, State.runUnderWay]) _ _,
    foldl_keep (fun s => s.now) _ (by intros; (repeat' split) <;> simp [State.own, State.runActive, State.runUnderWay]) _ _,
    foldl_keep (fun s => s.own) _ (by intros; (repeat' split) <;> simp [State.own, State.runActive, State.runUnderWay]) _ _,
    foldl_keep (fun s => s.runActive) _ (by intros; (repeat' split) <;> simp [State.own, State.runActive, State.runUnderWay]) _ _,
    foldl_keep (fun s => s.runUnderWay) _ (by intros; (repeat' split) <;> simp [State.own, State.runActive, State.runUnderWay]) _ _,
    foldl_keep (fun s => s.header) _ (by intros; (repeat' split) <;> simp [State.own, State.runActive, State.runUnderWay]) _ _⟩

@[simp] theorem engineChange_frame (i : InputNo) (dir : Direction) (s : State) :
    (engineChange i dir s).pending = s.pending ∧ (engineChange i dir s).plan = s.plan ∧
      (engineChange i dir s).engine.runLabel = s.engine.runLabel ∧ (engineChange i dir s).cond = s.cond ∧
      (engineChange i dir s).amp.count = s.amp.count ∧ (engineChange i dir s).amp.state = s.amp.state ∧
      (engineChange i dir s).amp.warmUp = s.amp.warmUp ∧ (engineChange i dir s).amp.debouncers = s.amp.debouncers ∧
      (engineChange i dir s).link.straps = s.link.straps ∧ (engineChange i dir s).link.state = s.link.state ∧
      (engineChange i dir s).link.requests = s.link.requests ∧
      (engineChange i dir s).link.replySlot = s.link.replySlot ∧
      (engineChange i dir s).link.outstanding = s.link.outstanding ∧
      (engineChange i dir s).link.resync = s.link.resync ∧ (engineChange i dir s).link.drive = s.link.drive ∧
      (engineChange i dir s).coord = s.coord ∧ (engineChange i dir s).gather.count = s.gather.count ∧
      (engineChange i dir s).gather.state = s.gather.state ∧
      (engineChange i dir s).gather.cursor = s.gather.cursor ∧
      (engineChange i dir s).gather.tagCounter = s.gather.tagCounter ∧
      (engineChange i dir s).gather.report = s.gather.report ∧ (engineChange i dir s).clock = s.clock ∧
      (engineChange i dir s).supplyFail = s.supplyFail ∧
      (engineChange i dir s).past = s.past ∧
      (engineChange i dir s).now = s.now ∧
      (engineChange i dir s).own = s.own ∧ (engineChange i dir s).header = s.header := by
  unfold engineChange
  (repeat' split) <;> simp [State.own]

@[simp] theorem engineMark_frame (origin : StationNo) (code : Byte) (s : State) :
    (engineMark origin code s).pending = s.pending ∧ (engineMark origin code s).plan = s.plan ∧
      (engineMark origin code s).engine.runLabel = s.engine.runLabel ∧ (engineMark origin code s).cond = s.cond ∧
      (engineMark origin code s).amp.count = s.amp.count ∧ (engineMark origin code s).amp.state = s.amp.state ∧
      (engineMark origin code s).amp.warmUp = s.amp.warmUp ∧
      (engineMark origin code s).amp.debouncers = s.amp.debouncers ∧
      (engineMark origin code s).link.straps = s.link.straps ∧
      (engineMark origin code s).link.state = s.link.state ∧
      (engineMark origin code s).link.requests = s.link.requests ∧
      (engineMark origin code s).link.replySlot = s.link.replySlot ∧
      (engineMark origin code s).link.outstanding = s.link.outstanding ∧
      (engineMark origin code s).link.resync = s.link.resync ∧
      (engineMark origin code s).link.drive = s.link.drive ∧ (engineMark origin code s).coord = s.coord ∧
      (engineMark origin code s).gather.count = s.gather.count ∧
      (engineMark origin code s).gather.state = s.gather.state ∧
      (engineMark origin code s).gather.cursor = s.gather.cursor ∧
      (engineMark origin code s).gather.tagCounter = s.gather.tagCounter ∧
      (engineMark origin code s).gather.report = s.gather.report ∧ (engineMark origin code s).clock = s.clock ∧
      (engineMark origin code s).supplyFail = s.supplyFail ∧
      (engineMark origin code s).past = s.past ∧
      (engineMark origin code s).now = s.now ∧
      (engineMark origin code s).own = s.own ∧ (engineMark origin code s).header = s.header := by
  unfold engineMark
  (repeat' split) <;> simp [State.own]

@[simp] theorem engineStep_frame (s : State) :
    (engineStep s).pending = s.pending ∧ (engineStep s).plan = s.plan ∧
      (engineStep s).engine.runLabel = s.engine.runLabel ∧ (engineStep s).cond = s.cond ∧
      (engineStep s).amp.count = s.amp.count ∧ (engineStep s).amp.state = s.amp.state ∧
      (engineStep s).amp.warmUp = s.amp.warmUp ∧ (engineStep s).amp.debouncers = s.amp.debouncers ∧
      (engineStep s).link.straps = s.link.straps ∧ (engineStep s).link.state = s.link.state ∧
      (engineStep s).link.requests = s.link.requests ∧ (engineStep s).link.replySlot = s.link.replySlot ∧
      (engineStep s).link.outstanding = s.link.outstanding ∧ (engineStep s).link.resync = s.link.resync ∧
      (engineStep s).link.drive = s.link.drive ∧ (engineStep s).coord = s.coord ∧
      (engineStep s).gather.count = s.gather.count ∧ (engineStep s).gather.state = s.gather.state ∧
      (engineStep s).gather.cursor = s.gather.cursor ∧ (engineStep s).gather.tagCounter = s.gather.tagCounter ∧
      (engineStep s).gather.report = s.gather.report ∧ (engineStep s).clock = s.clock ∧
      (engineStep s).supplyFail = s.supplyFail ∧
      (engineStep s).past = s.past ∧
      (engineStep s).now = s.now ∧ (engineStep s).own = s.own ∧
      (engineStep s).header = s.header := by
  unfold engineStep
  (repeat' split) <;> simp [State.own]

@[simp] theorem engineStop_frame (s : State) :
    (engineStop s).pending = s.pending ∧ (engineStop s).plan = s.plan ∧
      (engineStop s).engine.runLabel = s.engine.runLabel ∧ (engineStop s).engine.visit = s.engine.visit ∧
      (engineStop s).engine.visitCount = s.engine.visitCount ∧
      (engineStop s).engine.pendingMark = s.engine.pendingMark ∧
      (engineStop s).engine.pendingFallback = s.engine.pendingFallback ∧
      (engineStop s).engine.firstOperates = s.engine.firstOperates ∧
      (engineStop s).engine.timers = s.engine.timers ∧ (engineStop s).engine.backstop = s.engine.backstop ∧
      (engineStop s).engine.latestVisit = s.engine.latestVisit ∧ (engineStop s).cond = s.cond ∧
      (engineStop s).amp.count = s.amp.count ∧ (engineStop s).amp.state = s.amp.state ∧
      (engineStop s).amp.warmUp = s.amp.warmUp ∧ (engineStop s).amp.debouncers = s.amp.debouncers ∧
      (engineStop s).eval = s.eval ∧ (engineStop s).link = s.link ∧ (engineStop s).coord = s.coord ∧
      (engineStop s).gather.count = s.gather.count ∧ (engineStop s).gather.state = s.gather.state ∧
      (engineStop s).gather.cursor = s.gather.cursor ∧ (engineStop s).gather.tagCounter = s.gather.tagCounter ∧
      (engineStop s).gather.report = s.gather.report ∧ (engineStop s).status = s.status ∧
      (engineStop s).clock = s.clock ∧ (engineStop s).supplyFail = s.supplyFail ∧
      (engineStop s).past = s.past ∧
      (engineStop s).now = s.now ∧
      (engineStop s).own = s.own ∧ (engineStop s).header = s.header := by
  unfold engineStop
  (repeat' split) <;> simp

@[simp] theorem takeEpoch_frame (s : State) :
    (takeEpoch s).pending = s.pending ∧ (takeEpoch s).plan = s.plan ∧ (takeEpoch s).synth = s.synth ∧
      (takeEpoch s).engine.runLabel = s.engine.runLabel ∧ (takeEpoch s).engine.visit = s.engine.visit ∧
      (takeEpoch s).engine.visitCount = s.engine.visitCount ∧ (takeEpoch s).engine.decided = s.engine.decided ∧
      (takeEpoch s).engine.pendingMark = s.engine.pendingMark ∧
      (takeEpoch s).engine.pendingFallback = s.engine.pendingFallback ∧
      (takeEpoch s).engine.firstOperates = s.engine.firstOperates ∧ (takeEpoch s).engine.timers = s.engine.timers ∧
      (takeEpoch s).engine.backstop = s.engine.backstop ∧ (takeEpoch s).engine.held = s.engine.held ∧
      (takeEpoch s).engine.latestVisit = s.engine.latestVisit ∧
      (takeEpoch s).engine.endReason = s.engine.endReason ∧ (takeEpoch s).engine.lastState = s.engine.lastState ∧
      (takeEpoch s).engine.boSchedule = s.engine.boSchedule ∧
      (takeEpoch s).engine.boHeld = s.engine.boHeld ∧ (takeEpoch s).cond = s.cond ∧
      (takeEpoch s).amp.count = s.amp.count ∧ (takeEpoch s).amp.state = s.amp.state ∧
      (takeEpoch s).amp.warmUp = s.amp.warmUp ∧ (takeEpoch s).amp.debouncers = s.amp.debouncers ∧
      (takeEpoch s).eval = s.eval ∧ (takeEpoch s).link.straps = s.link.straps ∧
      (takeEpoch s).link.state = s.link.state ∧ (takeEpoch s).link.nextAge = s.link.nextAge ∧
      (takeEpoch s).link.requests = s.link.requests ∧ (takeEpoch s).link.replySlot = s.link.replySlot ∧
      (takeEpoch s).link.outstanding = s.link.outstanding ∧ (takeEpoch s).link.resync = s.link.resync ∧
      (takeEpoch s).link.drive = s.link.drive ∧ (takeEpoch s).link.notices = s.link.notices ∧
      (takeEpoch s).coord.count = s.coord.count ∧ (takeEpoch s).coord.gatherRoll = s.coord.gatherRoll ∧
      (takeEpoch s).store = s.store ∧ (takeEpoch s).gather = s.gather ∧ (takeEpoch s).status = s.status ∧
      (takeEpoch s).clock.elapsed = s.clock.elapsed ∧ (takeEpoch s).supplyFail = s.supplyFail ∧
      (takeEpoch s).past = s.past ∧
      (takeEpoch s).own = s.own ∧ (takeEpoch s).header = s.header := by
  simp [takeEpoch, State.own]

@[simp] theorem startNotReady_frame (s : State) :
    (startNotReady s).pending = s.pending ∧ (startNotReady s).plan = s.plan ∧ (startNotReady s).synth = s.synth ∧
      (startNotReady s).engine.runLabel = s.engine.runLabel ∧ (startNotReady s).engine.visit = s.engine.visit ∧
      (startNotReady s).engine.visitCount = s.engine.visitCount ∧
      (startNotReady s).engine.decided = s.engine.decided ∧
      (startNotReady s).engine.pendingMark = s.engine.pendingMark ∧
      (startNotReady s).engine.pendingFallback = s.engine.pendingFallback ∧
      (startNotReady s).engine.firstOperates = s.engine.firstOperates ∧
      (startNotReady s).engine.timers = s.engine.timers ∧ (startNotReady s).engine.backstop = s.engine.backstop ∧
      (startNotReady s).engine.held = s.engine.held ∧ (startNotReady s).engine.latestVisit = s.engine.latestVisit ∧
      (startNotReady s).engine.lastState = s.engine.lastState ∧
      (startNotReady s).engine.boLevels = s.engine.boLevels ∧
      (startNotReady s).engine.boSchedule = s.engine.boSchedule ∧
      (startNotReady s).engine.boHeld = s.engine.boHeld ∧ (startNotReady s).cond = s.cond ∧
      (startNotReady s).breaker = s.breaker ∧ (startNotReady s).amp = s.amp ∧ (startNotReady s).eval = s.eval ∧
      (startNotReady s).link.straps = s.link.straps ∧ (startNotReady s).link.state = s.link.state ∧
      (startNotReady s).link.requests = s.link.requests ∧ (startNotReady s).link.replySlot = s.link.replySlot ∧
      (startNotReady s).link.outstanding = s.link.outstanding ∧ (startNotReady s).link.resync = s.link.resync ∧
      (startNotReady s).link.drive = s.link.drive ∧ (startNotReady s).coord.count = s.coord.count ∧
      (startNotReady s).coord.gatherRoll = s.coord.gatherRoll ∧ (startNotReady s).gather = s.gather ∧
      (startNotReady s).clock = s.clock ∧ (startNotReady s).supplyFail = s.supplyFail ∧
      (startNotReady s).past = s.past ∧
      (startNotReady s).now = s.now ∧ (startNotReady s).own = s.own ∧ (startNotReady s).header = s.header := by
  simp [startNotReady, State.own]

@[simp] theorem engineStart_frame (l : Label) (s : State) :
    (engineStart l s).pending = s.pending ∧ (engineStart l s).plan = s.plan ∧ (engineStart l s).synth = s.synth ∧
      (engineStart l s).engine.runLabel = s.engine.runLabel ∧ (engineStart l s).engine.visit = s.engine.visit ∧
      (engineStart l s).engine.visitCount = s.engine.visitCount ∧
      (engineStart l s).engine.decided = s.engine.decided ∧
      (engineStart l s).engine.pendingMark = s.engine.pendingMark ∧
      (engineStart l s).engine.pendingFallback = s.engine.pendingFallback ∧
      (engineStart l s).engine.firstOperates = s.engine.firstOperates ∧
      (engineStart l s).engine.timers = s.engine.timers ∧ (engineStart l s).engine.backstop = s.engine.backstop ∧
      (engineStart l s).engine.held = s.engine.held ∧ (engineStart l s).engine.latestVisit = s.engine.latestVisit ∧
      (engineStart l s).engine.lastState = s.engine.lastState ∧
      (engineStart l s).engine.boSchedule = s.engine.boSchedule ∧
      (engineStart l s).engine.boHeld = s.engine.boHeld ∧ (engineStart l s).cond = s.cond ∧
      (engineStart l s).amp.count = s.amp.count ∧ (engineStart l s).amp.state = s.amp.state ∧
      (engineStart l s).amp.warmUp = s.amp.warmUp ∧ (engineStart l s).amp.debouncers = s.amp.debouncers ∧
      (engineStart l s).eval = s.eval ∧ (engineStart l s).link.straps = s.link.straps ∧
      (engineStart l s).link.state = s.link.state ∧ (engineStart l s).link.requests = s.link.requests ∧
      (engineStart l s).link.replySlot = s.link.replySlot ∧
      (engineStart l s).link.outstanding = s.link.outstanding ∧ (engineStart l s).link.resync = s.link.resync ∧
      (engineStart l s).link.drive = s.link.drive ∧ (engineStart l s).coord.count = s.coord.count ∧
      (engineStart l s).coord.gatherRoll = s.coord.gatherRoll ∧ (engineStart l s).gather = s.gather ∧
      (engineStart l s).clock.elapsed = s.clock.elapsed ∧ (engineStart l s).supplyFail = s.supplyFail ∧
      (engineStart l s).past = s.past ∧
      (engineStart l s).own = s.own ∧ (engineStart l s).header = s.header := by
  unfold engineStart
  (repeat' split) <;> simp [State.own]

@[simp] theorem enginePeerAbort_frame (l : Label) (s : State) :
    (enginePeerAbort l s).pending = s.pending ∧ (enginePeerAbort l s).plan = s.plan ∧
      (enginePeerAbort l s).engine.runLabel = s.engine.runLabel ∧
      (enginePeerAbort l s).engine.visitCount = s.engine.visitCount ∧
      (enginePeerAbort l s).engine.latestVisit = s.engine.latestVisit ∧ (enginePeerAbort l s).cond = s.cond ∧
      (enginePeerAbort l s).amp.count = s.amp.count ∧ (enginePeerAbort l s).amp.state = s.amp.state ∧
      (enginePeerAbort l s).amp.warmUp = s.amp.warmUp ∧ (enginePeerAbort l s).amp.debouncers = s.amp.debouncers ∧
      (enginePeerAbort l s).link.straps = s.link.straps ∧ (enginePeerAbort l s).link.state = s.link.state ∧
      (enginePeerAbort l s).link.requests = s.link.requests ∧
      (enginePeerAbort l s).link.replySlot = s.link.replySlot ∧
      (enginePeerAbort l s).link.outstanding = s.link.outstanding ∧
      (enginePeerAbort l s).link.resync = s.link.resync ∧ (enginePeerAbort l s).link.drive = s.link.drive ∧
      (enginePeerAbort l s).coord.count = s.coord.count ∧
      (enginePeerAbort l s).coord.gatherRoll = s.coord.gatherRoll ∧ (enginePeerAbort l s).gather = s.gather ∧
      (enginePeerAbort l s).clock = s.clock ∧ (enginePeerAbort l s).supplyFail = s.supplyFail ∧
      (enginePeerAbort l s).past = s.past ∧
      (enginePeerAbort l s).now = s.now ∧ (enginePeerAbort l s).own = s.own ∧
      (enginePeerAbort l s).header = s.header := by
  unfold enginePeerAbort
  (repeat' split) <;> simp [State.own]

@[simp] theorem takeTimer_frame (n : SlotNo) (s : State) :
    (takeTimer n s).pending = s.pending ∧ (takeTimer n s).plan = s.plan ∧ (takeTimer n s).synth = s.synth ∧
      (takeTimer n s).engine.runState = s.engine.runState ∧ (takeTimer n s).engine.runLabel = s.engine.runLabel ∧
      (takeTimer n s).engine.visitCount = s.engine.visitCount ∧
      (takeTimer n s).engine.pendingFallback = s.engine.pendingFallback ∧
      (takeTimer n s).engine.firstOperates = s.engine.firstOperates ∧
      (takeTimer n s).engine.backstop = s.engine.backstop ∧ (takeTimer n s).engine.held = s.engine.held ∧
      (takeTimer n s).engine.latestVisit = s.engine.latestVisit ∧
      (takeTimer n s).engine.endReason = s.engine.endReason ∧
      (takeTimer n s).engine.lastState = s.engine.lastState ∧ (takeTimer n s).engine.boLevels = s.engine.boLevels ∧
      (takeTimer n s).engine.boSchedule = s.engine.boSchedule ∧
      (takeTimer n s).engine.boHeld = s.engine.boHeld ∧ (takeTimer n s).cond = s.cond ∧
      (takeTimer n s).breaker = s.breaker ∧ (takeTimer n s).amp = s.amp ∧ (takeTimer n s).eval = s.eval ∧
      (takeTimer n s).link.straps = s.link.straps ∧ (takeTimer n s).link.state = s.link.state ∧
      (takeTimer n s).link.requests = s.link.requests ∧ (takeTimer n s).link.replySlot = s.link.replySlot ∧
      (takeTimer n s).link.outstanding = s.link.outstanding ∧ (takeTimer n s).link.resync = s.link.resync ∧
      (takeTimer n s).link.drive = s.link.drive ∧ (takeTimer n s).coord = s.coord ∧
      (takeTimer n s).gather = s.gather ∧ (takeTimer n s).clock = s.clock ∧
      (takeTimer n s).supplyFail = s.supplyFail ∧
      (takeTimer n s).past = s.past ∧
      (takeTimer n s).now = s.now ∧ (takeTimer n s).own = s.own ∧
      (takeTimer n s).runActive = s.runActive ∧ (takeTimer n s).runUnderWay = s.runUnderWay ∧
      (takeTimer n s).header = s.header := by
  unfold takeTimer
  dsimp only
  (repeat' split) <;> simp [State.own, State.runActive, State.runUnderWay]

@[simp] theorem takeBackstop_frame (s : State) :
    (takeBackstop s).pending = s.pending ∧ (takeBackstop s).plan = s.plan ∧ (takeBackstop s).synth = s.synth ∧
      (takeBackstop s).engine.runState = s.engine.runState ∧ (takeBackstop s).engine.runLabel = s.engine.runLabel ∧
      (takeBackstop s).engine.visitCount = s.engine.visitCount ∧
      (takeBackstop s).engine.pendingFallback = s.engine.pendingFallback ∧
      (takeBackstop s).engine.firstOperates = s.engine.firstOperates ∧
      (takeBackstop s).engine.timers = s.engine.timers ∧ (takeBackstop s).engine.held = s.engine.held ∧
      (takeBackstop s).engine.latestVisit = s.engine.latestVisit ∧
      (takeBackstop s).engine.endReason = s.engine.endReason ∧
      (takeBackstop s).engine.lastState = s.engine.lastState ∧
      (takeBackstop s).engine.boLevels = s.engine.boLevels ∧
      (takeBackstop s).engine.boSchedule = s.engine.boSchedule ∧
      (takeBackstop s).engine.boHeld = s.engine.boHeld ∧ (takeBackstop s).cond = s.cond ∧
      (takeBackstop s).breaker = s.breaker ∧ (takeBackstop s).amp = s.amp ∧ (takeBackstop s).eval = s.eval ∧
      (takeBackstop s).link.straps = s.link.straps ∧ (takeBackstop s).link.state = s.link.state ∧
      (takeBackstop s).link.nextAge = s.link.nextAge ∧ (takeBackstop s).link.requests = s.link.requests ∧
      (takeBackstop s).link.replySlot = s.link.replySlot ∧ (takeBackstop s).link.outstanding = s.link.outstanding ∧
      (takeBackstop s).link.resync = s.link.resync ∧ (takeBackstop s).link.drive = s.link.drive ∧
      (takeBackstop s).link.notices = s.link.notices ∧ (takeBackstop s).coord = s.coord ∧
      (takeBackstop s).gather = s.gather ∧ (takeBackstop s).clock = s.clock ∧
      (takeBackstop s).supplyFail = s.supplyFail ∧
      (takeBackstop s).past = s.past ∧
      (takeBackstop s).now = s.now ∧ (takeBackstop s).own = s.own ∧
      (takeBackstop s).runActive = s.runActive ∧ (takeBackstop s).runUnderWay = s.runUnderWay ∧
      (takeBackstop s).header = s.header := by
  unfold takeBackstop
  (repeat' split) <;> simp [State.own, State.runActive, State.runUnderWay]

@[simp] theorem takeFallback_frame (s : State) :
    (takeFallback s).pending = s.pending ∧ (takeFallback s).plan = s.plan ∧ (takeFallback s).synth = s.synth ∧
      (takeFallback s).engine.runState = s.engine.runState ∧ (takeFallback s).engine.runLabel = s.engine.runLabel ∧
      (takeFallback s).engine.visitCount = s.engine.visitCount ∧
      (takeFallback s).engine.firstOperates = s.engine.firstOperates ∧
      (takeFallback s).engine.timers = s.engine.timers ∧ (takeFallback s).engine.backstop = s.engine.backstop ∧
      (takeFallback s).engine.held = s.engine.held ∧ (takeFallback s).engine.latestVisit = s.engine.latestVisit ∧
      (takeFallback s).engine.endReason = s.engine.endReason ∧
      (takeFallback s).engine.lastState = s.engine.lastState ∧
      (takeFallback s).engine.boLevels = s.engine.boLevels ∧
      (takeFallback s).engine.boSchedule = s.engine.boSchedule ∧
      (takeFallback s).engine.boHeld = s.engine.boHeld ∧ (takeFallback s).cond = s.cond ∧
      (takeFallback s).breaker = s.breaker ∧ (takeFallback s).amp = s.amp ∧ (takeFallback s).eval = s.eval ∧
      (takeFallback s).link.straps = s.link.straps ∧ (takeFallback s).link.state = s.link.state ∧
      (takeFallback s).link.nextAge = s.link.nextAge ∧ (takeFallback s).link.requests = s.link.requests ∧
      (takeFallback s).link.replySlot = s.link.replySlot ∧ (takeFallback s).link.outstanding = s.link.outstanding ∧
      (takeFallback s).link.resync = s.link.resync ∧ (takeFallback s).link.drive = s.link.drive ∧
      (takeFallback s).link.notices = s.link.notices ∧ (takeFallback s).coord = s.coord ∧
      (takeFallback s).gather = s.gather ∧ (takeFallback s).clock = s.clock ∧
      (takeFallback s).supplyFail = s.supplyFail ∧
      (takeFallback s).past = s.past ∧
      (takeFallback s).now = s.now ∧ (takeFallback s).own = s.own ∧
      (takeFallback s).runActive = s.runActive ∧ (takeFallback s).runUnderWay = s.runUnderWay ∧
      (takeFallback s).header = s.header := by
  unfold takeFallback
  (repeat' split) <;> simp [State.own, State.runActive, State.runUnderWay]

@[simp] theorem takeInitialEntry_frame (s : State) :
    (takeInitialEntry s).pending = s.pending ∧ (takeInitialEntry s).plan = s.plan ∧
      (takeInitialEntry s).engine.runState = s.engine.runState ∧
      (takeInitialEntry s).engine.runLabel = s.engine.runLabel ∧
      (takeInitialEntry s).engine.endReason = s.engine.endReason ∧
      (takeInitialEntry s).engine.lastState = s.engine.lastState ∧ (takeInitialEntry s).cond = s.cond ∧
      (takeInitialEntry s).breaker = s.breaker ∧ (takeInitialEntry s).amp = s.amp ∧
      (takeInitialEntry s).eval.pendingList = s.eval.pendingList ∧
      (takeInitialEntry s).link.straps = s.link.straps ∧ (takeInitialEntry s).link.state = s.link.state ∧
      (takeInitialEntry s).link.requests = s.link.requests ∧
      (takeInitialEntry s).link.replySlot = s.link.replySlot ∧
      (takeInitialEntry s).link.outstanding = s.link.outstanding ∧
      (takeInitialEntry s).link.resync = s.link.resync ∧ (takeInitialEntry s).link.drive = s.link.drive ∧
      (takeInitialEntry s).coord = s.coord ∧ (takeInitialEntry s).store = s.store ∧
      (takeInitialEntry s).gather = s.gather ∧ (takeInitialEntry s).clock = s.clock ∧
      (takeInitialEntry s).supplyFail = s.supplyFail ∧
      (takeInitialEntry s).past = s.past ∧
      (takeInitialEntry s).now = s.now ∧
      (takeInitialEntry s).own = s.own ∧ (takeInitialEntry s).runActive = s.runActive ∧
      (takeInitialEntry s).runUnderWay = s.runUnderWay ∧ (takeInitialEntry s).header = s.header := by
  simp [takeInitialEntry, State.own, State.runActive, State.runUnderWay]

@[simp] theorem takeBoDelay_frame (o : OutputNo) (s : State) :
    (takeBoDelay o s).pending = s.pending ∧ (takeBoDelay o s).plan = s.plan ∧ (takeBoDelay o s).synth = s.synth ∧
      (takeBoDelay o s).engine.runState = s.engine.runState ∧
      (takeBoDelay o s).engine.runLabel = s.engine.runLabel ∧ (takeBoDelay o s).engine.visit = s.engine.visit ∧
      (takeBoDelay o s).engine.visitCount = s.engine.visitCount ∧
      (takeBoDelay o s).engine.decided = s.engine.decided ∧
      (takeBoDelay o s).engine.pendingMark = s.engine.pendingMark ∧
      (takeBoDelay o s).engine.pendingFallback = s.engine.pendingFallback ∧
      (takeBoDelay o s).engine.firstOperates = s.engine.firstOperates ∧
      (takeBoDelay o s).engine.timers = s.engine.timers ∧ (takeBoDelay o s).engine.backstop = s.engine.backstop ∧
      (takeBoDelay o s).engine.held = s.engine.held ∧ (takeBoDelay o s).engine.latestVisit = s.engine.latestVisit ∧
      (takeBoDelay o s).engine.endReason = s.engine.endReason ∧
      (takeBoDelay o s).engine.lastState = s.engine.lastState ∧ (takeBoDelay o s).cond = s.cond ∧
      (takeBoDelay o s).breaker = s.breaker ∧ (takeBoDelay o s).amp = s.amp ∧ (takeBoDelay o s).eval = s.eval ∧
      (takeBoDelay o s).link = s.link ∧ (takeBoDelay o s).coord = s.coord ∧ (takeBoDelay o s).store = s.store ∧
      (takeBoDelay o s).gather = s.gather ∧ (takeBoDelay o s).status = s.status ∧
      (takeBoDelay o s).clock = s.clock ∧ (takeBoDelay o s).supplyFail = s.supplyFail ∧
      (takeBoDelay o s).past = s.past ∧
      (takeBoDelay o s).now = s.now ∧ (takeBoDelay o s).own = s.own ∧ (takeBoDelay o s).runActive = s.runActive ∧
      (takeBoDelay o s).runUnderWay = s.runUnderWay ∧ (takeBoDelay o s).header = s.header := by
  unfold takeBoDelay
  (repeat' split) <;> simp [State.runActive, State.runUnderWay]

end Sys2Proof.Machine
end

