-- ==== Sys2Proof/Laws/FramesPlant.lean ====
section
/-! SUPPORT. Frames: for each shared operation of the Input Conditioner and the Amplifier Supervisor, one lemma that
says what it leaves as it was, block by block and field by field. -/

namespace Sys2Proof.Machine

@[simp] theorem takeOperate_frame (i : InputNo) (edge : Instant) (s : State) :
    (takeOperate i edge s).pending = s.pending ∧ (takeOperate i edge s).plan = s.plan ∧
      (takeOperate i edge s).synth = s.synth ∧ (takeOperate i edge s).engine.runState = s.engine.runState ∧
      (takeOperate i edge s).engine.runLabel = s.engine.runLabel ∧
      (takeOperate i edge s).engine.visit = s.engine.visit ∧
      (takeOperate i edge s).engine.visitCount = s.engine.visitCount ∧
      (takeOperate i edge s).engine.decided = s.engine.decided ∧
      (takeOperate i edge s).engine.pendingMark = s.engine.pendingMark ∧
      (takeOperate i edge s).engine.pendingFallback = s.engine.pendingFallback ∧
      (takeOperate i edge s).engine.timers = s.engine.timers ∧
      (takeOperate i edge s).engine.backstop = s.engine.backstop ∧
      (takeOperate i edge s).engine.latestVisit = s.engine.latestVisit ∧
      (takeOperate i edge s).engine.endReason = s.engine.endReason ∧
      (takeOperate i edge s).engine.lastState = s.engine.lastState ∧
      (takeOperate i edge s).engine.boLevels = s.engine.boLevels ∧
      (takeOperate i edge s).engine.boSchedule = s.engine.boSchedule ∧
      (takeOperate i edge s).engine.boHeld = s.engine.boHeld ∧ (takeOperate i edge s).cond = s.cond ∧
      (takeOperate i edge s).breaker = s.breaker ∧ (takeOperate i edge s).amp = s.amp ∧
      (takeOperate i edge s).link.straps = s.link.straps ∧ (takeOperate i edge s).link.state = s.link.state ∧
      (takeOperate i edge s).link.requests = s.link.requests ∧
      (takeOperate i edge s).link.replySlot = s.link.replySlot ∧
      (takeOperate i edge s).link.outstanding = s.link.outstanding ∧
      (takeOperate i edge s).link.resync = s.link.resync ∧ (takeOperate i edge s).link.drive = s.link.drive ∧
      (takeOperate i edge s).coord = s.coord ∧ (takeOperate i edge s).store = s.store ∧
      (takeOperate i edge s).gather = s.gather ∧ (takeOperate i edge s).clock = s.clock ∧
      (takeOperate i edge s).supplyFail = s.supplyFail ∧
      (takeOperate i edge s).past = s.past ∧
      (takeOperate i edge s).now = s.now ∧
      (takeOperate i edge s).own = s.own ∧ (takeOperate i edge s).runActive = s.runActive ∧
      (takeOperate i edge s).runUnderWay = s.runUnderWay ∧ (takeOperate i edge s).header = s.header := by
  unfold takeOperate
  (repeat' split) <;> simp [State.own, State.runActive, State.runUnderWay]

@[simp] theorem deliverChange_frame (i : InputNo) (t : Nat) (afterLockout : Bool) (s : State) :
    (deliverChange i t afterLockout s).pending = s.pending ∧
      (deliverChange i t afterLockout s).plan = s.plan ∧
      (deliverChange i t afterLockout s).synth = s.synth ∧
      (deliverChange i t afterLockout s).cond = s.cond ∧
      (deliverChange i t afterLockout s).amp = s.amp ∧
      (deliverChange i t afterLockout s).coord = s.coord ∧
      (deliverChange i t afterLockout s).gather = s.gather ∧
      (deliverChange i t afterLockout s).clock = s.clock ∧
      (deliverChange i t afterLockout s).supplyFail = s.supplyFail ∧
      (deliverChange i t afterLockout s).past = s.past ∧
      (deliverChange i t afterLockout s).link.straps = s.link.straps ∧
      (deliverChange i t afterLockout s).link.state = s.link.state ∧
      (deliverChange i t afterLockout s).link.requests = s.link.requests ∧
      (deliverChange i t afterLockout s).link.replySlot = s.link.replySlot ∧
      (deliverChange i t afterLockout s).link.outstanding = s.link.outstanding ∧
      (deliverChange i t afterLockout s).link.resync = s.link.resync ∧
      (deliverChange i t afterLockout s).link.drive = s.link.drive ∧
      (deliverChange i t afterLockout s).engine.runState = s.engine.runState ∧
      (deliverChange i t afterLockout s).engine.runLabel = s.engine.runLabel ∧
      (deliverChange i t afterLockout s).engine.visit = s.engine.visit ∧
      (deliverChange i t afterLockout s).engine.decided = s.engine.decided ∧
      (deliverChange i t afterLockout s).engine.pendingMark = s.engine.pendingMark ∧
      (deliverChange i t afterLockout s).now = s.now ∧
      (deliverChange i t afterLockout s).own = s.own ∧
      (deliverChange i t afterLockout s).runActive = s.runActive ∧
      (deliverChange i t afterLockout s).runUnderWay = s.runUnderWay ∧
      (deliverChange i t afterLockout s).header = s.header := by
  unfold deliverChange
  dsimp only
  (repeat' split) <;> simp [State.own, State.runActive, State.runUnderWay]

@[simp] theorem deliverLockout_frame (i : InputNo) (level : Bool) (s : State) :
    (deliverLockout i level s).pending = s.pending ∧ (deliverLockout i level s).plan = s.plan ∧
      (deliverLockout i level s).synth = s.synth ∧ (deliverLockout i level s).engine = s.engine ∧
      (deliverLockout i level s).cond = s.cond ∧ (deliverLockout i level s).breaker = s.breaker ∧
      (deliverLockout i level s).amp = s.amp ∧ (deliverLockout i level s).eval.pendingList = s.eval.pendingList ∧
      (deliverLockout i level s).link = s.link ∧ (deliverLockout i level s).coord = s.coord ∧
      (deliverLockout i level s).gather = s.gather ∧ (deliverLockout i level s).status = s.status ∧
      (deliverLockout i level s).clock = s.clock ∧ (deliverLockout i level s).supplyFail = s.supplyFail ∧
      (deliverLockout i level s).past = s.past ∧
      (deliverLockout i level s).now = s.now ∧ (deliverLockout i level s).own = s.own ∧
      (deliverLockout i level s).runActive = s.runActive ∧ (deliverLockout i level s).runUnderWay = s.runUnderWay ∧
      (deliverLockout i level s).header = s.header := by
  simp [deliverLockout]

@[simp] theorem acceptChange_frame (i : InputNo) (t : Nat) (afterLockout : Bool) (s : State) :
    (acceptChange i t afterLockout s).pending = s.pending ∧ (acceptChange i t afterLockout s).plan = s.plan ∧
      (acceptChange i t afterLockout s).engine.runLabel = s.engine.runLabel ∧
      (acceptChange i t afterLockout s).amp.count = s.amp.count ∧
      (acceptChange i t afterLockout s).amp.state = s.amp.state ∧
      (acceptChange i t afterLockout s).amp.warmUp = s.amp.warmUp ∧
      (acceptChange i t afterLockout s).amp.debouncers = s.amp.debouncers ∧
      (acceptChange i t afterLockout s).link.straps = s.link.straps ∧
      (acceptChange i t afterLockout s).link.state = s.link.state ∧
      (acceptChange i t afterLockout s).link.requests = s.link.requests ∧
      (acceptChange i t afterLockout s).link.replySlot = s.link.replySlot ∧
      (acceptChange i t afterLockout s).link.outstanding = s.link.outstanding ∧
      (acceptChange i t afterLockout s).link.resync = s.link.resync ∧
      (acceptChange i t afterLockout s).link.drive = s.link.drive ∧
      (acceptChange i t afterLockout s).coord = s.coord ∧
      (acceptChange i t afterLockout s).gather.count = s.gather.count ∧
      (acceptChange i t afterLockout s).gather.state = s.gather.state ∧
      (acceptChange i t afterLockout s).gather.cursor = s.gather.cursor ∧
      (acceptChange i t afterLockout s).gather.tagCounter = s.gather.tagCounter ∧
      (acceptChange i t afterLockout s).gather.report = s.gather.report ∧
      (acceptChange i t afterLockout s).clock = s.clock ∧
      (acceptChange i t afterLockout s).supplyFail = s.supplyFail ∧
      (acceptChange i t afterLockout s).past = s.past ∧
      (acceptChange i t afterLockout s).now = s.now ∧
      (acceptChange i t afterLockout s).own = s.own ∧ (acceptChange i t afterLockout s).header = s.header := by
  unfold acceptChange
  dsimp only
  (repeat' split) <;> simp [State.own]

@[simp] theorem releaseInput_frame (i : InputNo) (s : State) :
    (releaseInput i s).pending = s.pending ∧ (releaseInput i s).plan = s.plan ∧
      (releaseInput i s).engine.runLabel = s.engine.runLabel ∧ (releaseInput i s).amp.count = s.amp.count ∧
      (releaseInput i s).amp.state = s.amp.state ∧ (releaseInput i s).amp.warmUp = s.amp.warmUp ∧
      (releaseInput i s).amp.debouncers = s.amp.debouncers ∧ (releaseInput i s).link.straps = s.link.straps ∧
      (releaseInput i s).link.state = s.link.state ∧ (releaseInput i s).link.requests = s.link.requests ∧
      (releaseInput i s).link.replySlot = s.link.replySlot ∧
      (releaseInput i s).link.outstanding = s.link.outstanding ∧ (releaseInput i s).link.resync = s.link.resync ∧
      (releaseInput i s).link.drive = s.link.drive ∧ (releaseInput i s).coord = s.coord ∧
      (releaseInput i s).gather.count = s.gather.count ∧ (releaseInput i s).gather.state = s.gather.state ∧
      (releaseInput i s).gather.cursor = s.gather.cursor ∧
      (releaseInput i s).gather.tagCounter = s.gather.tagCounter ∧
      (releaseInput i s).gather.report = s.gather.report ∧ (releaseInput i s).clock = s.clock ∧
      (releaseInput i s).supplyFail = s.supplyFail ∧
      (releaseInput i s).past = s.past ∧
      (releaseInput i s).now = s.now ∧
      (releaseInput i s).own = s.own ∧ (releaseInput i s).header = s.header := by
  unfold releaseInput
  dsimp only
  (repeat' split) <;> simp [State.own]

@[simp] theorem settleCandidate_frame (i : InputNo) (s : State) :
    (settleCandidate i s).pending = s.pending ∧ (settleCandidate i s).plan = s.plan ∧
      (settleCandidate i s).engine.runLabel = s.engine.runLabel ∧ (settleCandidate i s).amp.count = s.amp.count ∧
      (settleCandidate i s).amp.state = s.amp.state ∧ (settleCandidate i s).amp.warmUp = s.amp.warmUp ∧
      (settleCandidate i s).amp.debouncers = s.amp.debouncers ∧ (settleCandidate i s).link.straps = s.link.straps ∧
      (settleCandidate i s).link.state = s.link.state ∧ (settleCandidate i s).link.requests = s.link.requests ∧
      (settleCandidate i s).link.replySlot = s.link.replySlot ∧
      (settleCandidate i s).link.outstanding = s.link.outstanding ∧
      (settleCandidate i s).link.resync = s.link.resync ∧ (settleCandidate i s).link.drive = s.link.drive ∧
      (settleCandidate i s).coord = s.coord ∧ (settleCandidate i s).gather.count = s.gather.count ∧
      (settleCandidate i s).gather.state = s.gather.state ∧ (settleCandidate i s).gather.cursor = s.gather.cursor ∧
      (settleCandidate i s).gather.tagCounter = s.gather.tagCounter ∧
      (settleCandidate i s).gather.report = s.gather.report ∧ (settleCandidate i s).clock = s.clock ∧
      (settleCandidate i s).supplyFail = s.supplyFail ∧
      (settleCandidate i s).past = s.past ∧
      (settleCandidate i s).now = s.now ∧
      (settleCandidate i s).own = s.own ∧ (settleCandidate i s).header = s.header := by
  unfold settleCandidate
  (repeat' split) <;> simp [State.own]

@[simp] theorem settleRelease_frame (i : InputNo) (s : State) :
    (settleRelease i s).pending = s.pending ∧ (settleRelease i s).plan = s.plan ∧
      (settleRelease i s).engine.runLabel = s.engine.runLabel ∧ (settleRelease i s).amp.count = s.amp.count ∧
      (settleRelease i s).amp.state = s.amp.state ∧ (settleRelease i s).amp.warmUp = s.amp.warmUp ∧
      (settleRelease i s).amp.debouncers = s.amp.debouncers ∧ (settleRelease i s).link.straps = s.link.straps ∧
      (settleRelease i s).link.state = s.link.state ∧ (settleRelease i s).link.requests = s.link.requests ∧
      (settleRelease i s).link.replySlot = s.link.replySlot ∧
      (settleRelease i s).link.outstanding = s.link.outstanding ∧ (settleRelease i s).link.resync = s.link.resync ∧
      (settleRelease i s).link.drive = s.link.drive ∧ (settleRelease i s).coord = s.coord ∧
      (settleRelease i s).gather.count = s.gather.count ∧ (settleRelease i s).gather.state = s.gather.state ∧
      (settleRelease i s).gather.cursor = s.gather.cursor ∧
      (settleRelease i s).gather.tagCounter = s.gather.tagCounter ∧
      (settleRelease i s).gather.report = s.gather.report ∧ (settleRelease i s).clock = s.clock ∧
      (settleRelease i s).supplyFail = s.supplyFail ∧
      (settleRelease i s).past = s.past ∧
      (settleRelease i s).now = s.now ∧
      (settleRelease i s).own = s.own ∧ (settleRelease i s).header = s.header := by
  unfold settleRelease
  (repeat' split) <;> simp [State.own]

@[simp] theorem settleInput_frame (i : InputNo) (s : State) :
    (settleInput i s).pending = s.pending ∧ (settleInput i s).plan = s.plan ∧
      (settleInput i s).engine.runLabel = s.engine.runLabel ∧ (settleInput i s).amp.count = s.amp.count ∧
      (settleInput i s).amp.state = s.amp.state ∧ (settleInput i s).amp.warmUp = s.amp.warmUp ∧
      (settleInput i s).amp.debouncers = s.amp.debouncers ∧ (settleInput i s).link.straps = s.link.straps ∧
      (settleInput i s).link.state = s.link.state ∧ (settleInput i s).link.requests = s.link.requests ∧
      (settleInput i s).link.replySlot = s.link.replySlot ∧
      (settleInput i s).link.outstanding = s.link.outstanding ∧ (settleInput i s).link.resync = s.link.resync ∧
      (settleInput i s).link.drive = s.link.drive ∧ (settleInput i s).coord = s.coord ∧
      (settleInput i s).gather.count = s.gather.count ∧ (settleInput i s).gather.state = s.gather.state ∧
      (settleInput i s).gather.cursor = s.gather.cursor ∧
      (settleInput i s).gather.tagCounter = s.gather.tagCounter ∧
      (settleInput i s).gather.report = s.gather.report ∧ (settleInput i s).clock = s.clock ∧
      (settleInput i s).supplyFail = s.supplyFail ∧
      (settleInput i s).past = s.past ∧
      (settleInput i s).now = s.now ∧ (settleInput i s).own = s.own ∧
      (settleInput i s).header = s.header := by
  simp [settleInput, State.own]

@[simp] theorem rawTransition_frame (i : InputNo) (s : State) :
    (rawTransition i s).pending = s.pending ∧ (rawTransition i s).plan = s.plan ∧
      (rawTransition i s).engine.runLabel = s.engine.runLabel ∧ (rawTransition i s).amp.count = s.amp.count ∧
      (rawTransition i s).amp.state = s.amp.state ∧ (rawTransition i s).amp.warmUp = s.amp.warmUp ∧
      (rawTransition i s).amp.debouncers = s.amp.debouncers ∧ (rawTransition i s).link.straps = s.link.straps ∧
      (rawTransition i s).link.state = s.link.state ∧ (rawTransition i s).link.requests = s.link.requests ∧
      (rawTransition i s).link.replySlot = s.link.replySlot ∧
      (rawTransition i s).link.outstanding = s.link.outstanding ∧ (rawTransition i s).link.resync = s.link.resync ∧
      (rawTransition i s).link.drive = s.link.drive ∧ (rawTransition i s).coord = s.coord ∧
      (rawTransition i s).gather.count = s.gather.count ∧ (rawTransition i s).gather.state = s.gather.state ∧
      (rawTransition i s).gather.cursor = s.gather.cursor ∧
      (rawTransition i s).gather.tagCounter = s.gather.tagCounter ∧
      (rawTransition i s).gather.report = s.gather.report ∧ (rawTransition i s).clock = s.clock ∧
      (rawTransition i s).supplyFail = s.supplyFail ∧
      (rawTransition i s).past = s.past ∧
      (rawTransition i s).now = s.now ∧
      (rawTransition i s).own = s.own ∧ (rawTransition i s).header = s.header := by
  simp [rawTransition, State.own]

@[simp] theorem applySetup_frame (i : InputNo) (s : State) :
    (applySetup i s).pending = s.pending ∧ (applySetup i s).plan = s.plan ∧
      (applySetup i s).engine.runLabel = s.engine.runLabel ∧ (applySetup i s).amp.count = s.amp.count ∧
      (applySetup i s).amp.state = s.amp.state ∧ (applySetup i s).amp.warmUp = s.amp.warmUp ∧
      (applySetup i s).amp.debouncers = s.amp.debouncers ∧ (applySetup i s).link.straps = s.link.straps ∧
      (applySetup i s).link.state = s.link.state ∧ (applySetup i s).link.requests = s.link.requests ∧
      (applySetup i s).link.replySlot = s.link.replySlot ∧ (applySetup i s).link.outstanding = s.link.outstanding ∧
      (applySetup i s).link.resync = s.link.resync ∧ (applySetup i s).link.drive = s.link.drive ∧
      (applySetup i s).coord = s.coord ∧ (applySetup i s).gather.count = s.gather.count ∧
      (applySetup i s).gather.state = s.gather.state ∧ (applySetup i s).gather.cursor = s.gather.cursor ∧
      (applySetup i s).gather.tagCounter = s.gather.tagCounter ∧ (applySetup i s).gather.report = s.gather.report ∧
      (applySetup i s).clock = s.clock ∧ (applySetup i s).supplyFail = s.supplyFail ∧
      (applySetup i s).past = s.past ∧
      (applySetup i s).now = s.now ∧
      (applySetup i s).own = s.own ∧ (applySetup i s).header = s.header := by
  simp [applySetup, State.own]

@[simp] theorem applySetups_frame (s : State) :
    (applySetups s).pending = s.pending ∧ (applySetups s).plan = s.plan ∧
      (applySetups s).engine.runLabel = s.engine.runLabel ∧ (applySetups s).amp.count = s.amp.count ∧
      (applySetups s).amp.state = s.amp.state ∧ (applySetups s).amp.warmUp = s.amp.warmUp ∧
      (applySetups s).amp.debouncers = s.amp.debouncers ∧ (applySetups s).link.straps = s.link.straps ∧
      (applySetups s).link.state = s.link.state ∧ (applySetups s).link.requests = s.link.requests ∧
      (applySetups s).link.replySlot = s.link.replySlot ∧ (applySetups s).link.outstanding = s.link.outstanding ∧
      (applySetups s).link.resync = s.link.resync ∧ (applySetups s).link.drive = s.link.drive ∧
      (applySetups s).coord = s.coord ∧ (applySetups s).gather.count = s.gather.count ∧
      (applySetups s).gather.state = s.gather.state ∧ (applySetups s).gather.cursor = s.gather.cursor ∧
      (applySetups s).gather.tagCounter = s.gather.tagCounter ∧ (applySetups s).gather.report = s.gather.report ∧
      (applySetups s).clock = s.clock ∧ (applySetups s).supplyFail = s.supplyFail ∧
      (applySetups s).past = s.past ∧
      (applySetups s).now = s.now ∧
      (applySetups s).own = s.own ∧ (applySetups s).header = s.header := by
  unfold applySetups
  refine ⟨foldl_keep (fun s => s.pending) _ (by intros; (repeat' split) <;> simp [State.own]) _ _,
    foldl_keep (fun s => s.plan) _ (by intros; (repeat' split) <;> simp [State.own]) _ _,
    foldl_keep (fun s => s.engine.runLabel) _ (by intros; (repeat' split) <;> simp [State.own]) _ _,
    foldl_keep (fun s => s.amp.count) _ (by intros; (repeat' split) <;> simp [State.own]) _ _,
    foldl_keep (fun s => s.amp.state) _ (by intros; (repeat' split) <;> simp [State.own]) _ _,
    foldl_keep (fun s => s.amp.warmUp) _ (by intros; (repeat' split) <;> simp [State.own]) _ _,
    foldl_keep (fun s => s.amp.debouncers) _ (by intros; (repeat' split) <;> simp [State.own]) _ _,
    foldl_keep (fun s => s.link.straps) _ (by intros; (repeat' split) <;> simp [State.own]) _ _,
    foldl_keep (fun s => s.link.state) _ (by intros; (repeat' split) <;> simp [State.own]) _ _,
    foldl_keep (fun s => s.link.requests) _ (by intros; (repeat' split) <;> simp [State.own]) _ _,
    foldl_keep (fun s => s.link.replySlot) _ (by intros; (repeat' split) <;> simp [State.own]) _ _,
    foldl_keep (fun s => s.link.outstanding) _ (by intros; (repeat' split) <;> simp [State.own]) _ _,
    foldl_keep (fun s => s.link.resync) _ (by intros; (repeat' split) <;> simp [State.own]) _ _,
    foldl_keep (fun s => s.link.drive) _ (by intros; (repeat' split) <;> simp [State.own]) _ _,
    foldl_keep (fun s => s.coord) _ (by intros; (repeat' split) <;> simp [State.own]) _ _,
    foldl_keep (fun s => s.gather.count) _ (by intros; (repeat' split) <;> simp [State.own]) _ _,
    foldl_keep (fun s => s.gather.state) _ (by intros; (repeat' split) <;> simp [State.own]) _ _,
    foldl_keep (fun s => s.gather.cursor) _ (by intros; (repeat' split) <;> simp [State.own]) _ _,
    foldl_keep (fun s => s.gather.tagCounter) _ (by intros; (repeat' split) <;> simp [State.own]) _ _,
    foldl_keep (fun s => s.gather.report) _ (by intros; (repeat' split) <;> simp [State.own]) _ _,
    foldl_keep (fun s => s.clock) _ (by intros; (repeat' split) <;> simp [State.own]) _ _,
    foldl_keep (fun s => s.supplyFail) _ (by intros; (repeat' split) <;> simp [State.own]) _ _,
    foldl_keep (fun s => s.past) _ (by intros; (repeat' split) <;> simp [State.own]) _ _,
    foldl_keep (fun s => s.now) _ (by intros; (repeat' split) <;> simp [State.own]) _ _,
    foldl_keep (fun s => s.own) _ (by intros; (repeat' split) <;> simp [State.own]) _ _,
    foldl_keep (fun s => s.header) _ (by intros; (repeat' split) <;> simp [State.own]) _ _⟩

@[simp] theorem ampFault_frame (s : State) :
    (ampFault s).pending = s.pending ∧ (ampFault s).plan = s.plan ∧ (ampFault s).synth = s.synth ∧
      (ampFault s).engine = s.engine ∧ (ampFault s).cond = s.cond ∧ (ampFault s).breaker = s.breaker ∧
      (ampFault s).amp.count = s.amp.count ∧ (ampFault s).amp.debouncers = s.amp.debouncers ∧
      (ampFault s).eval = s.eval ∧ (ampFault s).link = s.link ∧ (ampFault s).coord = s.coord ∧
      (ampFault s).store = s.store ∧ (ampFault s).gather = s.gather ∧ (ampFault s).clock = s.clock ∧
      (ampFault s).supplyFail = s.supplyFail ∧
      (ampFault s).past = s.past ∧
      (ampFault s).now = s.now ∧ (ampFault s).own = s.own ∧
      (ampFault s).runActive = s.runActive ∧ (ampFault s).runUnderWay = s.runUnderWay ∧
      (ampFault s).header = s.header := by
  simp [ampFault]

@[simp] theorem ampStandby_frame (s : State) :
    (ampStandby s).pending = s.pending ∧ (ampStandby s).plan = s.plan ∧ (ampStandby s).synth = s.synth ∧
      (ampStandby s).engine = s.engine ∧ (ampStandby s).cond = s.cond ∧ (ampStandby s).breaker = s.breaker ∧
      (ampStandby s).amp.count = s.amp.count ∧ (ampStandby s).amp.debouncers = s.amp.debouncers ∧
      (ampStandby s).eval = s.eval ∧ (ampStandby s).link = s.link ∧ (ampStandby s).coord = s.coord ∧
      (ampStandby s).store = s.store ∧ (ampStandby s).gather = s.gather ∧ (ampStandby s).clock = s.clock ∧
      (ampStandby s).supplyFail = s.supplyFail ∧
      (ampStandby s).past = s.past ∧
      (ampStandby s).now = s.now ∧ (ampStandby s).own = s.own ∧
      (ampStandby s).runActive = s.runActive ∧ (ampStandby s).runUnderWay = s.runUnderWay ∧
      (ampStandby s).header = s.header := by
  unfold ampStandby
  (repeat' split) <;> simp

@[simp] theorem ampWarm_frame (s : State) :
    (ampWarm s).pending = s.pending ∧ (ampWarm s).plan = s.plan ∧ (ampWarm s).synth = s.synth ∧
      (ampWarm s).engine = s.engine ∧ (ampWarm s).cond = s.cond ∧ (ampWarm s).breaker = s.breaker ∧
      (ampWarm s).amp.count = s.amp.count ∧ (ampWarm s).amp.debouncers = s.amp.debouncers ∧
      (ampWarm s).eval = s.eval ∧ (ampWarm s).link = s.link ∧ (ampWarm s).coord = s.coord ∧
      (ampWarm s).store = s.store ∧ (ampWarm s).gather = s.gather ∧ (ampWarm s).clock = s.clock ∧
      (ampWarm s).supplyFail = s.supplyFail ∧
      (ampWarm s).past = s.past ∧
      (ampWarm s).now = s.now ∧ (ampWarm s).own = s.own ∧
      (ampWarm s).runActive = s.runActive ∧ (ampWarm s).runUnderWay = s.runUnderWay ∧ (ampWarm s).header = s.header := by
  unfold ampWarm
  (repeat' split) <;> simp

@[simp] theorem ampArm_frame (s : State) :
    (ampArm s).pending = s.pending ∧ (ampArm s).plan = s.plan ∧ (ampArm s).synth = s.synth ∧
      (ampArm s).engine = s.engine ∧ (ampArm s).cond = s.cond ∧ (ampArm s).breaker = s.breaker ∧
      (ampArm s).amp.count = s.amp.count ∧ (ampArm s).amp.debouncers = s.amp.debouncers ∧ (ampArm s).eval = s.eval ∧
      (ampArm s).link = s.link ∧ (ampArm s).coord = s.coord ∧ (ampArm s).store = s.store ∧
      (ampArm s).gather = s.gather ∧ (ampArm s).clock = s.clock ∧ (ampArm s).supplyFail = s.supplyFail ∧
      (ampArm s).past = s.past ∧
      (ampArm s).now = s.now ∧ (ampArm s).own = s.own ∧ (ampArm s).runActive = s.runActive ∧
      (ampArm s).runUnderWay = s.runUnderWay ∧ (ampArm s).header = s.header := by
  unfold ampArm
  (repeat' split) <;> simp

@[simp] theorem ampDisarm_frame (s : State) :
    (ampDisarm s).pending = s.pending ∧ (ampDisarm s).plan = s.plan ∧ (ampDisarm s).synth = s.synth ∧
      (ampDisarm s).engine = s.engine ∧ (ampDisarm s).cond = s.cond ∧ (ampDisarm s).breaker = s.breaker ∧
      (ampDisarm s).amp.count = s.amp.count ∧ (ampDisarm s).amp.debouncers = s.amp.debouncers ∧
      (ampDisarm s).eval = s.eval ∧ (ampDisarm s).link = s.link ∧ (ampDisarm s).coord = s.coord ∧
      (ampDisarm s).store = s.store ∧ (ampDisarm s).gather = s.gather ∧ (ampDisarm s).clock = s.clock ∧
      (ampDisarm s).supplyFail = s.supplyFail ∧
      (ampDisarm s).past = s.past ∧
      (ampDisarm s).now = s.now ∧ (ampDisarm s).own = s.own ∧
      (ampDisarm s).runActive = s.runActive ∧ (ampDisarm s).runUnderWay = s.runUnderWay ∧
      (ampDisarm s).header = s.header := by
  unfold ampDisarm
  (repeat' split) <;> simp

@[simp] theorem ampReset_frame (s : State) :
    (ampReset s).pending = s.pending ∧ (ampReset s).plan = s.plan ∧ (ampReset s).synth = s.synth ∧
      (ampReset s).engine = s.engine ∧ (ampReset s).cond = s.cond ∧ (ampReset s).breaker = s.breaker ∧
      (ampReset s).amp.count = s.amp.count ∧ (ampReset s).amp.debouncers = s.amp.debouncers ∧
      (ampReset s).eval = s.eval ∧ (ampReset s).link = s.link ∧ (ampReset s).coord = s.coord ∧
      (ampReset s).store = s.store ∧ (ampReset s).gather = s.gather ∧ (ampReset s).clock = s.clock ∧
      (ampReset s).supplyFail = s.supplyFail ∧
      (ampReset s).past = s.past ∧
      (ampReset s).now = s.now ∧ (ampReset s).own = s.own ∧
      (ampReset s).runActive = s.runActive ∧ (ampReset s).runUnderWay = s.runUnderWay ∧
      (ampReset s).header = s.header := by
  unfold ampReset
  (repeat' split) <;> simp

@[simp] theorem takeWarmUp_frame (s : State) :
    (takeWarmUp s).pending = s.pending ∧ (takeWarmUp s).plan = s.plan ∧ (takeWarmUp s).synth = s.synth ∧
      (takeWarmUp s).engine = s.engine ∧ (takeWarmUp s).cond = s.cond ∧ (takeWarmUp s).breaker = s.breaker ∧
      (takeWarmUp s).amp.count = s.amp.count ∧ (takeWarmUp s).amp.debouncers = s.amp.debouncers ∧
      (takeWarmUp s).eval = s.eval ∧ (takeWarmUp s).link.straps = s.link.straps ∧
      (takeWarmUp s).link.state = s.link.state ∧ (takeWarmUp s).link.requests = s.link.requests ∧
      (takeWarmUp s).link.replySlot = s.link.replySlot ∧ (takeWarmUp s).link.outstanding = s.link.outstanding ∧
      (takeWarmUp s).link.resync = s.link.resync ∧ (takeWarmUp s).link.drive = s.link.drive ∧
      (takeWarmUp s).coord.count = s.coord.count ∧ (takeWarmUp s).coord.ownStart = s.coord.ownStart ∧
      (takeWarmUp s).coord.gatherRoll = s.coord.gatherRoll ∧ (takeWarmUp s).store = s.store ∧
      (takeWarmUp s).gather = s.gather ∧ (takeWarmUp s).clock = s.clock ∧ (takeWarmUp s).supplyFail = s.supplyFail ∧
      (takeWarmUp s).past = s.past ∧
      (takeWarmUp s).now = s.now ∧ (takeWarmUp s).own = s.own ∧ (takeWarmUp s).runActive = s.runActive ∧
      (takeWarmUp s).runUnderWay = s.runUnderWay ∧ (takeWarmUp s).header = s.header := by
  simp [takeWarmUp, State.own]

@[simp] theorem takeIdle_frame (s : State) :
    (takeIdle s).pending = s.pending ∧ (takeIdle s).plan = s.plan ∧ (takeIdle s).synth = s.synth ∧
      (takeIdle s).engine = s.engine ∧ (takeIdle s).cond = s.cond ∧ (takeIdle s).breaker = s.breaker ∧
      (takeIdle s).amp.count = s.amp.count ∧ (takeIdle s).amp.debouncers = s.amp.debouncers ∧
      (takeIdle s).eval = s.eval ∧ (takeIdle s).link.straps = s.link.straps ∧
      (takeIdle s).link.state = s.link.state ∧ (takeIdle s).link.nextAge = s.link.nextAge ∧
      (takeIdle s).link.requests = s.link.requests ∧ (takeIdle s).link.replySlot = s.link.replySlot ∧
      (takeIdle s).link.outstanding = s.link.outstanding ∧ (takeIdle s).link.resync = s.link.resync ∧
      (takeIdle s).link.drive = s.link.drive ∧ (takeIdle s).link.notices = s.link.notices ∧
      (takeIdle s).coord.count = s.coord.count ∧ (takeIdle s).coord.gatherRoll = s.coord.gatherRoll ∧
      (takeIdle s).store = s.store ∧ (takeIdle s).gather = s.gather ∧ (takeIdle s).clock = s.clock ∧
      (takeIdle s).supplyFail = s.supplyFail ∧
      (takeIdle s).past = s.past ∧
      (takeIdle s).now = s.now ∧ (takeIdle s).own = s.own ∧
      (takeIdle s).runActive = s.runActive ∧ (takeIdle s).runUnderWay = s.runUnderWay ∧
      (takeIdle s).header = s.header := by
  simp [takeIdle, State.own]

@[simp] theorem takeOverload_frame (line : OverloadLine) (s : State) :
    (takeOverload line s).pending = s.pending ∧ (takeOverload line s).plan = s.plan ∧
      (takeOverload line s).engine.runLabel = s.engine.runLabel ∧
      (takeOverload line s).engine.visitCount = s.engine.visitCount ∧
      (takeOverload line s).engine.latestVisit = s.engine.latestVisit ∧ (takeOverload line s).cond = s.cond ∧
      (takeOverload line s).amp.count = s.amp.count ∧ (takeOverload line s).link.straps = s.link.straps ∧
      (takeOverload line s).link.state = s.link.state ∧ (takeOverload line s).link.requests = s.link.requests ∧
      (takeOverload line s).link.replySlot = s.link.replySlot ∧
      (takeOverload line s).link.outstanding = s.link.outstanding ∧
      (takeOverload line s).link.resync = s.link.resync ∧ (takeOverload line s).link.drive = s.link.drive ∧
      (takeOverload line s).coord.count = s.coord.count ∧
      (takeOverload line s).coord.gatherRoll = s.coord.gatherRoll ∧ (takeOverload line s).gather = s.gather ∧
      (takeOverload line s).clock = s.clock ∧ (takeOverload line s).supplyFail = s.supplyFail ∧
      (takeOverload line s).past = s.past ∧
      (takeOverload line s).now = s.now ∧ (takeOverload line s).own = s.own ∧
      (takeOverload line s).header = s.header := by
  unfold takeOverload
  dsimp only
  (repeat' split) <;> simp [State.own]

@[simp] theorem lineAsserted_frame (line : OverloadLine) (s : State) :
    (lineAsserted line s).pending = s.pending ∧ (lineAsserted line s).plan = s.plan ∧
      (lineAsserted line s).synth = s.synth ∧ (lineAsserted line s).engine = s.engine ∧
      (lineAsserted line s).cond = s.cond ∧ (lineAsserted line s).breaker = s.breaker ∧
      (lineAsserted line s).amp.count = s.amp.count ∧ (lineAsserted line s).amp.state = s.amp.state ∧
      (lineAsserted line s).amp.warmUp = s.amp.warmUp ∧ (lineAsserted line s).amp.idle = s.amp.idle ∧
      (lineAsserted line s).eval = s.eval ∧ (lineAsserted line s).link = s.link ∧
      (lineAsserted line s).coord = s.coord ∧ (lineAsserted line s).store = s.store ∧
      (lineAsserted line s).gather = s.gather ∧ (lineAsserted line s).status = s.status ∧
      (lineAsserted line s).clock = s.clock ∧ (lineAsserted line s).supplyFail = s.supplyFail ∧
      (lineAsserted line s).past = s.past ∧
      (lineAsserted line s).now = s.now ∧ (lineAsserted line s).own = s.own ∧
      (lineAsserted line s).runActive = s.runActive ∧ (lineAsserted line s).runUnderWay = s.runUnderWay ∧
      (lineAsserted line s).header = s.header := by
  unfold lineAsserted
  (repeat' split) <;> simp

@[simp] theorem lineDeasserted_frame (line : OverloadLine) (s : State) :
    (lineDeasserted line s).pending = s.pending ∧ (lineDeasserted line s).plan = s.plan ∧
      (lineDeasserted line s).engine.runLabel = s.engine.runLabel ∧
      (lineDeasserted line s).engine.visitCount = s.engine.visitCount ∧
      (lineDeasserted line s).engine.latestVisit = s.engine.latestVisit ∧ (lineDeasserted line s).cond = s.cond ∧
      (lineDeasserted line s).amp.count = s.amp.count ∧ (lineDeasserted line s).link.straps = s.link.straps ∧
      (lineDeasserted line s).link.state = s.link.state ∧ (lineDeasserted line s).link.requests = s.link.requests ∧
      (lineDeasserted line s).link.replySlot = s.link.replySlot ∧
      (lineDeasserted line s).link.outstanding = s.link.outstanding ∧
      (lineDeasserted line s).link.resync = s.link.resync ∧ (lineDeasserted line s).link.drive = s.link.drive ∧
      (lineDeasserted line s).coord.count = s.coord.count ∧
      (lineDeasserted line s).coord.gatherRoll = s.coord.gatherRoll ∧ (lineDeasserted line s).gather = s.gather ∧
      (lineDeasserted line s).clock = s.clock ∧ (lineDeasserted line s).supplyFail = s.supplyFail ∧
      (lineDeasserted line s).past = s.past ∧
      (lineDeasserted line s).now = s.now ∧ (lineDeasserted line s).own = s.own ∧
      (lineDeasserted line s).header = s.header := by
  unfold lineDeasserted
  (repeat' split) <;> simp [State.own]

@[simp] theorem ampSupplyFail_frame (s : State) :
    (ampSupplyFail s).pending = s.pending ∧ (ampSupplyFail s).plan = s.plan ∧ (ampSupplyFail s).synth = s.synth ∧
      (ampSupplyFail s).engine = s.engine ∧ (ampSupplyFail s).cond = s.cond ∧
      (ampSupplyFail s).breaker = s.breaker ∧ (ampSupplyFail s).amp.count = s.amp.count ∧
      (ampSupplyFail s).amp.debouncers = s.amp.debouncers ∧ (ampSupplyFail s).eval = s.eval ∧
      (ampSupplyFail s).link = s.link ∧ (ampSupplyFail s).coord = s.coord ∧ (ampSupplyFail s).store = s.store ∧
      (ampSupplyFail s).gather = s.gather ∧ (ampSupplyFail s).clock = s.clock ∧
      (ampSupplyFail s).supplyFail = s.supplyFail ∧
      (ampSupplyFail s).past = s.past ∧
      (ampSupplyFail s).now = s.now ∧ (ampSupplyFail s).own = s.own ∧
      (ampSupplyFail s).runActive = s.runActive ∧ (ampSupplyFail s).runUnderWay = s.runUnderWay ∧
      (ampSupplyFail s).header = s.header := by
  unfold ampSupplyFail
  (repeat' split) <;> simp

@[simp] theorem supplyFails_frame (s : State) :
    (supplyFails s).pending = s.pending ∧ (supplyFails s).plan = s.plan ∧
      (supplyFails s).engine.runLabel = s.engine.runLabel ∧
      (supplyFails s).engine.visitCount = s.engine.visitCount ∧
      (supplyFails s).engine.latestVisit = s.engine.latestVisit ∧ (supplyFails s).cond = s.cond ∧
      (supplyFails s).amp.count = s.amp.count ∧ (supplyFails s).amp.debouncers = s.amp.debouncers ∧
      (supplyFails s).link.straps = s.link.straps ∧ (supplyFails s).link.state = s.link.state ∧
      (supplyFails s).link.requests = s.link.requests ∧ (supplyFails s).link.replySlot = s.link.replySlot ∧
      (supplyFails s).link.outstanding = s.link.outstanding ∧ (supplyFails s).link.resync = s.link.resync ∧
      (supplyFails s).link.drive = s.link.drive ∧ (supplyFails s).coord.count = s.coord.count ∧
      (supplyFails s).coord.gatherRoll = s.coord.gatherRoll ∧ (supplyFails s).gather = s.gather ∧
      (supplyFails s).clock = s.clock ∧ (supplyFails s).past = s.past ∧ (supplyFails s).now = s.now ∧
      (supplyFails s).own = s.own ∧
      (supplyFails s).header = s.header := by
  unfold supplyFails
  dsimp only
  (repeat' split) <;> simp [State.own]

end Sys2Proof.Machine
end

