-- ==== Sys2Proof/Laws/FramesGather.lean ====
section
/-! SUPPORT. Frames: for each shared operation of the Gather Engine, the Coordination Unit and the notices, one lemma
that says what it leaves as it was, block by block and field by field. -/

namespace Sys2Proof.Machine

@[simp] theorem sendGatherDone_frame (l : Label) (requester : Option (StationNo × Byte)) (s : State) :
    (sendGatherDone l requester s).pending = s.pending ∧ (sendGatherDone l requester s).plan = s.plan ∧
      (sendGatherDone l requester s).synth = s.synth ∧ (sendGatherDone l requester s).engine = s.engine ∧
      (sendGatherDone l requester s).cond = s.cond ∧ (sendGatherDone l requester s).breaker = s.breaker ∧
      (sendGatherDone l requester s).amp = s.amp ∧ (sendGatherDone l requester s).eval = s.eval ∧
      (sendGatherDone l requester s).link.straps = s.link.straps ∧
      (sendGatherDone l requester s).link.state = s.link.state ∧
      (sendGatherDone l requester s).link.requests = s.link.requests ∧
      (sendGatherDone l requester s).link.replySlot = s.link.replySlot ∧
      (sendGatherDone l requester s).link.outstanding = s.link.outstanding ∧
      (sendGatherDone l requester s).link.resync = s.link.resync ∧
      (sendGatherDone l requester s).link.drive = s.link.drive ∧ (sendGatherDone l requester s).coord = s.coord ∧
      (sendGatherDone l requester s).store = s.store ∧ (sendGatherDone l requester s).gather = s.gather ∧
      (sendGatherDone l requester s).clock = s.clock ∧ (sendGatherDone l requester s).supplyFail = s.supplyFail ∧
      (sendGatherDone l requester s).past = s.past ∧
      (sendGatherDone l requester s).now = s.now ∧ (sendGatherDone l requester s).own = s.own ∧
      (sendGatherDone l requester s).runActive = s.runActive ∧
      (sendGatherDone l requester s).runUnderWay = s.runUnderWay ∧ (sendGatherDone l requester s).header = s.header := by
  unfold sendGatherDone
  (repeat' split) <;> simp [State.own]

@[simp] theorem endGather_frame (c : Cursor) (o : GatherOutcome) (s : State) :
    (endGather c o s).pending = s.pending ∧ (endGather c o s).plan = s.plan ∧ (endGather c o s).synth = s.synth ∧
      (endGather c o s).engine = s.engine ∧ (endGather c o s).cond = s.cond ∧
      (endGather c o s).breaker = s.breaker ∧ (endGather c o s).amp = s.amp ∧ (endGather c o s).eval = s.eval ∧
      (endGather c o s).link.straps = s.link.straps ∧ (endGather c o s).link.state = s.link.state ∧
      (endGather c o s).link.requests = s.link.requests ∧ (endGather c o s).link.replySlot = s.link.replySlot ∧
      (endGather c o s).link.outstanding = s.link.outstanding ∧ (endGather c o s).link.resync = s.link.resync ∧
      (endGather c o s).link.drive = s.link.drive ∧ (endGather c o s).coord = s.coord ∧
      (endGather c o s).store = s.store ∧ (endGather c o s).gather.count = s.gather.count ∧
      (endGather c o s).gather.tagCounter = s.gather.tagCounter ∧
      (endGather c o s).gather.onFinish = s.gather.onFinish ∧ (endGather c o s).clock = s.clock ∧
      (endGather c o s).supplyFail = s.supplyFail ∧
      (endGather c o s).past = s.past ∧
      (endGather c o s).now = s.now ∧ (endGather c o s).own = s.own ∧
      (endGather c o s).runActive = s.runActive ∧ (endGather c o s).runUnderWay = s.runUnderWay ∧
      (endGather c o s).header = s.header := by
  simp [endGather, State.own]

@[simp] theorem closeStation_frame (st : StationNo) (x : StationStatus) (c : Cursor) (s : State) :
    (closeStation st x c s).pending = s.pending ∧ (closeStation st x c s).plan = s.plan ∧
      (closeStation st x c s).synth = s.synth ∧ (closeStation st x c s).engine = s.engine ∧
      (closeStation st x c s).cond = s.cond ∧ (closeStation st x c s).breaker = s.breaker ∧
      (closeStation st x c s).amp = s.amp ∧ (closeStation st x c s).eval = s.eval ∧
      (closeStation st x c s).link = s.link ∧ (closeStation st x c s).coord = s.coord ∧
      (closeStation st x c s).store = s.store ∧ (closeStation st x c s).gather.count = s.gather.count ∧
      (closeStation st x c s).gather.state = s.gather.state ∧
      (closeStation st x c s).gather.tagCounter = s.gather.tagCounter ∧
      (closeStation st x c s).gather.onFinish = s.gather.onFinish ∧ (closeStation st x c s).status = s.status ∧
      (closeStation st x c s).clock = s.clock ∧ (closeStation st x c s).supplyFail = s.supplyFail ∧
      (closeStation st x c s).past = s.past ∧
      (closeStation st x c s).now = s.now ∧ (closeStation st x c s).own = s.own ∧
      (closeStation st x c s).runActive = s.runActive ∧ (closeStation st x c s).runUnderWay = s.runUnderWay ∧
      (closeStation st x c s).header = s.header := by
  simp [closeStation]

@[simp] theorem takeRecord_frame (st : StationNo) (kind : Nat) (time : Instant) (contents : List Byte) (c : Cursor) (s
    : State) :
    (takeRecord st kind time contents c s).pending = s.pending ∧
      (takeRecord st kind time contents c s).plan = s.plan ∧
      (takeRecord st kind time contents c s).synth = s.synth ∧
      (takeRecord st kind time contents c s).engine = s.engine ∧
      (takeRecord st kind time contents c s).cond = s.cond ∧
      (takeRecord st kind time contents c s).breaker = s.breaker ∧
      (takeRecord st kind time contents c s).amp = s.amp ∧ (takeRecord st kind time contents c s).eval = s.eval ∧
      (takeRecord st kind time contents c s).link = s.link ∧
      (takeRecord st kind time contents c s).coord = s.coord ∧
      (takeRecord st kind time contents c s).store = s.store ∧
      (takeRecord st kind time contents c s).gather.count = s.gather.count ∧
      (takeRecord st kind time contents c s).gather.state = s.gather.state ∧
      (takeRecord st kind time contents c s).gather.tagCounter = s.gather.tagCounter ∧
      (takeRecord st kind time contents c s).gather.onFinish = s.gather.onFinish ∧
      (takeRecord st kind time contents c s).status = s.status ∧
      (takeRecord st kind time contents c s).clock = s.clock ∧
      (takeRecord st kind time contents c s).supplyFail = s.supplyFail ∧
      (takeRecord st kind time contents c s).past = s.past ∧
      (takeRecord st kind time contents c s).now = s.now ∧ (takeRecord st kind time contents c s).own = s.own ∧
      (takeRecord st kind time contents c s).runActive = s.runActive ∧
      (takeRecord st kind time contents c s).runUnderWay = s.runUnderWay ∧
      (takeRecord st kind time contents c s).header = s.header := by
  simp [takeRecord]

@[simp] theorem takeNotYet_frame (st : StationNo) (c : Cursor) (s : State) :
    (takeNotYet st c s).pending = s.pending ∧ (takeNotYet st c s).plan = s.plan ∧
      (takeNotYet st c s).synth = s.synth ∧ (takeNotYet st c s).engine = s.engine ∧
      (takeNotYet st c s).cond = s.cond ∧ (takeNotYet st c s).breaker = s.breaker ∧
      (takeNotYet st c s).amp = s.amp ∧ (takeNotYet st c s).eval = s.eval ∧ (takeNotYet st c s).link = s.link ∧
      (takeNotYet st c s).coord = s.coord ∧ (takeNotYet st c s).store = s.store ∧
      (takeNotYet st c s).gather.count = s.gather.count ∧ (takeNotYet st c s).gather.state = s.gather.state ∧
      (takeNotYet st c s).gather.tagCounter = s.gather.tagCounter ∧
      (takeNotYet st c s).gather.onFinish = s.gather.onFinish ∧ (takeNotYet st c s).status = s.status ∧
      (takeNotYet st c s).clock = s.clock ∧ (takeNotYet st c s).supplyFail = s.supplyFail ∧
      (takeNotYet st c s).past = s.past ∧
      (takeNotYet st c s).now = s.now ∧ (takeNotYet st c s).own = s.own ∧
      (takeNotYet st c s).runActive = s.runActive ∧ (takeNotYet st c s).runUnderWay = s.runUnderWay ∧
      (takeNotYet st c s).header = s.header := by
  unfold takeNotYet
  dsimp only
  (repeat' split) <;> simp

@[simp] theorem takeAnswer_frame (st : StationNo) (a : SweepAnswer) (c : Cursor) (s : State) :
    (takeAnswer st a c s).pending = s.pending ∧ (takeAnswer st a c s).plan = s.plan ∧
      (takeAnswer st a c s).synth = s.synth ∧ (takeAnswer st a c s).engine = s.engine ∧
      (takeAnswer st a c s).cond = s.cond ∧ (takeAnswer st a c s).breaker = s.breaker ∧
      (takeAnswer st a c s).amp = s.amp ∧ (takeAnswer st a c s).eval = s.eval ∧
      (takeAnswer st a c s).link = s.link ∧ (takeAnswer st a c s).coord = s.coord ∧
      (takeAnswer st a c s).store = s.store ∧ (takeAnswer st a c s).gather.count = s.gather.count ∧
      (takeAnswer st a c s).gather.state = s.gather.state ∧
      (takeAnswer st a c s).gather.tagCounter = s.gather.tagCounter ∧
      (takeAnswer st a c s).gather.onFinish = s.gather.onFinish ∧ (takeAnswer st a c s).status = s.status ∧
      (takeAnswer st a c s).clock = s.clock ∧ (takeAnswer st a c s).supplyFail = s.supplyFail ∧
      (takeAnswer st a c s).past = s.past ∧
      (takeAnswer st a c s).now = s.now ∧ (takeAnswer st a c s).own = s.own ∧
      (takeAnswer st a c s).runActive = s.runActive ∧ (takeAnswer st a c s).runUnderWay = s.runUnderWay ∧
      (takeAnswer st a c s).header = s.header := by
  unfold takeAnswer
  (repeat' split) <;> simp

@[simp] theorem remoteRead_frame (st : StationNo) (c : Cursor) (s : State) :
    (remoteRead st c s).pending = s.pending ∧ (remoteRead st c s).plan = s.plan ∧
      (remoteRead st c s).synth = s.synth ∧ (remoteRead st c s).engine = s.engine ∧
      (remoteRead st c s).cond = s.cond ∧ (remoteRead st c s).breaker = s.breaker ∧
      (remoteRead st c s).amp = s.amp ∧ (remoteRead st c s).eval = s.eval ∧
      (remoteRead st c s).link.straps = s.link.straps ∧ (remoteRead st c s).link.state = s.link.state ∧
      (remoteRead st c s).link.requests = s.link.requests ∧ (remoteRead st c s).link.replySlot = s.link.replySlot ∧
      (remoteRead st c s).link.resync = s.link.resync ∧ (remoteRead st c s).link.drive = s.link.drive ∧
      (remoteRead st c s).coord = s.coord ∧ (remoteRead st c s).store = s.store ∧
      (remoteRead st c s).gather.count = s.gather.count ∧ (remoteRead st c s).gather.state = s.gather.state ∧
      (remoteRead st c s).gather.onFinish = s.gather.onFinish ∧
      (remoteRead st c s).gather.report = s.gather.report ∧ (remoteRead st c s).clock = s.clock ∧
      (remoteRead st c s).supplyFail = s.supplyFail ∧
      (remoteRead st c s).past = s.past ∧
      (remoteRead st c s).now = s.now ∧
      (remoteRead st c s).own = s.own ∧ (remoteRead st c s).runActive = s.runActive ∧
      (remoteRead st c s).runUnderWay = s.runUnderWay ∧ (remoteRead st c s).header = s.header := by
  simp [remoteRead, State.own]

@[simp] theorem sweepOn_frame (n : Nat) (s : State) :
    (sweepOn n s).pending = s.pending ∧ (sweepOn n s).plan = s.plan ∧ (sweepOn n s).synth = s.synth ∧
      (sweepOn n s).engine = s.engine ∧ (sweepOn n s).cond = s.cond ∧ (sweepOn n s).breaker = s.breaker ∧
      (sweepOn n s).amp = s.amp ∧ (sweepOn n s).eval = s.eval ∧ (sweepOn n s).link.straps = s.link.straps ∧
      (sweepOn n s).link.state = s.link.state ∧ (sweepOn n s).link.requests = s.link.requests ∧
      (sweepOn n s).link.replySlot = s.link.replySlot ∧ (sweepOn n s).link.resync = s.link.resync ∧
      (sweepOn n s).link.drive = s.link.drive ∧ (sweepOn n s).coord = s.coord ∧ (sweepOn n s).store = s.store ∧
      (sweepOn n s).gather.count = s.gather.count ∧ (sweepOn n s).gather.onFinish = s.gather.onFinish ∧
      (sweepOn n s).clock = s.clock ∧ (sweepOn n s).supplyFail = s.supplyFail ∧
      (sweepOn n s).past = s.past ∧
      (sweepOn n s).now = s.now ∧
      (sweepOn n s).own = s.own ∧ (sweepOn n s).runActive = s.runActive ∧
      (sweepOn n s).runUnderWay = s.runUnderWay ∧ (sweepOn n s).header = s.header := by
  induction n generalizing s with
  | zero => simp [sweepOn, State.now, State.own]
  | succ n ih =>
      simp only [sweepOn]
      (repeat' split) <;> simp [ih, State.own]

@[simp] theorem clearOutstanding_frame (s : State) :
    (clearOutstanding s).pending = s.pending ∧ (clearOutstanding s).plan = s.plan ∧
      (clearOutstanding s).synth = s.synth ∧ (clearOutstanding s).engine = s.engine ∧
      (clearOutstanding s).cond = s.cond ∧ (clearOutstanding s).breaker = s.breaker ∧
      (clearOutstanding s).amp = s.amp ∧ (clearOutstanding s).eval = s.eval ∧
      (clearOutstanding s).link.straps = s.link.straps ∧ (clearOutstanding s).link.state = s.link.state ∧
      (clearOutstanding s).link.tx = s.link.tx ∧ (clearOutstanding s).link.nextAge = s.link.nextAge ∧
      (clearOutstanding s).link.requests = s.link.requests ∧
      (clearOutstanding s).link.replySlot = s.link.replySlot ∧ (clearOutstanding s).link.resync = s.link.resync ∧
      (clearOutstanding s).link.drive = s.link.drive ∧ (clearOutstanding s).link.notices = s.link.notices ∧
      (clearOutstanding s).coord = s.coord ∧ (clearOutstanding s).store = s.store ∧
      (clearOutstanding s).gather = s.gather ∧ (clearOutstanding s).status = s.status ∧
      (clearOutstanding s).clock = s.clock ∧ (clearOutstanding s).supplyFail = s.supplyFail ∧
      (clearOutstanding s).past = s.past ∧
      (clearOutstanding s).now = s.now ∧ (clearOutstanding s).own = s.own ∧
      (clearOutstanding s).runActive = s.runActive ∧ (clearOutstanding s).runUnderWay = s.runUnderWay ∧
      (clearOutstanding s).header = s.header := by
  simp [clearOutstanding, State.own]

@[simp] theorem readSilent_frame (s : State) :
    (readSilent s).pending = s.pending ∧ (readSilent s).plan = s.plan ∧ (readSilent s).synth = s.synth ∧
      (readSilent s).engine = s.engine ∧ (readSilent s).cond = s.cond ∧ (readSilent s).breaker = s.breaker ∧
      (readSilent s).amp = s.amp ∧ (readSilent s).eval = s.eval ∧ (readSilent s).link.straps = s.link.straps ∧
      (readSilent s).link.state = s.link.state ∧ (readSilent s).link.requests = s.link.requests ∧
      (readSilent s).link.replySlot = s.link.replySlot ∧ (readSilent s).link.resync = s.link.resync ∧
      (readSilent s).link.drive = s.link.drive ∧ (readSilent s).coord = s.coord ∧ (readSilent s).store = s.store ∧
      (readSilent s).gather.count = s.gather.count ∧ (readSilent s).gather.onFinish = s.gather.onFinish ∧
      (readSilent s).clock = s.clock ∧ (readSilent s).supplyFail = s.supplyFail ∧
      (readSilent s).past = s.past ∧
      (readSilent s).now = s.now ∧
      (readSilent s).own = s.own ∧ (readSilent s).runActive = s.runActive ∧
      (readSilent s).runUnderWay = s.runUnderWay ∧ (readSilent s).header = s.header := by
  unfold readSilent
  (repeat' split) <;> simp [State.own]

@[simp] theorem readOutcome_frame (dest : Option StationNo) (tag : Byte) (o : FrameOutcome) (s : State) :
    (readOutcome dest tag o s).pending = s.pending ∧ (readOutcome dest tag o s).plan = s.plan ∧
      (readOutcome dest tag o s).synth = s.synth ∧ (readOutcome dest tag o s).engine = s.engine ∧
      (readOutcome dest tag o s).cond = s.cond ∧ (readOutcome dest tag o s).breaker = s.breaker ∧
      (readOutcome dest tag o s).amp = s.amp ∧ (readOutcome dest tag o s).eval = s.eval ∧
      (readOutcome dest tag o s).link.straps = s.link.straps ∧
      (readOutcome dest tag o s).link.state = s.link.state ∧
      (readOutcome dest tag o s).link.requests = s.link.requests ∧
      (readOutcome dest tag o s).link.replySlot = s.link.replySlot ∧
      (readOutcome dest tag o s).link.resync = s.link.resync ∧
      (readOutcome dest tag o s).link.drive = s.link.drive ∧ (readOutcome dest tag o s).coord = s.coord ∧
      (readOutcome dest tag o s).store = s.store ∧ (readOutcome dest tag o s).gather.count = s.gather.count ∧
      (readOutcome dest tag o s).gather.onFinish = s.gather.onFinish ∧ (readOutcome dest tag o s).clock = s.clock ∧
      (readOutcome dest tag o s).supplyFail = s.supplyFail ∧
      (readOutcome dest tag o s).past = s.past ∧
      (readOutcome dest tag o s).now = s.now ∧
      (readOutcome dest tag o s).own = s.own ∧ (readOutcome dest tag o s).runActive = s.runActive ∧
      (readOutcome dest tag o s).runUnderWay = s.runUnderWay ∧ (readOutcome dest tag o s).header = s.header := by
  unfold readOutcome
  (repeat' split) <;> simp [State.own]

@[simp] theorem takeReply_frame (r : Reply) (s : State) :
    (takeReply r s).pending = s.pending ∧ (takeReply r s).plan = s.plan ∧ (takeReply r s).synth = s.synth ∧
      (takeReply r s).engine = s.engine ∧ (takeReply r s).cond = s.cond ∧ (takeReply r s).breaker = s.breaker ∧
      (takeReply r s).amp = s.amp ∧ (takeReply r s).eval = s.eval ∧ (takeReply r s).link.straps = s.link.straps ∧
      (takeReply r s).link.state = s.link.state ∧ (takeReply r s).link.requests = s.link.requests ∧
      (takeReply r s).link.replySlot = s.link.replySlot ∧ (takeReply r s).link.resync = s.link.resync ∧
      (takeReply r s).link.drive = s.link.drive ∧ (takeReply r s).coord = s.coord ∧
      (takeReply r s).store = s.store ∧ (takeReply r s).gather.count = s.gather.count ∧
      (takeReply r s).gather.onFinish = s.gather.onFinish ∧ (takeReply r s).clock = s.clock ∧
      (takeReply r s).supplyFail = s.supplyFail ∧
      (takeReply r s).past = s.past ∧
      (takeReply r s).now = s.now ∧ (takeReply r s).own = s.own ∧
      (takeReply r s).runActive = s.runActive ∧ (takeReply r s).runUnderWay = s.runUnderWay ∧
      (takeReply r s).header = s.header := by
  unfold takeReply
  (repeat' split) <;> simp [State.own]

@[simp] theorem replyAccepted_frame (r : Reply) (s : State) :
    (replyAccepted r s).pending = s.pending ∧ (replyAccepted r s).plan = s.plan ∧
      (replyAccepted r s).synth = s.synth ∧ (replyAccepted r s).engine = s.engine ∧
      (replyAccepted r s).cond = s.cond ∧ (replyAccepted r s).breaker = s.breaker ∧
      (replyAccepted r s).amp = s.amp ∧ (replyAccepted r s).eval = s.eval ∧
      (replyAccepted r s).link.straps = s.link.straps ∧ (replyAccepted r s).link.state = s.link.state ∧
      (replyAccepted r s).link.requests = s.link.requests ∧ (replyAccepted r s).link.replySlot = s.link.replySlot ∧
      (replyAccepted r s).link.resync = s.link.resync ∧ (replyAccepted r s).link.drive = s.link.drive ∧
      (replyAccepted r s).coord = s.coord ∧ (replyAccepted r s).store = s.store ∧
      (replyAccepted r s).gather.count = s.gather.count ∧ (replyAccepted r s).gather.onFinish = s.gather.onFinish ∧
      (replyAccepted r s).clock = s.clock ∧ (replyAccepted r s).supplyFail = s.supplyFail ∧
      (replyAccepted r s).past = s.past ∧
      (replyAccepted r s).now = s.now ∧ (replyAccepted r s).own = s.own ∧
      (replyAccepted r s).runActive = s.runActive ∧ (replyAccepted r s).runUnderWay = s.runUnderWay ∧
      (replyAccepted r s).header = s.header := by
  unfold replyAccepted
  (repeat' split) <;> simp [State.own]

@[simp] theorem takeRepeat_frame (s : State) :
    (takeRepeat s).pending = s.pending ∧ (takeRepeat s).plan = s.plan ∧ (takeRepeat s).synth = s.synth ∧
      (takeRepeat s).engine = s.engine ∧ (takeRepeat s).cond = s.cond ∧ (takeRepeat s).breaker = s.breaker ∧
      (takeRepeat s).amp = s.amp ∧ (takeRepeat s).eval = s.eval ∧ (takeRepeat s).link.straps = s.link.straps ∧
      (takeRepeat s).link.state = s.link.state ∧ (takeRepeat s).link.requests = s.link.requests ∧
      (takeRepeat s).link.replySlot = s.link.replySlot ∧ (takeRepeat s).link.resync = s.link.resync ∧
      (takeRepeat s).link.drive = s.link.drive ∧ (takeRepeat s).coord = s.coord ∧ (takeRepeat s).store = s.store ∧
      (takeRepeat s).gather.count = s.gather.count ∧ (takeRepeat s).gather.onFinish = s.gather.onFinish ∧
      (takeRepeat s).clock = s.clock ∧ (takeRepeat s).supplyFail = s.supplyFail ∧
      (takeRepeat s).past = s.past ∧
      (takeRepeat s).now = s.now ∧
      (takeRepeat s).own = s.own ∧ (takeRepeat s).runActive = s.runActive ∧
      (takeRepeat s).runUnderWay = s.runUnderWay ∧ (takeRepeat s).header = s.header := by
  simp [takeRepeat, State.own]

@[simp] theorem beginSweep_frame (set : Vector Bool 16) (c : Cursor) (s : State) :
    (beginSweep set c s).pending = s.pending ∧ (beginSweep set c s).plan = s.plan ∧
      (beginSweep set c s).synth = s.synth ∧ (beginSweep set c s).engine = s.engine ∧
      (beginSweep set c s).cond = s.cond ∧ (beginSweep set c s).breaker = s.breaker ∧
      (beginSweep set c s).amp = s.amp ∧ (beginSweep set c s).eval = s.eval ∧
      (beginSweep set c s).link.straps = s.link.straps ∧ (beginSweep set c s).link.state = s.link.state ∧
      (beginSweep set c s).link.requests = s.link.requests ∧
      (beginSweep set c s).link.replySlot = s.link.replySlot ∧ (beginSweep set c s).link.resync = s.link.resync ∧
      (beginSweep set c s).link.drive = s.link.drive ∧ (beginSweep set c s).coord = s.coord ∧
      (beginSweep set c s).store = s.store ∧ (beginSweep set c s).gather.count = s.gather.count ∧
      (beginSweep set c s).gather.onFinish = s.gather.onFinish ∧ (beginSweep set c s).clock = s.clock ∧
      (beginSweep set c s).supplyFail = s.supplyFail ∧
      (beginSweep set c s).past = s.past ∧
      (beginSweep set c s).now = s.now ∧
      (beginSweep set c s).own = s.own ∧ (beginSweep set c s).runActive = s.runActive ∧
      (beginSweep set c s).runUnderWay = s.runUnderWay ∧ (beginSweep set c s).header = s.header := by
  simp [beginSweep, State.own]

@[simp] theorem beginGather_frame (q : GatherRequest) (requester : Option (StationNo × Byte)) (s : State) :
    (beginGather q requester s).pending = s.pending ∧ (beginGather q requester s).plan = s.plan ∧
      (beginGather q requester s).synth = s.synth ∧ (beginGather q requester s).engine = s.engine ∧
      (beginGather q requester s).cond = s.cond ∧ (beginGather q requester s).breaker = s.breaker ∧
      (beginGather q requester s).amp = s.amp ∧ (beginGather q requester s).eval = s.eval ∧
      (beginGather q requester s).link.straps = s.link.straps ∧
      (beginGather q requester s).link.state = s.link.state ∧
      (beginGather q requester s).link.requests = s.link.requests ∧
      (beginGather q requester s).link.replySlot = s.link.replySlot ∧
      (beginGather q requester s).link.resync = s.link.resync ∧
      (beginGather q requester s).link.drive = s.link.drive ∧
      (beginGather q requester s).coord.count = s.coord.count ∧
      (beginGather q requester s).coord.poller = s.coord.poller ∧
      (beginGather q requester s).coord.nextPoll = s.coord.nextPoll ∧
      (beginGather q requester s).coord.ownRoll = s.coord.ownRoll ∧
      (beginGather q requester s).coord.ownStart = s.coord.ownStart ∧ (beginGather q requester s).store = s.store ∧
      (beginGather q requester s).gather.count = s.gather.count ∧
      (beginGather q requester s).gather.onFinish = s.gather.onFinish ∧
      (beginGather q requester s).clock = s.clock ∧ (beginGather q requester s).supplyFail = s.supplyFail ∧
      (beginGather q requester s).past = s.past ∧
      (beginGather q requester s).now = s.now ∧ (beginGather q requester s).own = s.own ∧
      (beginGather q requester s).runActive = s.runActive ∧
      (beginGather q requester s).runUnderWay = s.runUnderWay ∧ (beginGather q requester s).header = s.header := by
  unfold beginGather
  (repeat' split) <;> simp [State.own]

@[simp] theorem gatherMap_frame (answers : BitVec 16) (s : State) :
    (gatherMap answers s).pending = s.pending ∧ (gatherMap answers s).plan = s.plan ∧
      (gatherMap answers s).synth = s.synth ∧ (gatherMap answers s).engine = s.engine ∧
      (gatherMap answers s).cond = s.cond ∧ (gatherMap answers s).breaker = s.breaker ∧
      (gatherMap answers s).amp = s.amp ∧ (gatherMap answers s).eval = s.eval ∧
      (gatherMap answers s).link.straps = s.link.straps ∧ (gatherMap answers s).link.state = s.link.state ∧
      (gatherMap answers s).link.requests = s.link.requests ∧
      (gatherMap answers s).link.replySlot = s.link.replySlot ∧ (gatherMap answers s).link.resync = s.link.resync ∧
      (gatherMap answers s).link.drive = s.link.drive ∧ (gatherMap answers s).coord.count = s.coord.count ∧
      (gatherMap answers s).coord.poller = s.coord.poller ∧
      (gatherMap answers s).coord.nextPoll = s.coord.nextPoll ∧
      (gatherMap answers s).coord.ownRoll = s.coord.ownRoll ∧
      (gatherMap answers s).coord.ownStart = s.coord.ownStart ∧ (gatherMap answers s).store = s.store ∧
      (gatherMap answers s).gather.count = s.gather.count ∧
      (gatherMap answers s).gather.onFinish = s.gather.onFinish ∧ (gatherMap answers s).clock = s.clock ∧
      (gatherMap answers s).supplyFail = s.supplyFail ∧
      (gatherMap answers s).past = s.past ∧
      (gatherMap answers s).now = s.now ∧
      (gatherMap answers s).own = s.own ∧ (gatherMap answers s).runActive = s.runActive ∧
      (gatherMap answers s).runUnderWay = s.runUnderWay ∧ (gatherMap answers s).header = s.header := by
  unfold gatherMap
  dsimp only
  (repeat' split) <;> simp [State.own]

@[simp] theorem gatherRollLost_frame (s : State) :
    (gatherRollLost s).pending = s.pending ∧ (gatherRollLost s).plan = s.plan ∧ (gatherRollLost s).synth = s.synth ∧
      (gatherRollLost s).engine = s.engine ∧ (gatherRollLost s).cond = s.cond ∧
      (gatherRollLost s).breaker = s.breaker ∧ (gatherRollLost s).amp = s.amp ∧ (gatherRollLost s).eval = s.eval ∧
      (gatherRollLost s).link.straps = s.link.straps ∧ (gatherRollLost s).link.state = s.link.state ∧
      (gatherRollLost s).link.requests = s.link.requests ∧ (gatherRollLost s).link.replySlot = s.link.replySlot ∧
      (gatherRollLost s).link.outstanding = s.link.outstanding ∧ (gatherRollLost s).link.resync = s.link.resync ∧
      (gatherRollLost s).link.drive = s.link.drive ∧ (gatherRollLost s).coord.count = s.coord.count ∧
      (gatherRollLost s).coord.poller = s.coord.poller ∧ (gatherRollLost s).coord.nextPoll = s.coord.nextPoll ∧
      (gatherRollLost s).coord.ownRoll = s.coord.ownRoll ∧ (gatherRollLost s).coord.ownStart = s.coord.ownStart ∧
      (gatherRollLost s).store = s.store ∧ (gatherRollLost s).gather.count = s.gather.count ∧
      (gatherRollLost s).gather.tagCounter = s.gather.tagCounter ∧
      (gatherRollLost s).gather.onFinish = s.gather.onFinish ∧ (gatherRollLost s).clock = s.clock ∧
      (gatherRollLost s).supplyFail = s.supplyFail ∧
      (gatherRollLost s).past = s.past ∧
      (gatherRollLost s).now = s.now ∧
      (gatherRollLost s).own = s.own ∧ (gatherRollLost s).runActive = s.runActive ∧
      (gatherRollLost s).runUnderWay = s.runUnderWay ∧ (gatherRollLost s).header = s.header := by
  unfold gatherRollLost
  dsimp only
  (repeat' split) <;> simp [State.own]

@[simp] theorem takeOnFinish_frame (s : State) :
    (takeOnFinish s).pending = s.pending ∧ (takeOnFinish s).plan = s.plan ∧ (takeOnFinish s).synth = s.synth ∧
      (takeOnFinish s).engine = s.engine ∧ (takeOnFinish s).cond = s.cond ∧ (takeOnFinish s).breaker = s.breaker ∧
      (takeOnFinish s).amp = s.amp ∧ (takeOnFinish s).eval = s.eval ∧ (takeOnFinish s).link.straps = s.link.straps ∧
      (takeOnFinish s).link.state = s.link.state ∧ (takeOnFinish s).link.requests = s.link.requests ∧
      (takeOnFinish s).link.replySlot = s.link.replySlot ∧ (takeOnFinish s).link.resync = s.link.resync ∧
      (takeOnFinish s).link.drive = s.link.drive ∧ (takeOnFinish s).coord.count = s.coord.count ∧
      (takeOnFinish s).coord.poller = s.coord.poller ∧ (takeOnFinish s).coord.nextPoll = s.coord.nextPoll ∧
      (takeOnFinish s).coord.ownRoll = s.coord.ownRoll ∧ (takeOnFinish s).coord.ownStart = s.coord.ownStart ∧
      (takeOnFinish s).store = s.store ∧ (takeOnFinish s).gather.count = s.gather.count ∧
      (takeOnFinish s).clock = s.clock ∧ (takeOnFinish s).supplyFail = s.supplyFail ∧
      (takeOnFinish s).past = s.past ∧
      (takeOnFinish s).now = s.now ∧
      (takeOnFinish s).own = s.own ∧ (takeOnFinish s).runActive = s.runActive ∧
      (takeOnFinish s).runUnderWay = s.runUnderWay ∧ (takeOnFinish s).header = s.header := by
  unfold takeOnFinish
  dsimp only
  (repeat' split) <;> simp [State.own]

@[simp] theorem gatherReset_frame (s : State) :
    (gatherReset s).pending = s.pending ∧ (gatherReset s).plan = s.plan ∧ (gatherReset s).synth = s.synth ∧
      (gatherReset s).engine = s.engine ∧ (gatherReset s).cond = s.cond ∧ (gatherReset s).breaker = s.breaker ∧
      (gatherReset s).amp = s.amp ∧ (gatherReset s).eval = s.eval ∧ (gatherReset s).link.straps = s.link.straps ∧
      (gatherReset s).link.state = s.link.state ∧ (gatherReset s).link.tx = s.link.tx ∧
      (gatherReset s).link.nextAge = s.link.nextAge ∧ (gatherReset s).link.requests = s.link.requests ∧
      (gatherReset s).link.replySlot = s.link.replySlot ∧ (gatherReset s).link.resync = s.link.resync ∧
      (gatherReset s).link.drive = s.link.drive ∧ (gatherReset s).link.notices = s.link.notices ∧
      (gatherReset s).coord.count = s.coord.count ∧ (gatherReset s).coord.poller = s.coord.poller ∧
      (gatherReset s).coord.nextPoll = s.coord.nextPoll ∧ (gatherReset s).coord.ownRoll = s.coord.ownRoll ∧
      (gatherReset s).coord.ownStart = s.coord.ownStart ∧ (gatherReset s).store = s.store ∧
      (gatherReset s).gather.count = s.gather.count ∧ (gatherReset s).gather.tagCounter = s.gather.tagCounter ∧
      (gatherReset s).status = s.status ∧ (gatherReset s).clock = s.clock ∧
      (gatherReset s).supplyFail = s.supplyFail ∧
      (gatherReset s).past = s.past ∧
      (gatherReset s).now = s.now ∧ (gatherReset s).own = s.own ∧
      (gatherReset s).runActive = s.runActive ∧ (gatherReset s).runUnderWay = s.runUnderWay ∧
      (gatherReset s).header = s.header := by
  unfold gatherReset
  dsimp only
  (repeat' split) <;> simp [State.own]

@[simp] theorem armAccept_frame (l : Label) (s : State) :
    (armAccept l s).pending = s.pending ∧ (armAccept l s).plan = s.plan ∧ (armAccept l s).synth = s.synth ∧
      (armAccept l s).engine.firstOperates = s.engine.firstOperates ∧
      (armAccept l s).engine.timers = s.engine.timers ∧ (armAccept l s).engine.backstop = s.engine.backstop ∧
      (armAccept l s).engine.held = s.engine.held ∧ (armAccept l s).engine.boLevels = s.engine.boLevels ∧
      (armAccept l s).engine.boSchedule = s.engine.boSchedule ∧
      (armAccept l s).engine.boHeld = s.engine.boHeld ∧ (armAccept l s).cond = s.cond ∧
      (armAccept l s).breaker = s.breaker ∧ (armAccept l s).amp.count = s.amp.count ∧
      (armAccept l s).amp.debouncers = s.amp.debouncers ∧ (armAccept l s).eval = s.eval ∧
      (armAccept l s).link.straps = s.link.straps ∧ (armAccept l s).link.state = s.link.state ∧
      (armAccept l s).link.requests = s.link.requests ∧ (armAccept l s).link.replySlot = s.link.replySlot ∧
      (armAccept l s).link.outstanding = s.link.outstanding ∧ (armAccept l s).link.resync = s.link.resync ∧
      (armAccept l s).link.drive = s.link.drive ∧ (armAccept l s).coord.count = s.coord.count ∧
      (armAccept l s).coord.ownStart = s.coord.ownStart ∧ (armAccept l s).coord.gatherRoll = s.coord.gatherRoll ∧
      (armAccept l s).store.blocks = s.store.blocks ∧ (armAccept l s).store.heldLabels = s.store.heldLabels ∧
      (armAccept l s).gather = s.gather ∧ (armAccept l s).clock = s.clock ∧
      (armAccept l s).supplyFail = s.supplyFail ∧
      (armAccept l s).past = s.past ∧
      (armAccept l s).now = s.now ∧ (armAccept l s).own = s.own ∧
      (armAccept l s).header = s.header := by
  simp [armAccept, State.own]

@[simp] theorem coordArm_frame (l : Label) (s : State) :
    (coordArm l s).pending = s.pending ∧ (coordArm l s).plan = s.plan ∧ (coordArm l s).synth = s.synth ∧
      (coordArm l s).engine.firstOperates = s.engine.firstOperates ∧
      (coordArm l s).engine.timers = s.engine.timers ∧ (coordArm l s).engine.backstop = s.engine.backstop ∧
      (coordArm l s).engine.held = s.engine.held ∧ (coordArm l s).engine.boLevels = s.engine.boLevels ∧
      (coordArm l s).engine.boSchedule = s.engine.boSchedule ∧
      (coordArm l s).engine.boHeld = s.engine.boHeld ∧ (coordArm l s).cond = s.cond ∧
      (coordArm l s).breaker = s.breaker ∧ (coordArm l s).amp.count = s.amp.count ∧
      (coordArm l s).amp.debouncers = s.amp.debouncers ∧ (coordArm l s).eval = s.eval ∧
      (coordArm l s).link.straps = s.link.straps ∧ (coordArm l s).link.state = s.link.state ∧
      (coordArm l s).link.requests = s.link.requests ∧ (coordArm l s).link.replySlot = s.link.replySlot ∧
      (coordArm l s).link.outstanding = s.link.outstanding ∧ (coordArm l s).link.resync = s.link.resync ∧
      (coordArm l s).link.drive = s.link.drive ∧ (coordArm l s).coord.count = s.coord.count ∧
      (coordArm l s).coord.ownStart = s.coord.ownStart ∧ (coordArm l s).coord.gatherRoll = s.coord.gatherRoll ∧
      (coordArm l s).store.blocks = s.store.blocks ∧ (coordArm l s).store.heldLabels = s.store.heldLabels ∧
      (coordArm l s).gather = s.gather ∧ (coordArm l s).clock = s.clock ∧ (coordArm l s).supplyFail = s.supplyFail ∧
      (coordArm l s).past = s.past ∧
      (coordArm l s).now = s.now ∧ (coordArm l s).own = s.own ∧ (coordArm l s).header = s.header := by
  unfold coordArm
  (repeat' split) <;> simp [State.own]

@[simp] theorem coordDisarm_frame (l : Label) (s : State) :
    (coordDisarm l s).pending = s.pending ∧ (coordDisarm l s).plan = s.plan ∧ (coordDisarm l s).synth = s.synth ∧
      (coordDisarm l s).engine.visit = s.engine.visit ∧ (coordDisarm l s).engine.visitCount = s.engine.visitCount ∧
      (coordDisarm l s).engine.decided = s.engine.decided ∧
      (coordDisarm l s).engine.pendingMark = s.engine.pendingMark ∧
      (coordDisarm l s).engine.pendingFallback = s.engine.pendingFallback ∧
      (coordDisarm l s).engine.firstOperates = s.engine.firstOperates ∧
      (coordDisarm l s).engine.timers = s.engine.timers ∧ (coordDisarm l s).engine.backstop = s.engine.backstop ∧
      (coordDisarm l s).engine.held = s.engine.held ∧ (coordDisarm l s).engine.latestVisit = s.engine.latestVisit ∧
      (coordDisarm l s).engine.endReason = s.engine.endReason ∧
      (coordDisarm l s).engine.lastState = s.engine.lastState ∧
      (coordDisarm l s).engine.boLevels = s.engine.boLevels ∧
      (coordDisarm l s).engine.boSchedule = s.engine.boSchedule ∧
      (coordDisarm l s).engine.boHeld = s.engine.boHeld ∧ (coordDisarm l s).cond = s.cond ∧
      (coordDisarm l s).breaker = s.breaker ∧ (coordDisarm l s).amp.count = s.amp.count ∧
      (coordDisarm l s).amp.debouncers = s.amp.debouncers ∧ (coordDisarm l s).eval = s.eval ∧
      (coordDisarm l s).link.straps = s.link.straps ∧ (coordDisarm l s).link.state = s.link.state ∧
      (coordDisarm l s).link.nextAge = s.link.nextAge ∧ (coordDisarm l s).link.requests = s.link.requests ∧
      (coordDisarm l s).link.replySlot = s.link.replySlot ∧
      (coordDisarm l s).link.outstanding = s.link.outstanding ∧ (coordDisarm l s).link.resync = s.link.resync ∧
      (coordDisarm l s).link.drive = s.link.drive ∧ (coordDisarm l s).link.notices = s.link.notices ∧
      (coordDisarm l s).coord.count = s.coord.count ∧ (coordDisarm l s).coord.gatherRoll = s.coord.gatherRoll ∧
      (coordDisarm l s).store.blocks = s.store.blocks ∧ (coordDisarm l s).store.heldLabels = s.store.heldLabels ∧
      (coordDisarm l s).gather = s.gather ∧ (coordDisarm l s).clock = s.clock ∧
      (coordDisarm l s).supplyFail = s.supplyFail ∧
      (coordDisarm l s).past = s.past ∧
      (coordDisarm l s).now = s.now ∧ (coordDisarm l s).own = s.own ∧
      (coordDisarm l s).header = s.header := by
  unfold coordDisarm
  (repeat' split) <;> simp [State.own]

@[simp] theorem coordMark_frame (origin : StationNo) (l : Label) (code : Byte) (detection : Instant) (s : State) :
    (coordMark origin l code detection s).pending = s.pending ∧
      (coordMark origin l code detection s).plan = s.plan ∧
      (coordMark origin l code detection s).engine.runLabel = s.engine.runLabel ∧
      (coordMark origin l code detection s).cond = s.cond ∧
      (coordMark origin l code detection s).amp.count = s.amp.count ∧
      (coordMark origin l code detection s).amp.state = s.amp.state ∧
      (coordMark origin l code detection s).amp.warmUp = s.amp.warmUp ∧
      (coordMark origin l code detection s).amp.debouncers = s.amp.debouncers ∧
      (coordMark origin l code detection s).link.straps = s.link.straps ∧
      (coordMark origin l code detection s).link.state = s.link.state ∧
      (coordMark origin l code detection s).link.requests = s.link.requests ∧
      (coordMark origin l code detection s).link.replySlot = s.link.replySlot ∧
      (coordMark origin l code detection s).link.outstanding = s.link.outstanding ∧
      (coordMark origin l code detection s).link.resync = s.link.resync ∧
      (coordMark origin l code detection s).link.drive = s.link.drive ∧
      (coordMark origin l code detection s).coord = s.coord ∧
      (coordMark origin l code detection s).gather.count = s.gather.count ∧
      (coordMark origin l code detection s).gather.state = s.gather.state ∧
      (coordMark origin l code detection s).gather.cursor = s.gather.cursor ∧
      (coordMark origin l code detection s).gather.tagCounter = s.gather.tagCounter ∧
      (coordMark origin l code detection s).gather.report = s.gather.report ∧
      (coordMark origin l code detection s).clock = s.clock ∧
      (coordMark origin l code detection s).supplyFail = s.supplyFail ∧
      (coordMark origin l code detection s).past = s.past ∧
      (coordMark origin l code detection s).now = s.now ∧ (coordMark origin l code detection s).own = s.own ∧
      (coordMark origin l code detection s).header = s.header := by
  unfold coordMark
  (repeat' split) <;> simp [State.own]

@[simp] theorem coordStop_frame (l : Label) (s : State) :
    (coordStop l s).pending = s.pending ∧ (coordStop l s).plan = s.plan ∧
      (coordStop l s).engine.runLabel = s.engine.runLabel ∧ (coordStop l s).engine.visit = s.engine.visit ∧
      (coordStop l s).engine.visitCount = s.engine.visitCount ∧
      (coordStop l s).engine.pendingMark = s.engine.pendingMark ∧
      (coordStop l s).engine.pendingFallback = s.engine.pendingFallback ∧
      (coordStop l s).engine.firstOperates = s.engine.firstOperates ∧
      (coordStop l s).engine.timers = s.engine.timers ∧ (coordStop l s).engine.backstop = s.engine.backstop ∧
      (coordStop l s).engine.latestVisit = s.engine.latestVisit ∧ (coordStop l s).cond = s.cond ∧
      (coordStop l s).amp.count = s.amp.count ∧ (coordStop l s).amp.state = s.amp.state ∧
      (coordStop l s).amp.warmUp = s.amp.warmUp ∧ (coordStop l s).amp.debouncers = s.amp.debouncers ∧
      (coordStop l s).eval = s.eval ∧ (coordStop l s).link = s.link ∧ (coordStop l s).coord = s.coord ∧
      (coordStop l s).gather.count = s.gather.count ∧ (coordStop l s).gather.state = s.gather.state ∧
      (coordStop l s).gather.cursor = s.gather.cursor ∧ (coordStop l s).gather.tagCounter = s.gather.tagCounter ∧
      (coordStop l s).gather.report = s.gather.report ∧ (coordStop l s).status = s.status ∧
      (coordStop l s).clock = s.clock ∧ (coordStop l s).supplyFail = s.supplyFail ∧
      (coordStop l s).past = s.past ∧
      (coordStop l s).now = s.now ∧
      (coordStop l s).own = s.own ∧ (coordStop l s).header = s.header := by
  unfold coordStop
  (repeat' split) <;> simp

@[simp] theorem coordStep_frame (l : Label) (s : State) :
    (coordStep l s).pending = s.pending ∧ (coordStep l s).plan = s.plan ∧
      (coordStep l s).engine.runLabel = s.engine.runLabel ∧ (coordStep l s).cond = s.cond ∧
      (coordStep l s).amp.count = s.amp.count ∧ (coordStep l s).amp.state = s.amp.state ∧
      (coordStep l s).amp.warmUp = s.amp.warmUp ∧ (coordStep l s).amp.debouncers = s.amp.debouncers ∧
      (coordStep l s).link.straps = s.link.straps ∧ (coordStep l s).link.state = s.link.state ∧
      (coordStep l s).link.requests = s.link.requests ∧ (coordStep l s).link.replySlot = s.link.replySlot ∧
      (coordStep l s).link.outstanding = s.link.outstanding ∧ (coordStep l s).link.resync = s.link.resync ∧
      (coordStep l s).link.drive = s.link.drive ∧ (coordStep l s).coord = s.coord ∧
      (coordStep l s).gather.count = s.gather.count ∧ (coordStep l s).gather.state = s.gather.state ∧
      (coordStep l s).gather.cursor = s.gather.cursor ∧ (coordStep l s).gather.tagCounter = s.gather.tagCounter ∧
      (coordStep l s).gather.report = s.gather.report ∧ (coordStep l s).clock = s.clock ∧
      (coordStep l s).supplyFail = s.supplyFail ∧
      (coordStep l s).past = s.past ∧
      (coordStep l s).now = s.now ∧ (coordStep l s).own = s.own ∧
      (coordStep l s).header = s.header := by
  unfold coordStep
  (repeat' split) <;> simp [State.own]

@[simp] theorem react_frame (e : TxEntry) (o : FrameOutcome) (s : State) :
    (react e o s).pending = s.pending ∧ (react e o s).plan = s.plan ∧ (react e o s).synth = s.synth ∧
      (react e o s).engine.runState = s.engine.runState ∧ (react e o s).engine.runLabel = s.engine.runLabel ∧
      (react e o s).engine.visitCount = s.engine.visitCount ∧
      (react e o s).engine.firstOperates = s.engine.firstOperates ∧ (react e o s).engine.timers = s.engine.timers ∧
      (react e o s).engine.backstop = s.engine.backstop ∧ (react e o s).engine.held = s.engine.held ∧
      (react e o s).engine.latestVisit = s.engine.latestVisit ∧
      (react e o s).engine.endReason = s.engine.endReason ∧ (react e o s).engine.lastState = s.engine.lastState ∧
      (react e o s).engine.boLevels = s.engine.boLevels ∧ (react e o s).engine.boSchedule = s.engine.boSchedule ∧
      (react e o s).engine.boHeld = s.engine.boHeld ∧
      (react e o s).cond = s.cond ∧ (react e o s).breaker = s.breaker ∧ (react e o s).amp = s.amp ∧
      (react e o s).eval = s.eval ∧ (react e o s).link.straps = s.link.straps ∧
      (react e o s).link.state = s.link.state ∧ (react e o s).link.requests = s.link.requests ∧
      (react e o s).link.replySlot = s.link.replySlot ∧ (react e o s).link.resync = s.link.resync ∧
      (react e o s).link.drive = s.link.drive ∧ (react e o s).coord.count = s.coord.count ∧
      (react e o s).gather.count = s.gather.count ∧ (react e o s).gather.onFinish = s.gather.onFinish ∧
      (react e o s).clock = s.clock ∧ (react e o s).supplyFail = s.supplyFail ∧
      (react e o s).past = s.past ∧
      (react e o s).now = s.now ∧
      (react e o s).own = s.own ∧ (react e o s).runActive = s.runActive ∧
      (react e o s).runUnderWay = s.runUnderWay ∧ (react e o s).header = s.header := by
  unfold react
  (repeat' split) <;> simp [State.own, State.runActive, State.runUnderWay]

@[simp] theorem settleFor_frame (n : Nat) (s : State) :
    (settleFor n s).pending = s.pending ∧ (settleFor n s).plan = s.plan ∧ (settleFor n s).synth = s.synth ∧
      (settleFor n s).engine.runState = s.engine.runState ∧ (settleFor n s).engine.runLabel = s.engine.runLabel ∧
      (settleFor n s).engine.visitCount = s.engine.visitCount ∧
      (settleFor n s).engine.firstOperates = s.engine.firstOperates ∧
      (settleFor n s).engine.timers = s.engine.timers ∧ (settleFor n s).engine.backstop = s.engine.backstop ∧
      (settleFor n s).engine.held = s.engine.held ∧ (settleFor n s).engine.latestVisit = s.engine.latestVisit ∧
      (settleFor n s).engine.endReason = s.engine.endReason ∧
      (settleFor n s).engine.lastState = s.engine.lastState ∧ (settleFor n s).engine.boLevels = s.engine.boLevels ∧
      (settleFor n s).engine.boSchedule = s.engine.boSchedule ∧
      (settleFor n s).engine.boHeld = s.engine.boHeld ∧ (settleFor n s).cond = s.cond ∧
      (settleFor n s).breaker = s.breaker ∧ (settleFor n s).amp = s.amp ∧ (settleFor n s).eval = s.eval ∧
      (settleFor n s).link.straps = s.link.straps ∧ (settleFor n s).link.state = s.link.state ∧
      (settleFor n s).link.requests = s.link.requests ∧ (settleFor n s).link.replySlot = s.link.replySlot ∧
      (settleFor n s).link.resync = s.link.resync ∧ (settleFor n s).link.drive = s.link.drive ∧
      (settleFor n s).coord.count = s.coord.count ∧ (settleFor n s).gather.count = s.gather.count ∧
      (settleFor n s).gather.onFinish = s.gather.onFinish ∧ (settleFor n s).clock = s.clock ∧
      (settleFor n s).supplyFail = s.supplyFail ∧
      (settleFor n s).past = s.past ∧
      (settleFor n s).now = s.now ∧ (settleFor n s).own = s.own ∧
      (settleFor n s).runActive = s.runActive ∧ (settleFor n s).runUnderWay = s.runUnderWay ∧
      (settleFor n s).header = s.header := by
  induction n generalizing s with
  | zero => simp [settleFor, State.now, State.own, State.runActive, State.runUnderWay]
  | succ n ih =>
      simp only [settleFor]
      (repeat' split) <;> simp [ih, State.own, State.runActive, State.runUnderWay]

@[simp] theorem settle_frame (s : State) :
    (settle s).pending = s.pending ∧ (settle s).plan = s.plan ∧ (settle s).synth = s.synth ∧
      (settle s).engine.runState = s.engine.runState ∧ (settle s).engine.runLabel = s.engine.runLabel ∧
      (settle s).engine.visitCount = s.engine.visitCount ∧
      (settle s).engine.firstOperates = s.engine.firstOperates ∧ (settle s).engine.timers = s.engine.timers ∧
      (settle s).engine.backstop = s.engine.backstop ∧ (settle s).engine.held = s.engine.held ∧
      (settle s).engine.latestVisit = s.engine.latestVisit ∧ (settle s).engine.endReason = s.engine.endReason ∧
      (settle s).engine.lastState = s.engine.lastState ∧ (settle s).engine.boLevels = s.engine.boLevels ∧
      (settle s).engine.boSchedule = s.engine.boSchedule ∧
      (settle s).engine.boHeld = s.engine.boHeld ∧ (settle s).cond = s.cond ∧
      (settle s).breaker = s.breaker ∧ (settle s).amp = s.amp ∧ (settle s).eval = s.eval ∧
      (settle s).link.straps = s.link.straps ∧ (settle s).link.state = s.link.state ∧
      (settle s).link.requests = s.link.requests ∧ (settle s).link.replySlot = s.link.replySlot ∧
      (settle s).link.resync = s.link.resync ∧ (settle s).link.drive = s.link.drive ∧
      (settle s).coord.count = s.coord.count ∧ (settle s).gather.count = s.gather.count ∧
      (settle s).gather.onFinish = s.gather.onFinish ∧ (settle s).clock = s.clock ∧
      (settle s).supplyFail = s.supplyFail ∧
      (settle s).past = s.past ∧
      (settle s).now = s.now ∧ (settle s).own = s.own ∧
      (settle s).runActive = s.runActive ∧ (settle s).runUnderWay = s.runUnderWay ∧ (settle s).header = s.header := by
  simp [settle, State.own, State.runActive, State.runUnderWay]

@[simp] theorem endOutstanding_frame (s : State) :
    (endOutstanding s).pending = s.pending ∧ (endOutstanding s).plan = s.plan ∧ (endOutstanding s).synth = s.synth ∧
      (endOutstanding s).engine.runState = s.engine.runState ∧ (endOutstanding s).engine.runLabel = s.engine.runLabel ∧
      (endOutstanding s).engine.visitCount = s.engine.visitCount ∧
      (endOutstanding s).engine.firstOperates = s.engine.firstOperates ∧ (endOutstanding s).engine.timers = s.engine.timers ∧
      (endOutstanding s).engine.backstop = s.engine.backstop ∧ (endOutstanding s).engine.held = s.engine.held ∧
      (endOutstanding s).engine.latestVisit = s.engine.latestVisit ∧ (endOutstanding s).engine.endReason = s.engine.endReason ∧
      (endOutstanding s).engine.lastState = s.engine.lastState ∧ (endOutstanding s).engine.boLevels = s.engine.boLevels ∧
      (endOutstanding s).engine.boSchedule = s.engine.boSchedule ∧
      (endOutstanding s).engine.boHeld = s.engine.boHeld ∧ (endOutstanding s).cond = s.cond ∧
      (endOutstanding s).breaker = s.breaker ∧ (endOutstanding s).amp = s.amp ∧ (endOutstanding s).eval = s.eval ∧
      (endOutstanding s).link.straps = s.link.straps ∧ (endOutstanding s).link.state = s.link.state ∧
      (endOutstanding s).link.requests = s.link.requests ∧ (endOutstanding s).link.replySlot = s.link.replySlot ∧
      (endOutstanding s).link.resync = s.link.resync ∧ (endOutstanding s).link.drive = s.link.drive ∧
      (endOutstanding s).coord.count = s.coord.count ∧ (endOutstanding s).gather.count = s.gather.count ∧
      (endOutstanding s).gather.onFinish = s.gather.onFinish ∧ (endOutstanding s).clock = s.clock ∧
      (endOutstanding s).supplyFail = s.supplyFail ∧
      (endOutstanding s).past = s.past ∧
      (endOutstanding s).now = s.now ∧ (endOutstanding s).own = s.own ∧
      (endOutstanding s).runActive = s.runActive ∧ (endOutstanding s).runUnderWay = s.runUnderWay ∧ (endOutstanding s).header = s.header := by
  unfold endOutstanding
  split <;> simp [settle_frame, readSilent_frame, State.own, State.runActive, State.runUnderWay]

@[simp] theorem dropAll_frame (s : State) :
    (dropAll s).pending = s.pending ∧ (dropAll s).plan = s.plan ∧ (dropAll s).synth = s.synth ∧
      (dropAll s).engine.runState = s.engine.runState ∧ (dropAll s).engine.runLabel = s.engine.runLabel ∧
      (dropAll s).engine.visitCount = s.engine.visitCount ∧
      (dropAll s).engine.firstOperates = s.engine.firstOperates ∧ (dropAll s).engine.timers = s.engine.timers ∧
      (dropAll s).engine.backstop = s.engine.backstop ∧ (dropAll s).engine.held = s.engine.held ∧
      (dropAll s).engine.latestVisit = s.engine.latestVisit ∧ (dropAll s).engine.endReason = s.engine.endReason ∧
      (dropAll s).engine.lastState = s.engine.lastState ∧ (dropAll s).engine.boLevels = s.engine.boLevels ∧
      (dropAll s).engine.boSchedule = s.engine.boSchedule ∧
      (dropAll s).engine.boHeld = s.engine.boHeld ∧ (dropAll s).cond = s.cond ∧
      (dropAll s).breaker = s.breaker ∧ (dropAll s).amp = s.amp ∧ (dropAll s).eval = s.eval ∧
      (dropAll s).link.straps = s.link.straps ∧ (dropAll s).link.state = s.link.state ∧
      (dropAll s).link.requests = s.link.requests ∧ (dropAll s).link.replySlot = s.link.replySlot ∧
      (dropAll s).link.resync = s.link.resync ∧ (dropAll s).link.drive = s.link.drive ∧
      (dropAll s).coord.count = s.coord.count ∧ (dropAll s).gather.count = s.gather.count ∧
      (dropAll s).gather.onFinish = s.gather.onFinish ∧ (dropAll s).clock = s.clock ∧
      (dropAll s).supplyFail = s.supplyFail ∧
      (dropAll s).past = s.past ∧
      (dropAll s).now = s.now ∧ (dropAll s).own = s.own ∧
      (dropAll s).runActive = s.runActive ∧ (dropAll s).runUnderWay = s.runUnderWay ∧ (dropAll s).header = s.header := by
  simp only [dropAll, endOutstanding_frame, settle_frame]
  refine ⟨(foldl_keep (fun s => s.pending) _ (by intros; simp [State.own, State.runActive, State.runUnderWay]) _ _).trans (by simp [State.own, State.runActive, State.runUnderWay]),
    (foldl_keep (fun s => s.plan) _ (by intros; simp [State.own, State.runActive, State.runUnderWay]) _ _).trans (by simp [State.own, State.runActive, State.runUnderWay]),
    (foldl_keep (fun s => s.synth) _ (by intros; simp [State.own, State.runActive, State.runUnderWay]) _ _).trans (by simp [State.own, State.runActive, State.runUnderWay]),
    (foldl_keep (fun s => s.engine.runState) _ (by intros; simp [State.own, State.runActive, State.runUnderWay]) _ _).trans (by simp [State.own, State.runActive, State.runUnderWay]),
    (foldl_keep (fun s => s.engine.runLabel) _ (by intros; simp [State.own, State.runActive, State.runUnderWay]) _ _).trans (by simp [State.own, State.runActive, State.runUnderWay]),
    (foldl_keep (fun s => s.engine.visitCount) _ (by intros; simp [State.own, State.runActive, State.runUnderWay]) _ _).trans (by simp [State.own, State.runActive, State.runUnderWay]),
    (foldl_keep (fun s => s.engine.firstOperates) _ (by intros; simp [State.own, State.runActive, State.runUnderWay]) _ _).trans (by simp [State.own, State.runActive, State.runUnderWay]),
    (foldl_keep (fun s => s.engine.timers) _ (by intros; simp [State.own, State.runActive, State.runUnderWay]) _ _).trans (by simp [State.own, State.runActive, State.runUnderWay]),
    (foldl_keep (fun s => s.engine.backstop) _ (by intros; simp [State.own, State.runActive, State.runUnderWay]) _ _).trans (by simp [State.own, State.runActive, State.runUnderWay]),
    (foldl_keep (fun s => s.engine.held) _ (by intros; simp [State.own, State.runActive, State.runUnderWay]) _ _).trans (by simp [State.own, State.runActive, State.runUnderWay]),
    (foldl_keep (fun s => s.engine.latestVisit) _ (by intros; simp [State.own, State.runActive, State.runUnderWay]) _ _).trans (by simp [State.own, State.runActive, State.runUnderWay]),
    (foldl_keep (fun s => s.engine.endReason) _ (by intros; simp [State.own, State.runActive, State.runUnderWay]) _ _).trans (by simp [State.own, State.runActive, State.runUnderWay]),
    (foldl_keep (fun s => s.engine.lastState) _ (by intros; simp [State.own, State.runActive, State.runUnderWay]) _ _).trans (by simp [State.own, State.runActive, State.runUnderWay]),
    (foldl_keep (fun s => s.engine.boLevels) _ (by intros; simp [State.own, State.runActive, State.runUnderWay]) _ _).trans (by simp [State.own, State.runActive, State.runUnderWay]),
    (foldl_keep (fun s => s.engine.boSchedule) _ (by intros; simp [State.own, State.runActive, State.runUnderWay]) _ _).trans (by simp [State.own, State.runActive, State.runUnderWay]),
    (foldl_keep (fun s => s.engine.boHeld) _ (by intros; simp [State.own, State.runActive, State.runUnderWay]) _ _).trans (by simp [State.own, State.runActive, State.runUnderWay]),
    (foldl_keep (fun s => s.cond) _ (by intros; simp [State.own, State.runActive, State.runUnderWay]) _ _).trans (by simp [State.own, State.runActive, State.runUnderWay]),
    (foldl_keep (fun s => s.breaker) _ (by intros; simp [State.own, State.runActive, State.runUnderWay]) _ _).trans (by simp [State.own, State.runActive, State.runUnderWay]),
    (foldl_keep (fun s => s.amp) _ (by intros; simp [State.own, State.runActive, State.runUnderWay]) _ _).trans (by simp [State.own, State.runActive, State.runUnderWay]),
    (foldl_keep (fun s => s.eval) _ (by intros; simp [State.own, State.runActive, State.runUnderWay]) _ _).trans (by simp [State.own, State.runActive, State.runUnderWay]),
    (foldl_keep (fun s => s.link.straps) _ (by intros; simp [State.own, State.runActive, State.runUnderWay]) _ _).trans (by simp [State.own, State.runActive, State.runUnderWay]),
    (foldl_keep (fun s => s.link.state) _ (by intros; simp [State.own, State.runActive, State.runUnderWay]) _ _).trans (by simp [State.own, State.runActive, State.runUnderWay]),
    (foldl_keep (fun s => s.link.requests) _ (by intros; simp [State.own, State.runActive, State.runUnderWay]) _ _).trans (by simp [State.own, State.runActive, State.runUnderWay]),
    (foldl_keep (fun s => s.link.replySlot) _ (by intros; simp [State.own, State.runActive, State.runUnderWay]) _ _).trans (by simp [State.own, State.runActive, State.runUnderWay]),
    (foldl_keep (fun s => s.link.resync) _ (by intros; simp [State.own, State.runActive, State.runUnderWay]) _ _).trans (by simp [State.own, State.runActive, State.runUnderWay]),
    (foldl_keep (fun s => s.link.drive) _ (by intros; simp [State.own, State.runActive, State.runUnderWay]) _ _).trans (by simp [State.own, State.runActive, State.runUnderWay]),
    (foldl_keep (fun s => s.coord.count) _ (by intros; simp [State.own, State.runActive, State.runUnderWay]) _ _).trans (by simp [State.own, State.runActive, State.runUnderWay]),
    (foldl_keep (fun s => s.gather.count) _ (by intros; simp [State.own, State.runActive, State.runUnderWay]) _ _).trans (by simp [State.own, State.runActive, State.runUnderWay]),
    (foldl_keep (fun s => s.gather.onFinish) _ (by intros; simp [State.own, State.runActive, State.runUnderWay]) _ _).trans (by simp [State.own, State.runActive, State.runUnderWay]),
    (foldl_keep (fun s => s.clock) _ (by intros; simp [State.own, State.runActive, State.runUnderWay]) _ _).trans (by simp [State.own, State.runActive, State.runUnderWay]),
    (foldl_keep (fun s => s.supplyFail) _ (by intros; simp [State.own, State.runActive, State.runUnderWay]) _ _).trans (by simp [State.own, State.runActive, State.runUnderWay]),
    (foldl_keep (fun s => s.past) _ (by intros; simp [State.own, State.runActive, State.runUnderWay]) _ _).trans (by simp [State.own, State.runActive, State.runUnderWay]),
    (foldl_keep (fun s => s.now) _ (by intros; simp [State.own, State.runActive, State.runUnderWay]) _ _).trans (by simp [State.own, State.runActive, State.runUnderWay]),
    (foldl_keep (fun s => s.own) _ (by intros; simp [State.own, State.runActive, State.runUnderWay]) _ _).trans (by simp [State.own, State.runActive, State.runUnderWay]),
    (foldl_keep (fun s => s.runActive) _ (by intros; simp [State.own, State.runActive, State.runUnderWay]) _ _).trans (by simp [State.own, State.runActive, State.runUnderWay]),
    (foldl_keep (fun s => s.runUnderWay) _ (by intros; simp [State.own, State.runActive, State.runUnderWay]) _ _).trans (by simp [State.own, State.runActive, State.runUnderWay]),
    (foldl_keep (fun s => s.header) _ (by intros; simp [State.own, State.runActive, State.runUnderWay]) _ _).trans (by simp [State.own, State.runActive, State.runUnderWay])⟩

@[simp] theorem mute_frame (s : State) :
    (mute s).pending = s.pending ∧ (mute s).plan = s.plan ∧ (mute s).engine.runLabel = s.engine.runLabel ∧
      (mute s).engine.visitCount = s.engine.visitCount ∧ (mute s).engine.latestVisit = s.engine.latestVisit ∧
      (mute s).cond = s.cond ∧ (mute s).amp.count = s.amp.count ∧ (mute s).amp.state = s.amp.state ∧
      (mute s).amp.warmUp = s.amp.warmUp ∧ (mute s).amp.debouncers = s.amp.debouncers ∧
      (mute s).link.straps = s.link.straps ∧ (mute s).link.requests = s.link.requests ∧
      (mute s).link.replySlot = s.link.replySlot ∧ (mute s).link.resync = s.link.resync ∧
      (mute s).link.drive = s.link.drive ∧ (mute s).coord.count = s.coord.count ∧
      (mute s).gather.count = s.gather.count ∧ (mute s).gather.onFinish = s.gather.onFinish ∧
      (mute s).clock = s.clock ∧ (mute s).supplyFail = s.supplyFail ∧
      (mute s).past = s.past ∧
      (mute s).now = s.now ∧ (mute s).own = s.own ∧
      (mute s).header = s.header := by
  simp [mute, State.own]

end Sys2Proof.Machine
end

