-- ==== Sys2Proof/Laws/FramesService.lean ====
section
/-! SUPPORT. Frames: for each shared operation of the Link Interface, the service of requests, Plan Memory, the Status
Unit and the due events, one lemma that says what it leaves as it was, block by block and field by field. -/

namespace Sys2Proof.Machine

@[simp] theorem takeNext_frame (s : State) :
    (takeNext s).pending = s.pending ∧ (takeNext s).plan = s.plan ∧ (takeNext s).synth = s.synth ∧
      (takeNext s).engine = s.engine ∧ (takeNext s).cond = s.cond ∧ (takeNext s).breaker = s.breaker ∧
      (takeNext s).amp = s.amp ∧ (takeNext s).eval = s.eval ∧ (takeNext s).link.straps = s.link.straps ∧
      (takeNext s).link.state = s.link.state ∧ (takeNext s).link.tx = s.link.tx ∧
      (takeNext s).link.nextAge = s.link.nextAge ∧ (takeNext s).link.replySlot = s.link.replySlot ∧
      (takeNext s).link.outstanding = s.link.outstanding ∧ (takeNext s).link.resync = s.link.resync ∧
      (takeNext s).link.drive = s.link.drive ∧ (takeNext s).link.notices = s.link.notices ∧
      (takeNext s).coord = s.coord ∧ (takeNext s).store = s.store ∧ (takeNext s).gather = s.gather ∧
      (takeNext s).status.latch = s.status.latch ∧ (takeNext s).status.refused = s.status.refused ∧
      (takeNext s).status.turnedAway = s.status.turnedAway ∧ (takeNext s).status.dropped = s.status.dropped ∧
      (takeNext s).clock = s.clock ∧ (takeNext s).supplyFail = s.supplyFail ∧
      (takeNext s).past = s.past ∧
      (takeNext s).now = s.now ∧
      (takeNext s).own = s.own ∧ (takeNext s).runActive = s.runActive ∧ (takeNext s).runUnderWay = s.runUnderWay ∧
      (takeNext s).header = s.header := by
  unfold takeNext
  (repeat' split) <;> simp [State.own]

@[simp] theorem requestArrives_frame (f : RxFrame) (s : State) :
    (requestArrives f s).pending = s.pending ∧ (requestArrives f s).plan = s.plan ∧
      (requestArrives f s).synth = s.synth ∧ (requestArrives f s).engine = s.engine ∧
      (requestArrives f s).cond = s.cond ∧ (requestArrives f s).breaker = s.breaker ∧
      (requestArrives f s).amp = s.amp ∧ (requestArrives f s).eval = s.eval ∧
      (requestArrives f s).link.straps = s.link.straps ∧ (requestArrives f s).link.state = s.link.state ∧
      (requestArrives f s).link.tx = s.link.tx ∧ (requestArrives f s).link.nextAge = s.link.nextAge ∧
      (requestArrives f s).link.replySlot = s.link.replySlot ∧
      (requestArrives f s).link.outstanding = s.link.outstanding ∧
      (requestArrives f s).link.resync = s.link.resync ∧ (requestArrives f s).link.drive = s.link.drive ∧
      (requestArrives f s).link.notices = s.link.notices ∧ (requestArrives f s).coord = s.coord ∧
      (requestArrives f s).store = s.store ∧ (requestArrives f s).gather = s.gather ∧
      (requestArrives f s).status.latch = s.status.latch ∧ (requestArrives f s).status.refused = s.status.refused ∧
      (requestArrives f s).status.dropped = s.status.dropped ∧ (requestArrives f s).clock = s.clock ∧
      (requestArrives f s).supplyFail = s.supplyFail ∧
      (requestArrives f s).past = s.past ∧
      (requestArrives f s).now = s.now ∧
      (requestArrives f s).own = s.own ∧ (requestArrives f s).runActive = s.runActive ∧
      (requestArrives f s).runUnderWay = s.runUnderWay ∧ (requestArrives f s).header = s.header := by
  unfold requestArrives
  (repeat' split) <;> simp [State.own]

@[simp] theorem muteIfDuplicate_frame (f : RxFrame) (s : State) :
    (muteIfDuplicate f s).pending = s.pending ∧ (muteIfDuplicate f s).plan = s.plan ∧
      (muteIfDuplicate f s).engine.runLabel = s.engine.runLabel ∧
      (muteIfDuplicate f s).engine.visitCount = s.engine.visitCount ∧
      (muteIfDuplicate f s).engine.latestVisit = s.engine.latestVisit ∧ (muteIfDuplicate f s).cond = s.cond ∧
      (muteIfDuplicate f s).amp.count = s.amp.count ∧ (muteIfDuplicate f s).amp.state = s.amp.state ∧
      (muteIfDuplicate f s).amp.warmUp = s.amp.warmUp ∧ (muteIfDuplicate f s).amp.debouncers = s.amp.debouncers ∧
      (muteIfDuplicate f s).link.straps = s.link.straps ∧ (muteIfDuplicate f s).link.requests = s.link.requests ∧
      (muteIfDuplicate f s).link.replySlot = s.link.replySlot ∧ (muteIfDuplicate f s).link.resync = s.link.resync ∧
      (muteIfDuplicate f s).link.drive = s.link.drive ∧ (muteIfDuplicate f s).coord.count = s.coord.count ∧
      (muteIfDuplicate f s).gather.count = s.gather.count ∧
      (muteIfDuplicate f s).gather.onFinish = s.gather.onFinish ∧ (muteIfDuplicate f s).clock = s.clock ∧
      (muteIfDuplicate f s).supplyFail = s.supplyFail ∧
      (muteIfDuplicate f s).past = s.past ∧
      (muteIfDuplicate f s).now = s.now ∧
      (muteIfDuplicate f s).own = s.own ∧ (muteIfDuplicate f s).header = s.header := by
  unfold muteIfDuplicate
  (repeat' split) <;> simp [State.own]

@[simp] theorem frameEnded_frame (e : TxEntry) (o : FrameOutcome) (answers : BitVec 16) (s : State) :
    (frameEnded e o answers s).pending = s.pending ∧ (frameEnded e o answers s).plan = s.plan ∧
      (frameEnded e o answers s).engine.runLabel = s.engine.runLabel ∧ (frameEnded e o answers s).cond = s.cond ∧
      (frameEnded e o answers s).amp.count = s.amp.count ∧ (frameEnded e o answers s).amp.state = s.amp.state ∧
      (frameEnded e o answers s).amp.warmUp = s.amp.warmUp ∧
      (frameEnded e o answers s).amp.debouncers = s.amp.debouncers ∧
      (frameEnded e o answers s).link.straps = s.link.straps ∧
      (frameEnded e o answers s).link.state = s.link.state ∧
      (frameEnded e o answers s).link.requests = s.link.requests ∧
      (frameEnded e o answers s).link.replySlot = s.link.replySlot ∧
      (frameEnded e o answers s).link.resync = s.link.resync ∧
      (frameEnded e o answers s).link.drive = s.link.drive ∧
      (frameEnded e o answers s).coord.count = s.coord.count ∧
      (frameEnded e o answers s).gather.count = s.gather.count ∧
      (frameEnded e o answers s).clock.elapsed = s.clock.elapsed ∧
      (frameEnded e o answers s).supplyFail = s.supplyFail ∧
      (frameEnded e o answers s).past = s.past ∧
      (frameEnded e o answers s).own = s.own ∧
      (frameEnded e o answers s).header = s.header := by
  unfold frameEnded
  dsimp only
  (repeat' split) <;> simp [State.own]

@[simp] theorem takeFrameOutcome_frame (ack busy : Bool) (answers : BitVec 16) (s : State) :
    (takeFrameOutcome ack busy answers s).pending = s.pending ∧
      (takeFrameOutcome ack busy answers s).plan = s.plan ∧
      (takeFrameOutcome ack busy answers s).engine.runLabel = s.engine.runLabel ∧
      (takeFrameOutcome ack busy answers s).cond = s.cond ∧
      (takeFrameOutcome ack busy answers s).amp.count = s.amp.count ∧
      (takeFrameOutcome ack busy answers s).amp.state = s.amp.state ∧
      (takeFrameOutcome ack busy answers s).amp.warmUp = s.amp.warmUp ∧
      (takeFrameOutcome ack busy answers s).amp.debouncers = s.amp.debouncers ∧
      (takeFrameOutcome ack busy answers s).link.straps = s.link.straps ∧
      (takeFrameOutcome ack busy answers s).link.state = s.link.state ∧
      (takeFrameOutcome ack busy answers s).link.requests = s.link.requests ∧
      (takeFrameOutcome ack busy answers s).link.replySlot = s.link.replySlot ∧
      (takeFrameOutcome ack busy answers s).link.resync = s.link.resync ∧
      (takeFrameOutcome ack busy answers s).coord.count = s.coord.count ∧
      (takeFrameOutcome ack busy answers s).gather.count = s.gather.count ∧
      (takeFrameOutcome ack busy answers s).clock.elapsed = s.clock.elapsed ∧
      (takeFrameOutcome ack busy answers s).supplyFail = s.supplyFail ∧
      (takeFrameOutcome ack busy answers s).past = s.past ∧
      (takeFrameOutcome ack busy answers s).own = s.own ∧ (takeFrameOutcome ack busy answers s).header = s.header := by
  unfold takeFrameOutcome
  (repeat' split) <;> simp [State.own]

@[simp] theorem takeFrameCorrupt_frame (s : State) :
    (takeFrameCorrupt s).pending = s.pending ∧ (takeFrameCorrupt s).plan = s.plan ∧
      (takeFrameCorrupt s).synth = s.synth ∧ (takeFrameCorrupt s).engine.runState = s.engine.runState ∧
      (takeFrameCorrupt s).engine.runLabel = s.engine.runLabel ∧
      (takeFrameCorrupt s).engine.visitCount = s.engine.visitCount ∧
      (takeFrameCorrupt s).engine.firstOperates = s.engine.firstOperates ∧
      (takeFrameCorrupt s).engine.timers = s.engine.timers ∧
      (takeFrameCorrupt s).engine.backstop = s.engine.backstop ∧ (takeFrameCorrupt s).engine.held = s.engine.held ∧
      (takeFrameCorrupt s).engine.latestVisit = s.engine.latestVisit ∧
      (takeFrameCorrupt s).engine.endReason = s.engine.endReason ∧
      (takeFrameCorrupt s).engine.lastState = s.engine.lastState ∧
      (takeFrameCorrupt s).engine.boLevels = s.engine.boLevels ∧
      (takeFrameCorrupt s).engine.boSchedule = s.engine.boSchedule ∧
      (takeFrameCorrupt s).engine.boHeld = s.engine.boHeld ∧ (takeFrameCorrupt s).cond = s.cond ∧
      (takeFrameCorrupt s).breaker = s.breaker ∧ (takeFrameCorrupt s).amp = s.amp ∧
      (takeFrameCorrupt s).eval = s.eval ∧ (takeFrameCorrupt s).link.straps = s.link.straps ∧
      (takeFrameCorrupt s).link.state = s.link.state ∧ (takeFrameCorrupt s).link.requests = s.link.requests ∧
      (takeFrameCorrupt s).link.replySlot = s.link.replySlot ∧ (takeFrameCorrupt s).link.resync = s.link.resync ∧
      (takeFrameCorrupt s).link.drive = s.link.drive ∧ (takeFrameCorrupt s).coord.count = s.coord.count ∧
      (takeFrameCorrupt s).gather.count = s.gather.count ∧
      (takeFrameCorrupt s).gather.onFinish = s.gather.onFinish ∧ (takeFrameCorrupt s).clock = s.clock ∧
      (takeFrameCorrupt s).supplyFail = s.supplyFail ∧
      (takeFrameCorrupt s).past = s.past ∧
      (takeFrameCorrupt s).now = s.now ∧
      (takeFrameCorrupt s).own = s.own ∧ (takeFrameCorrupt s).runActive = s.runActive ∧
      (takeFrameCorrupt s).runUnderWay = s.runUnderWay ∧ (takeFrameCorrupt s).header = s.header := by
  unfold takeFrameCorrupt
  (repeat' split) <;> simp [State.own, State.runActive, State.runUnderWay]

@[simp] theorem comeOnline_frame (rivals : List (BitVec 7)) (s : State) :
    (comeOnline rivals s).pending = s.pending ∧ (comeOnline rivals s).plan = s.plan ∧
      (comeOnline rivals s).synth = s.synth ∧ (comeOnline rivals s).engine.runState = s.engine.runState ∧
      (comeOnline rivals s).engine.runLabel = s.engine.runLabel ∧
      (comeOnline rivals s).engine.visit = s.engine.visit ∧
      (comeOnline rivals s).engine.visitCount = s.engine.visitCount ∧
      (comeOnline rivals s).engine.decided = s.engine.decided ∧
      (comeOnline rivals s).engine.pendingFallback = s.engine.pendingFallback ∧
      (comeOnline rivals s).engine.firstOperates = s.engine.firstOperates ∧
      (comeOnline rivals s).engine.timers = s.engine.timers ∧
      (comeOnline rivals s).engine.backstop = s.engine.backstop ∧
      (comeOnline rivals s).engine.held = s.engine.held ∧
      (comeOnline rivals s).engine.latestVisit = s.engine.latestVisit ∧
      (comeOnline rivals s).engine.endReason = s.engine.endReason ∧
      (comeOnline rivals s).engine.lastState = s.engine.lastState ∧
      (comeOnline rivals s).engine.boLevels = s.engine.boLevels ∧
      (comeOnline rivals s).engine.boSchedule = s.engine.boSchedule ∧
      (comeOnline rivals s).engine.boHeld = s.engine.boHeld ∧ (comeOnline rivals s).cond = s.cond ∧
      (comeOnline rivals s).breaker = s.breaker ∧ (comeOnline rivals s).amp = s.amp ∧
      (comeOnline rivals s).eval = s.eval ∧ (comeOnline rivals s).link.straps = s.link.straps ∧
      (comeOnline rivals s).link.nextAge = s.link.nextAge ∧ (comeOnline rivals s).link.requests = s.link.requests ∧
      (comeOnline rivals s).link.replySlot = s.link.replySlot ∧
      (comeOnline rivals s).link.outstanding = s.link.outstanding ∧
      (comeOnline rivals s).link.drive = s.link.drive ∧ (comeOnline rivals s).link.notices = s.link.notices ∧
      (comeOnline rivals s).coord = s.coord ∧ (comeOnline rivals s).store = s.store ∧
      (comeOnline rivals s).gather = s.gather ∧ (comeOnline rivals s).status = s.status ∧
      (comeOnline rivals s).clock = s.clock ∧ (comeOnline rivals s).supplyFail = s.supplyFail ∧
      (comeOnline rivals s).past = s.past ∧
      (comeOnline rivals s).now = s.now ∧ (comeOnline rivals s).own = s.own ∧
      (comeOnline rivals s).runActive = s.runActive ∧ (comeOnline rivals s).runUnderWay = s.runUnderWay ∧
      (comeOnline rivals s).header = s.header := by
  unfold comeOnline
  (repeat' split) <;> simp [State.own, State.runActive, State.runUnderWay]

@[simp] theorem resynchronize_frame (rivals : List (BitVec 7)) (s : State) :
    (resynchronize rivals s).pending = s.pending ∧ (resynchronize rivals s).plan = s.plan ∧
      (resynchronize rivals s).synth = s.synth ∧ (resynchronize rivals s).engine.runState = s.engine.runState ∧
      (resynchronize rivals s).engine.runLabel = s.engine.runLabel ∧
      (resynchronize rivals s).engine.visit = s.engine.visit ∧
      (resynchronize rivals s).engine.visitCount = s.engine.visitCount ∧
      (resynchronize rivals s).engine.decided = s.engine.decided ∧
      (resynchronize rivals s).engine.pendingFallback = s.engine.pendingFallback ∧
      (resynchronize rivals s).engine.firstOperates = s.engine.firstOperates ∧
      (resynchronize rivals s).engine.timers = s.engine.timers ∧
      (resynchronize rivals s).engine.backstop = s.engine.backstop ∧
      (resynchronize rivals s).engine.held = s.engine.held ∧
      (resynchronize rivals s).engine.latestVisit = s.engine.latestVisit ∧
      (resynchronize rivals s).engine.endReason = s.engine.endReason ∧
      (resynchronize rivals s).engine.lastState = s.engine.lastState ∧
      (resynchronize rivals s).engine.boLevels = s.engine.boLevels ∧
      (resynchronize rivals s).engine.boSchedule = s.engine.boSchedule ∧
      (resynchronize rivals s).engine.boHeld = s.engine.boHeld ∧ (resynchronize rivals s).cond = s.cond ∧
      (resynchronize rivals s).breaker = s.breaker ∧ (resynchronize rivals s).amp = s.amp ∧
      (resynchronize rivals s).eval = s.eval ∧ (resynchronize rivals s).link.straps = s.link.straps ∧
      (resynchronize rivals s).link.state = s.link.state ∧ (resynchronize rivals s).link.nextAge = s.link.nextAge ∧
      (resynchronize rivals s).link.requests = s.link.requests ∧
      (resynchronize rivals s).link.replySlot = s.link.replySlot ∧
      (resynchronize rivals s).link.outstanding = s.link.outstanding ∧
      (resynchronize rivals s).link.drive = s.link.drive ∧ (resynchronize rivals s).link.notices = s.link.notices ∧
      (resynchronize rivals s).coord = s.coord ∧ (resynchronize rivals s).store = s.store ∧
      (resynchronize rivals s).gather = s.gather ∧ (resynchronize rivals s).status = s.status ∧
      (resynchronize rivals s).clock = s.clock ∧ (resynchronize rivals s).supplyFail = s.supplyFail ∧
      (resynchronize rivals s).past = s.past ∧
      (resynchronize rivals s).now = s.now ∧ (resynchronize rivals s).own = s.own ∧
      (resynchronize rivals s).runActive = s.runActive ∧ (resynchronize rivals s).runUnderWay = s.runUnderWay ∧
      (resynchronize rivals s).header = s.header := by
  unfold resynchronize
  (repeat' split) <;> simp [State.own, State.runActive, State.runUnderWay]

@[simp] theorem answer_frame (r : Request) (kind : Nat) (payload : List Byte) (s : State) :
    (answer r kind payload s).pending = s.pending ∧ (answer r kind payload s).plan = s.plan ∧
      (answer r kind payload s).synth = s.synth ∧ (answer r kind payload s).engine = s.engine ∧
      (answer r kind payload s).cond = s.cond ∧ (answer r kind payload s).breaker = s.breaker ∧
      (answer r kind payload s).amp = s.amp ∧ (answer r kind payload s).eval = s.eval ∧
      (answer r kind payload s).link = s.link ∧ (answer r kind payload s).coord = s.coord ∧
      (answer r kind payload s).store = s.store ∧ (answer r kind payload s).gather = s.gather ∧
      (answer r kind payload s).status.latch = s.status.latch ∧
      (answer r kind payload s).status.served = s.status.served ∧
      (answer r kind payload s).status.refused = s.status.refused ∧
      (answer r kind payload s).status.turnedAway = s.status.turnedAway ∧
      (answer r kind payload s).status.dropped = s.status.dropped ∧ (answer r kind payload s).clock = s.clock ∧
      (answer r kind payload s).supplyFail = s.supplyFail ∧
      (answer r kind payload s).past = s.past ∧
      (answer r kind payload s).now = s.now ∧
      (answer r kind payload s).own = s.own ∧ (answer r kind payload s).runActive = s.runActive ∧
      (answer r kind payload s).runUnderWay = s.runUnderWay ∧ (answer r kind payload s).header = s.header := by
  simp [answer]

@[simp] theorem refuse_frame (r : Request) (code : RefusalCode) (position : Nat) (s : State) :
    (refuse r code position s).pending = s.pending ∧ (refuse r code position s).plan = s.plan ∧
      (refuse r code position s).synth = s.synth ∧ (refuse r code position s).engine = s.engine ∧
      (refuse r code position s).cond = s.cond ∧ (refuse r code position s).breaker = s.breaker ∧
      (refuse r code position s).amp = s.amp ∧ (refuse r code position s).eval = s.eval ∧
      (refuse r code position s).link = s.link ∧ (refuse r code position s).coord = s.coord ∧
      (refuse r code position s).store = s.store ∧ (refuse r code position s).gather = s.gather ∧
      (refuse r code position s).status.latch = s.status.latch ∧
      (refuse r code position s).status.served = s.status.served ∧
      (refuse r code position s).status.turnedAway = s.status.turnedAway ∧
      (refuse r code position s).status.dropped = s.status.dropped ∧ (refuse r code position s).clock = s.clock ∧
      (refuse r code position s).supplyFail = s.supplyFail ∧
      (refuse r code position s).past = s.past ∧
      (refuse r code position s).now = s.now ∧
      (refuse r code position s).own = s.own ∧ (refuse r code position s).runActive = s.runActive ∧
      (refuse r code position s).runUnderWay = s.runUnderWay ∧ (refuse r code position s).header = s.header := by
  simp [refuse]

@[simp] theorem accept_frame (r : Request) (s : State) :
    (accept r s).pending = s.pending ∧ (accept r s).plan = s.plan ∧ (accept r s).synth = s.synth ∧
      (accept r s).engine = s.engine ∧ (accept r s).cond = s.cond ∧ (accept r s).breaker = s.breaker ∧
      (accept r s).amp = s.amp ∧ (accept r s).eval = s.eval ∧ (accept r s).link = s.link ∧
      (accept r s).coord = s.coord ∧ (accept r s).store = s.store ∧ (accept r s).gather = s.gather ∧
      (accept r s).status.latch = s.status.latch ∧ (accept r s).status.served = s.status.served ∧
      (accept r s).status.refused = s.status.refused ∧ (accept r s).status.turnedAway = s.status.turnedAway ∧
      (accept r s).status.dropped = s.status.dropped ∧ (accept r s).clock = s.clock ∧
      (accept r s).supplyFail = s.supplyFail ∧
      (accept r s).past = s.past ∧
      (accept r s).now = s.now ∧ (accept r s).own = s.own ∧
      (accept r s).runActive = s.runActive ∧ (accept r s).runUnderWay = s.runUnderWay ∧
      (accept r s).header = s.header := by
  simp [accept]

@[simp] theorem serviceOver_frame (s : State) :
    (serviceOver s).pending = s.pending ∧ (serviceOver s).plan = s.plan ∧ (serviceOver s).synth = s.synth ∧
      (serviceOver s).engine = s.engine ∧ (serviceOver s).cond = s.cond ∧ (serviceOver s).breaker = s.breaker ∧
      (serviceOver s).amp = s.amp ∧ (serviceOver s).eval = s.eval ∧ (serviceOver s).link.straps = s.link.straps ∧
      (serviceOver s).link.state = s.link.state ∧ (serviceOver s).link.tx = s.link.tx ∧
      (serviceOver s).link.nextAge = s.link.nextAge ∧ (serviceOver s).link.replySlot = s.link.replySlot ∧
      (serviceOver s).link.outstanding = s.link.outstanding ∧ (serviceOver s).link.resync = s.link.resync ∧
      (serviceOver s).link.drive = s.link.drive ∧ (serviceOver s).link.notices = s.link.notices ∧
      (serviceOver s).coord = s.coord ∧ (serviceOver s).store = s.store ∧ (serviceOver s).gather = s.gather ∧
      (serviceOver s).status.latch = s.status.latch ∧ (serviceOver s).status.refused = s.status.refused ∧
      (serviceOver s).status.turnedAway = s.status.turnedAway ∧ (serviceOver s).status.dropped = s.status.dropped ∧
      (serviceOver s).clock = s.clock ∧ (serviceOver s).supplyFail = s.supplyFail ∧
      (serviceOver s).past = s.past ∧
      (serviceOver s).now = s.now ∧
      (serviceOver s).own = s.own ∧ (serviceOver s).runActive = s.runActive ∧
      (serviceOver s).runUnderWay = s.runUnderWay ∧ (serviceOver s).header = s.header := by
  simp [serviceOver, State.own]

@[simp] theorem endService_frame (s : State) :
    (endService s).pending = s.pending ∧ (endService s).plan = s.plan ∧ (endService s).synth = s.synth ∧
      (endService s).engine.runState = s.engine.runState ∧ (endService s).engine.runLabel = s.engine.runLabel ∧
      (endService s).engine.visitCount = s.engine.visitCount ∧
      (endService s).engine.firstOperates = s.engine.firstOperates ∧
      (endService s).engine.timers = s.engine.timers ∧ (endService s).engine.backstop = s.engine.backstop ∧
      (endService s).engine.held = s.engine.held ∧ (endService s).engine.latestVisit = s.engine.latestVisit ∧
      (endService s).engine.endReason = s.engine.endReason ∧ (endService s).engine.lastState = s.engine.lastState ∧
      (endService s).engine.boLevels = s.engine.boLevels ∧ (endService s).engine.boSchedule = s.engine.boSchedule ∧
      (endService s).engine.boHeld = s.engine.boHeld ∧
      (endService s).cond = s.cond ∧ (endService s).breaker = s.breaker ∧ (endService s).amp = s.amp ∧
      (endService s).eval = s.eval ∧ (endService s).link.straps = s.link.straps ∧
      (endService s).link.state = s.link.state ∧ (endService s).link.replySlot = s.link.replySlot ∧
      (endService s).link.resync = s.link.resync ∧ (endService s).link.drive = s.link.drive ∧
      (endService s).coord.count = s.coord.count ∧ (endService s).gather.count = s.gather.count ∧
      (endService s).gather.onFinish = s.gather.onFinish ∧ (endService s).clock = s.clock ∧
      (endService s).supplyFail = s.supplyFail ∧
      (endService s).past = s.past ∧
      (endService s).now = s.now ∧ (endService s).own = s.own ∧
      (endService s).runActive = s.runActive ∧ (endService s).runUnderWay = s.runUnderWay ∧
      (endService s).header = s.header := by
  unfold endService
  (repeat' split) <;> simp [State.own, State.runActive, State.runUnderWay]

@[simp] theorem acceptNow_frame (r : Request) (s : State) :
    (acceptNow r s).pending = s.pending ∧ (acceptNow r s).plan = s.plan ∧ (acceptNow r s).synth = s.synth ∧
      (acceptNow r s).engine = s.engine ∧ (acceptNow r s).cond = s.cond ∧ (acceptNow r s).breaker = s.breaker ∧
      (acceptNow r s).amp = s.amp ∧ (acceptNow r s).eval = s.eval ∧ (acceptNow r s).link.straps = s.link.straps ∧
      (acceptNow r s).link.state = s.link.state ∧ (acceptNow r s).link.requests = s.link.requests ∧
      (acceptNow r s).link.replySlot = s.link.replySlot ∧ (acceptNow r s).link.outstanding = s.link.outstanding ∧
      (acceptNow r s).link.resync = s.link.resync ∧ (acceptNow r s).link.drive = s.link.drive ∧
      (acceptNow r s).coord = s.coord ∧ (acceptNow r s).store = s.store ∧ (acceptNow r s).gather = s.gather ∧
      (acceptNow r s).clock = s.clock ∧ (acceptNow r s).supplyFail = s.supplyFail ∧
      (acceptNow r s).past = s.past ∧
      (acceptNow r s).now = s.now ∧
      (acceptNow r s).own = s.own ∧ (acceptNow r s).runActive = s.runActive ∧
      (acceptNow r s).runUnderWay = s.runUnderWay ∧ (acceptNow r s).header = s.header := by
  simp [acceptNow, State.own]

@[simp] theorem endCommitCheck_frame (s : State) :
    (endCommitCheck s).pending = s.pending ∧ (endCommitCheck s).plan.items = s.plan.items ∧
      (endCommitCheck s).plan.clampCount = s.plan.clampCount ∧ (endCommitCheck s).synth = s.synth ∧
      (endCommitCheck s).engine.runState = s.engine.runState ∧
      (endCommitCheck s).engine.runLabel = s.engine.runLabel ∧
      (endCommitCheck s).engine.visitCount = s.engine.visitCount ∧
      (endCommitCheck s).engine.firstOperates = s.engine.firstOperates ∧
      (endCommitCheck s).engine.timers = s.engine.timers ∧ (endCommitCheck s).engine.backstop = s.engine.backstop ∧
      (endCommitCheck s).engine.held = s.engine.held ∧
      (endCommitCheck s).engine.latestVisit = s.engine.latestVisit ∧
      (endCommitCheck s).engine.endReason = s.engine.endReason ∧
      (endCommitCheck s).engine.lastState = s.engine.lastState ∧
      (endCommitCheck s).engine.boLevels = s.engine.boLevels ∧
      (endCommitCheck s).engine.boSchedule = s.engine.boSchedule ∧
      (endCommitCheck s).engine.boHeld = s.engine.boHeld ∧ (endCommitCheck s).cond = s.cond ∧
      (endCommitCheck s).breaker = s.breaker ∧ (endCommitCheck s).amp = s.amp ∧ (endCommitCheck s).eval = s.eval ∧
      (endCommitCheck s).link.straps = s.link.straps ∧ (endCommitCheck s).link.state = s.link.state ∧
      (endCommitCheck s).link.requests = s.link.requests ∧ (endCommitCheck s).link.replySlot = s.link.replySlot ∧
      (endCommitCheck s).link.resync = s.link.resync ∧ (endCommitCheck s).link.drive = s.link.drive ∧
      (endCommitCheck s).coord.count = s.coord.count ∧ (endCommitCheck s).gather.count = s.gather.count ∧
      (endCommitCheck s).gather.onFinish = s.gather.onFinish ∧ (endCommitCheck s).clock = s.clock ∧
      (endCommitCheck s).supplyFail = s.supplyFail ∧
      (endCommitCheck s).past = s.past ∧
      (endCommitCheck s).now = s.now ∧
      (endCommitCheck s).own = s.own ∧ (endCommitCheck s).runActive = s.runActive ∧
      (endCommitCheck s).runUnderWay = s.runUnderWay := by
  unfold endCommitCheck
  dsimp only
  (repeat' split) <;> simp [State.own, State.runActive, State.runUnderWay]

@[simp] theorem writePlan_frame (r : Request) (x : Reading) (s : State) :
    (writePlan r x s).pending = s.pending ∧ (writePlan r x s).plan.firstError = s.plan.firstError ∧
      (writePlan r x s).plan.committer = s.plan.committer ∧ (writePlan r x s).plan.checkBegan = s.plan.checkBegan ∧
      (writePlan r x s).engine.runLabel = s.engine.runLabel ∧ (writePlan r x s).amp.count = s.amp.count ∧
      (writePlan r x s).amp.state = s.amp.state ∧ (writePlan r x s).amp.warmUp = s.amp.warmUp ∧
      (writePlan r x s).amp.debouncers = s.amp.debouncers ∧ (writePlan r x s).link.straps = s.link.straps ∧
      (writePlan r x s).link.state = s.link.state ∧ (writePlan r x s).link.requests = s.link.requests ∧
      (writePlan r x s).link.replySlot = s.link.replySlot ∧
      (writePlan r x s).link.outstanding = s.link.outstanding ∧ (writePlan r x s).link.resync = s.link.resync ∧
      (writePlan r x s).link.drive = s.link.drive ∧ (writePlan r x s).coord = s.coord ∧
      (writePlan r x s).gather.count = s.gather.count ∧ (writePlan r x s).gather.state = s.gather.state ∧
      (writePlan r x s).gather.cursor = s.gather.cursor ∧
      (writePlan r x s).gather.tagCounter = s.gather.tagCounter ∧
      (writePlan r x s).gather.report = s.gather.report ∧ (writePlan r x s).clock = s.clock ∧
      (writePlan r x s).supplyFail = s.supplyFail ∧
      (writePlan r x s).past = s.past ∧
      (writePlan r x s).now = s.now ∧ (writePlan r x s).own = s.own := by
  unfold writePlan
  (repeat' split) <;> simp [State.own]

@[simp] theorem beginCheck_frame (r : Request) (s : State) :
    (beginCheck r s).pending = s.pending ∧ (beginCheck r s).plan.items = s.plan.items ∧
      (beginCheck r s).plan.clampCount = s.plan.clampCount ∧ (beginCheck r s).plan.firstError = s.plan.firstError ∧
      (beginCheck r s).synth = s.synth ∧ (beginCheck r s).engine = s.engine ∧ (beginCheck r s).cond = s.cond ∧
      (beginCheck r s).breaker = s.breaker ∧ (beginCheck r s).amp = s.amp ∧ (beginCheck r s).eval = s.eval ∧
      (beginCheck r s).link.straps = s.link.straps ∧ (beginCheck r s).link.state = s.link.state ∧
      (beginCheck r s).link.tx = s.link.tx ∧ (beginCheck r s).link.nextAge = s.link.nextAge ∧
      (beginCheck r s).link.replySlot = s.link.replySlot ∧ (beginCheck r s).link.outstanding = s.link.outstanding ∧
      (beginCheck r s).link.resync = s.link.resync ∧ (beginCheck r s).link.drive = s.link.drive ∧
      (beginCheck r s).link.notices = s.link.notices ∧ (beginCheck r s).coord = s.coord ∧
      (beginCheck r s).store = s.store ∧ (beginCheck r s).gather = s.gather ∧
      (beginCheck r s).status.latch = s.status.latch ∧ (beginCheck r s).status.refused = s.status.refused ∧
      (beginCheck r s).status.turnedAway = s.status.turnedAway ∧
      (beginCheck r s).status.dropped = s.status.dropped ∧ (beginCheck r s).clock = s.clock ∧
      (beginCheck r s).supplyFail = s.supplyFail ∧
      (beginCheck r s).past = s.past ∧
      (beginCheck r s).now = s.now ∧ (beginCheck r s).own = s.own ∧
      (beginCheck r s).runActive = s.runActive ∧ (beginCheck r s).runUnderWay = s.runUnderWay := by
  simp [beginCheck, State.own]

@[simp] theorem emptyPlan_frame (s : State) :
    (emptyPlan s).pending = s.pending ∧ (emptyPlan s).engine.runLabel = s.engine.runLabel ∧
      (emptyPlan s).amp.count = s.amp.count ∧ (emptyPlan s).amp.state = s.amp.state ∧
      (emptyPlan s).amp.warmUp = s.amp.warmUp ∧ (emptyPlan s).amp.debouncers = s.amp.debouncers ∧
      (emptyPlan s).link.straps = s.link.straps ∧ (emptyPlan s).link.state = s.link.state ∧
      (emptyPlan s).link.requests = s.link.requests ∧ (emptyPlan s).link.replySlot = s.link.replySlot ∧
      (emptyPlan s).link.outstanding = s.link.outstanding ∧ (emptyPlan s).link.resync = s.link.resync ∧
      (emptyPlan s).link.drive = s.link.drive ∧ (emptyPlan s).coord = s.coord ∧
      (emptyPlan s).gather.count = s.gather.count ∧ (emptyPlan s).gather.state = s.gather.state ∧
      (emptyPlan s).gather.cursor = s.gather.cursor ∧ (emptyPlan s).gather.tagCounter = s.gather.tagCounter ∧
      (emptyPlan s).gather.report = s.gather.report ∧ (emptyPlan s).clock = s.clock ∧
      (emptyPlan s).supplyFail = s.supplyFail ∧
      (emptyPlan s).past = s.past ∧
      (emptyPlan s).now = s.now ∧ (emptyPlan s).own = s.own := by
  simp [emptyPlan, State.own]

@[simp] theorem clearLatch_frame (s : State) :
    (clearLatch s).pending = s.pending ∧ (clearLatch s).plan = s.plan ∧ (clearLatch s).synth = s.synth ∧
      (clearLatch s).engine = s.engine ∧ (clearLatch s).cond = s.cond ∧ (clearLatch s).breaker = s.breaker ∧
      (clearLatch s).amp = s.amp ∧ (clearLatch s).eval = s.eval ∧ (clearLatch s).link = s.link ∧
      (clearLatch s).coord = s.coord ∧ (clearLatch s).store = s.store ∧ (clearLatch s).gather = s.gather ∧
      (clearLatch s).status.service = s.status.service ∧ (clearLatch s).clock = s.clock ∧
      (clearLatch s).supplyFail = s.supplyFail ∧
      (clearLatch s).past = s.past ∧
      (clearLatch s).now = s.now ∧ (clearLatch s).own = s.own ∧
      (clearLatch s).runActive = s.runActive ∧ (clearLatch s).runUnderWay = s.runUnderWay ∧
      (clearLatch s).header = s.header := by
  simp [clearLatch]

@[simp] theorem judgeUnknown_frame (r : Request) (s : State) :
    (judgeUnknown r s).pending = s.pending ∧ (judgeUnknown r s).plan = s.plan ∧ (judgeUnknown r s).synth = s.synth ∧
      (judgeUnknown r s).engine = s.engine ∧ (judgeUnknown r s).cond = s.cond ∧
      (judgeUnknown r s).breaker = s.breaker ∧ (judgeUnknown r s).amp = s.amp ∧ (judgeUnknown r s).eval = s.eval ∧
      (judgeUnknown r s).link = s.link ∧ (judgeUnknown r s).coord = s.coord ∧ (judgeUnknown r s).store = s.store ∧
      (judgeUnknown r s).gather = s.gather ∧ (judgeUnknown r s).status.latch = s.status.latch ∧
      (judgeUnknown r s).status.served = s.status.served ∧
      (judgeUnknown r s).status.turnedAway = s.status.turnedAway ∧
      (judgeUnknown r s).status.dropped = s.status.dropped ∧ (judgeUnknown r s).clock = s.clock ∧
      (judgeUnknown r s).supplyFail = s.supplyFail ∧
      (judgeUnknown r s).past = s.past ∧
      (judgeUnknown r s).now = s.now ∧
      (judgeUnknown r s).own = s.own ∧ (judgeUnknown r s).runActive = s.runActive ∧
      (judgeUnknown r s).runUnderWay = s.runUnderWay ∧ (judgeUnknown r s).header = s.header := by
  simp [judgeUnknown]

@[simp] theorem logRemoved_frame (e : TxEntry) (s : State) :
    (logRemoved e s).pending = s.pending ∧ (logRemoved e s).plan = s.plan ∧ (logRemoved e s).synth = s.synth ∧
      (logRemoved e s).engine = s.engine ∧ (logRemoved e s).cond = s.cond ∧ (logRemoved e s).breaker = s.breaker ∧
      (logRemoved e s).amp = s.amp ∧ (logRemoved e s).eval = s.eval ∧ (logRemoved e s).link = s.link ∧
      (logRemoved e s).coord = s.coord ∧ (logRemoved e s).gather = s.gather ∧ (logRemoved e s).status = s.status ∧
      (logRemoved e s).clock = s.clock ∧ (logRemoved e s).supplyFail = s.supplyFail ∧
      (logRemoved e s).past = s.past ∧
      (logRemoved e s).now = s.now ∧
      (logRemoved e s).own = s.own ∧ (logRemoved e s).runActive = s.runActive ∧
      (logRemoved e s).runUnderWay = s.runUnderWay ∧ (logRemoved e s).header = s.header := by
  unfold logRemoved
  (repeat' split) <;> simp

@[simp] theorem resetTx_frame (abortAge : Option Nat) (s : State) :
    (resetTx abortAge s).pending = s.pending ∧ (resetTx abortAge s).plan = s.plan ∧
      (resetTx abortAge s).synth = s.synth ∧ (resetTx abortAge s).engine = s.engine ∧
      (resetTx abortAge s).cond = s.cond ∧ (resetTx abortAge s).breaker = s.breaker ∧
      (resetTx abortAge s).amp = s.amp ∧ (resetTx abortAge s).eval = s.eval ∧
      (resetTx abortAge s).link.straps = s.link.straps ∧ (resetTx abortAge s).link.state = s.link.state ∧
      (resetTx abortAge s).link.nextAge = s.link.nextAge ∧ (resetTx abortAge s).link.requests = s.link.requests ∧
      (resetTx abortAge s).link.replySlot = s.link.replySlot ∧
      (resetTx abortAge s).link.outstanding = s.link.outstanding ∧
      (resetTx abortAge s).link.resync = s.link.resync ∧ (resetTx abortAge s).link.drive = s.link.drive ∧
      (resetTx abortAge s).link.notices = s.link.notices ∧ (resetTx abortAge s).coord = s.coord ∧
      (resetTx abortAge s).gather = s.gather ∧ (resetTx abortAge s).status = s.status ∧
      (resetTx abortAge s).clock = s.clock ∧ (resetTx abortAge s).supplyFail = s.supplyFail ∧
      (resetTx abortAge s).past = s.past ∧
      (resetTx abortAge s).now = s.now ∧ (resetTx abortAge s).own = s.own ∧
      (resetTx abortAge s).runActive = s.runActive ∧ (resetTx abortAge s).runUnderWay = s.runUnderWay ∧
      (resetTx abortAge s).header = s.header := by
  unfold resetTx
  refine ⟨foldl_keep (fun s => s.pending) _ (by intros; (repeat' split) <;> simp [State.own]) _ _,
    foldl_keep (fun s => s.plan) _ (by intros; (repeat' split) <;> simp [State.own]) _ _,
    foldl_keep (fun s => s.synth) _ (by intros; (repeat' split) <;> simp [State.own]) _ _,
    foldl_keep (fun s => s.engine) _ (by intros; (repeat' split) <;> simp [State.own]) _ _,
    foldl_keep (fun s => s.cond) _ (by intros; (repeat' split) <;> simp [State.own]) _ _,
    foldl_keep (fun s => s.breaker) _ (by intros; (repeat' split) <;> simp [State.own]) _ _,
    foldl_keep (fun s => s.amp) _ (by intros; (repeat' split) <;> simp [State.own]) _ _,
    foldl_keep (fun s => s.eval) _ (by intros; (repeat' split) <;> simp [State.own]) _ _,
    foldl_keep (fun s => s.link.straps) _ (by intros; (repeat' split) <;> simp [State.own]) _ _,
    foldl_keep (fun s => s.link.state) _ (by intros; (repeat' split) <;> simp [State.own]) _ _,
    foldl_keep (fun s => s.link.nextAge) _ (by intros; (repeat' split) <;> simp [State.own]) _ _,
    foldl_keep (fun s => s.link.requests) _ (by intros; (repeat' split) <;> simp [State.own]) _ _,
    foldl_keep (fun s => s.link.replySlot) _ (by intros; (repeat' split) <;> simp [State.own]) _ _,
    foldl_keep (fun s => s.link.outstanding) _ (by intros; (repeat' split) <;> simp [State.own]) _ _,
    foldl_keep (fun s => s.link.resync) _ (by intros; (repeat' split) <;> simp [State.own]) _ _,
    foldl_keep (fun s => s.link.drive) _ (by intros; (repeat' split) <;> simp [State.own]) _ _,
    foldl_keep (fun s => s.link.notices) _ (by intros; (repeat' split) <;> simp [State.own]) _ _,
    foldl_keep (fun s => s.coord) _ (by intros; (repeat' split) <;> simp [State.own]) _ _,
    foldl_keep (fun s => s.gather) _ (by intros; (repeat' split) <;> simp [State.own]) _ _,
    foldl_keep (fun s => s.status) _ (by intros; (repeat' split) <;> simp [State.own]) _ _,
    foldl_keep (fun s => s.clock) _ (by intros; (repeat' split) <;> simp [State.own]) _ _,
    foldl_keep (fun s => s.supplyFail) _ (by intros; (repeat' split) <;> simp [State.own]) _ _,
    foldl_keep (fun s => s.past) _ (by intros; (repeat' split) <;> simp [State.own]) _ _,
    foldl_keep (fun s => s.now) _ (by intros; (repeat' split) <;> simp [State.own]) _ _,
    foldl_keep (fun s => s.own) _ (by intros; (repeat' split) <;> simp [State.own]) _ _,
    foldl_keep (fun s => s.runActive) _ (by intros; (repeat' split) <;> simp [State.own]) _ _,
    foldl_keep (fun s => s.runUnderWay) _ (by intros; (repeat' split) <;> simp [State.own]) _ _,
    foldl_keep (fun s => s.header) _ (by intros; (repeat' split) <;> simp [State.own]) _ _⟩

@[simp] theorem synthReset_frame (s : State) :
    (synthReset s).pending = s.pending ∧ (synthReset s).plan = s.plan ∧ (synthReset s).engine = s.engine ∧
      (synthReset s).cond = s.cond ∧ (synthReset s).breaker = s.breaker ∧ (synthReset s).amp = s.amp ∧
      (synthReset s).eval = s.eval ∧ (synthReset s).link = s.link ∧ (synthReset s).coord = s.coord ∧
      (synthReset s).store = s.store ∧ (synthReset s).gather = s.gather ∧ (synthReset s).status = s.status ∧
      (synthReset s).clock = s.clock ∧ (synthReset s).supplyFail = s.supplyFail ∧
      (synthReset s).past = s.past ∧
      (synthReset s).now = s.now ∧
      (synthReset s).own = s.own ∧ (synthReset s).runActive = s.runActive ∧
      (synthReset s).runUnderWay = s.runUnderWay ∧ (synthReset s).header = s.header := by
  simp [synthReset]

@[simp] theorem takeHorizon_frame (s : State) :
    (takeHorizon s).pending = s.pending ∧ (takeHorizon s).plan = s.plan ∧ (takeHorizon s).synth = s.synth ∧
      (takeHorizon s).engine.runLabel = s.engine.runLabel ∧ (takeHorizon s).engine.visit = s.engine.visit ∧
      (takeHorizon s).engine.visitCount = s.engine.visitCount ∧ (takeHorizon s).engine.decided = s.engine.decided ∧
      (takeHorizon s).engine.pendingMark = s.engine.pendingMark ∧
      (takeHorizon s).engine.pendingFallback = s.engine.pendingFallback ∧
      (takeHorizon s).engine.firstOperates = s.engine.firstOperates ∧
      (takeHorizon s).engine.timers = s.engine.timers ∧ (takeHorizon s).engine.backstop = s.engine.backstop ∧
      (takeHorizon s).engine.held = s.engine.held ∧ (takeHorizon s).engine.latestVisit = s.engine.latestVisit ∧
      (takeHorizon s).engine.endReason = s.engine.endReason ∧ (takeHorizon s).engine.boLevels = s.engine.boLevels ∧
      (takeHorizon s).engine.boSchedule = s.engine.boSchedule ∧
      (takeHorizon s).engine.boHeld = s.engine.boHeld ∧ (takeHorizon s).cond = s.cond ∧
      (takeHorizon s).breaker = s.breaker ∧ (takeHorizon s).amp.count = s.amp.count ∧
      (takeHorizon s).amp.state = s.amp.state ∧ (takeHorizon s).amp.warmUp = s.amp.warmUp ∧
      (takeHorizon s).amp.debouncers = s.amp.debouncers ∧ (takeHorizon s).eval.working = s.eval.working ∧
      (takeHorizon s).link = s.link ∧ (takeHorizon s).coord = s.coord ∧
      (takeHorizon s).gather.count = s.gather.count ∧ (takeHorizon s).gather.state = s.gather.state ∧
      (takeHorizon s).gather.cursor = s.gather.cursor ∧ (takeHorizon s).gather.tagCounter = s.gather.tagCounter ∧
      (takeHorizon s).gather.report = s.gather.report ∧ (takeHorizon s).status = s.status ∧
      (takeHorizon s).clock = s.clock ∧ (takeHorizon s).supplyFail = s.supplyFail ∧
      (takeHorizon s).past = s.past ∧
      (takeHorizon s).now = s.now ∧
      (takeHorizon s).own = s.own ∧ (takeHorizon s).header = s.header := by
  simp [takeHorizon]

@[simp] theorem takeSample_frame (s : State) :
    (takeSample s).pending = s.pending ∧ (takeSample s).plan = s.plan ∧
      (takeSample s).synth.freqWord = s.synth.freqWord ∧ (takeSample s).engine = s.engine ∧
      (takeSample s).cond = s.cond ∧ (takeSample s).breaker.state = s.breaker.state ∧
      (takeSample s).breaker.timer = s.breaker.timer ∧ (takeSample s).amp = s.amp ∧ (takeSample s).eval = s.eval ∧
      (takeSample s).link = s.link ∧ (takeSample s).coord = s.coord ∧ (takeSample s).store = s.store ∧
      (takeSample s).gather = s.gather ∧ (takeSample s).status = s.status ∧
      (takeSample s).clock.running = s.clock.running ∧ (takeSample s).clock.now = s.clock.now ∧
      (takeSample s).clock.elapsed = s.clock.elapsed ∧ (takeSample s).supplyFail = s.supplyFail ∧
      (takeSample s).past = s.past ∧
      (takeSample s).own = s.own ∧ (takeSample s).runActive = s.runActive ∧
      (takeSample s).runUnderWay = s.runUnderWay ∧ (takeSample s).header = s.header := by
  unfold takeSample
  (repeat' split) <;> simp

/-- What is remembered of a microsecond, and that nothing else changes. -/
theorem remember_spec (s : State) :
    (remember s).past.length ≤ 18 ∧ (remember s).past[0]? = some (checkView s) ∧
      (∀ n, n < 17 → (remember s).past[n + 1]? = s.past[n]?) ∧ remember s = s.withPast (remember s).past := by
  refine ⟨by simp [remember, Config.rollcallSlots], by simp [remember, Config.rollcallSlots], fun n h => ?_, rfl⟩
  simp [remember, Config.rollcallSlots, h]

end Sys2Proof.Machine
end

