-- ==== Sys2Proof/Laws/Ops.lean ====
section
/-! SUPPORT. What the shared operations answer, said once each: the fixed-length tables, the saturating count, the next
boundary, the order of the transmit queue, and the settling of outcomes. -/

namespace Sys2Proof

@[simp] theorem tabulate_get {α : Type} {n : Nat} (f : Fin n → α) (i : Fin n) : (tabulate f).get i = f i := by
  simp only [tabulate, Vector.get, List.getElem_toArray, List.getElem_ofFn]
  rfl

theorem setAt_get {α : Type} {n : Nat} (v : Vector α n) (i j : Fin n) (x : α) :
    (setAt v i x).get j = if j = i then x else v.get j := by
  show (v.set i.val x i.isLt)[j.val] = if j = i then x else v[j.val]
  rw [Vector.getElem_set]
  simp only [Fin.ext_iff, eq_comm]

@[simp] theorem setAt_get_self {α : Type} {n : Nat} (v : Vector α n) (i : Fin n) (x : α) : (setAt v i x).get i = x := by
  simp [setAt_get]

theorem setAt_get_ne {α : Type} {n : Nat} (v : Vector α n) {i j : Fin n} (h : j ≠ i) (x : α) :
    (setAt v i x).get j = v.get j := by
  simp [setAt_get, h]

/-- A saturating count never passes its limit. -/
theorem satAdd_le (limit v k : Nat) : satAdd limit v k ≤ limit := Nat.min_le_left _ _

/-- The next boundary is a multiple of the period, not before the time it is taken from, and the first such. -/
theorem ceilTo_spec (p x : Nat) (hp : 0 < p) :
    ceilTo p x % p = 0 ∧ x ≤ ceilTo p x ∧ ∀ c, c % p = 0 → x ≤ c → ceilTo p x ≤ c := by
  refine ⟨Nat.mul_mod_left _ _, ?_, ?_⟩
  · have h := Nat.div_add_mod (x + (p - 1)) p
    have hm := Nat.mod_lt (x + (p - 1)) hp
    rw [Nat.mul_comm] at h
    unfold ceilTo
    omega
  · intro c hc hx
    obtain ⟨k, rfl⟩ := Nat.dvd_of_mod_eq_zero hc
    unfold ceilTo
    rw [Nat.mul_comm p k]
    refine Nat.mul_le_mul_right p (Nat.le_of_lt_succ ((Nat.div_lt_iff_lt_mul hp).2 ?_))
    rw [Nat.succ_mul, Nat.mul_comm k p]
    omega

end Sys2Proof

namespace Sys2Proof.Machine

/-- A new entry stands behind every entry of its own or a higher priority and ahead of the first of a lower one. -/
theorem insertByPriority_split (e : TxEntry) (q : List TxEntry) :
    ∃ a b, q = a ++ b ∧ insertByPriority e q = a ++ e :: b ∧ (∀ x ∈ a, x.priority ≤ e.priority) ∧
      ∀ x ∈ b.head?, e.priority < x.priority := by
  induction q with
  | nil => exact ⟨[], [], rfl, rfl, by simp, by simp⟩
  | cons x xs ih =>
    by_cases h : x.priority ≤ e.priority
    · obtain ⟨a, b, h1, h2, h3, h4⟩ := ih
      exact ⟨x :: a, b, by simp [h1], by simp [insertByPriority, h, h2], by simpa [h] using h3, h4⟩
    · exact ⟨[], x :: xs, rfl, by simp [insertByPriority, h], by simp, by simp; omega⟩

theorem mem_insertByPriority (e x : TxEntry) (q : List TxEntry) : x ∈ insertByPriority e q ↔ x = e ∨ x ∈ q := by
  obtain ⟨a, b, h1, h2, -, -⟩ := insertByPriority_split e q
  rw [h2, h1]
  simp only [List.mem_append, List.mem_cons]
  tauto

/-- With no outcome left to be told, settling changes nothing. -/
theorem settle_of_quiet (s : State) (h : s.link.notices = []) : settle s = s := by
  show settleFor 64 s = s
  unfold settleFor
  simp [h]

/-- After settling no outcome is left to be told. -/
theorem settleFor_notices (n : Nat) (s : State) : (settleFor n s).link.notices = [] := by
  induction n generalizing s with
  | zero => simp [settleFor]
  | succ n ih =>
    unfold settleFor
    split
    · assumption
    · exact ih _

@[simp] theorem settle_notices (s : State) : (settle s).link.notices = [] := settleFor_notices _ s

end Sys2Proof.Machine
end

