-- ==== Sys2Proof/Laws/PerInstr.lean ====
section
/-! SUPPORT. A statement about every command as syntax, one lemma per constructor: what a well-formed command's frame is.
-/

namespace Sys2Proof.Laws.Kind

/-- The frame a command takes, and the kinds it may have. -/
def frameOf : Instr → Option (RxFrame × (Nat → Prop))
  | .powerOnReset _ => none
  | .supplyFailAsserted => none
  | .supplyFailDeasserted => none
  | .cableIdle _ => none
  | .frameCorrupt => none
  | .frameOutcome _ _ _ => none
  | .linkOnline _ => none
  | .overlengthFrameResync _ => none
  | .duplicateOriginFrame f => some (f, fun _ => True)
  | .requestArrival f => some (f, fun k => k = 0 ∨ 9 ≤ k ∧ k ≤ 15 ∨ 26 ≤ k)
  | .replyReceived f => some (f, fun k => 16 ≤ k ∧ k ≤ 25)
  | .arm f => some (f, fun k => k = 6)
  | .disarm f => some (f, fun k => k = 7)
  | .start f => some (f, fun k => k = 3)
  | .stop f => some (f, fun k => k = 4)
  | .step f => some (f, fun k => k = 5)
  | .abort f => some (f, fun k => k = 1)
  | .mark f => some (f, fun k => k = 2)
  | .rollcall f => some (f, fun k => k = 8)
  | .planWrite => none
  | .planRead => none
  | .planCommit => none
  | .planClear => none
  | .recordRead => none
  | .release => none
  | .gather => none
  | .reportRead => none
  | .statusRead => none
  | .resetStation => none
  | .unknownKindRequest => none
  | .commitCheckEnd => none
  | .initialStateEntry => none
  | .timerExpiry _ => none
  | .backstopExpiry => none
  | .exitBoundary => none
  | .fallbackDeadline => none
  | .clockLimit => none
  | .boDelayExpiry _ => none
  | .sampleBoundary => none
  | .rawTransition _ => none
  | .debounceDeadline _ => none
  | .lockoutRelease _ => none
  | .openTimerExpiry => none
  | .closeTimerExpiry => none
  | .warmUpExpiry => none
  | .idleTimerExpiry => none
  | .overloadLineAsserted _ => none
  | .overloadLineDeasserted _ => none
  | .overloadReport _ => none
  | .settleHorizon => none
  | .pollInstant => none
  | .gatherReplyDeadline => none
  | .gatherRepeatInstant => none
  | .gatherOnFinish => none
  | .requestServiceEnd => none

/-- A well-formed frame command carries a frame that is as long as its length field says and of a kind of its own, or
one that stops at its length field and carries nothing; its payload is never longer than 40 bytes (R115, R116, R119,
R189). -/
def Statement (i : Instr) : Prop :=
  WellFormed i = true → ∀ f kinds, frameOf i = some (f, kinds) →
    (f.length.toNat ≤ 40 ∧ f.payload.length = f.length.toNat ∧ kinds f.kind.toNat) ∨
      (40 < f.length.toNat ∧ f.payload = [])

theorem shapeOk_cases (f : RxFrame) (h : f.shapeOk = true) :
    (f.length.toNat ≤ 40 ∧ f.payload.length = f.length.toNat) ∨ (40 < f.length.toNat ∧ f.payload = []) := by
  unfold RxFrame.shapeOk at h
  split at h
  · exact .inr ⟨‹_›, by simpa using h⟩
  · exact .inl ⟨by omega, by simpa using h⟩

theorem isKind_cases (k : Nat) (f : RxFrame) (h : f.isKind k = true) :
    (f.length.toNat ≤ 40 ∧ f.payload.length = f.length.toNat ∧ f.kind.toNat = k) ∨
      (40 < f.length.toNat ∧ f.payload = []) := by
  simp only [RxFrame.isKind, Bool.and_eq_true, Bool.or_eq_true, beq_iff_eq, decide_eq_true_eq] at h
  obtain ⟨hl, hp⟩ | hr := shapeOk_cases f h.1
  · exact .inl ⟨hl, hp, by omega⟩
  · exact .inr hr

theorem noFrame (i : Instr) (h : frameOf i = none) : Statement i := by
  intro _ f kinds hf
  simp [h] at hf

theorem ofKind (i : Instr) (k : Nat) (f : RxFrame) (hw : WellFormed i = f.isKind k)
    (hf : frameOf i = some (f, fun n => n = k)) : Statement i := by
  intro h g kinds hg
  rw [hf] at hg
  simp only [Option.some.injEq, Prod.mk.injEq] at hg
  obtain ⟨rfl, rfl⟩ := hg
  exact isKind_cases k f (hw ▸ h)

theorem powerOnReset (pins : PinSample) : Statement (.powerOnReset pins) := noFrame _ rfl

theorem supplyFailAsserted : Statement (.supplyFailAsserted) := noFrame _ rfl

theorem supplyFailDeasserted : Statement (.supplyFailDeasserted) := noFrame _ rfl

theorem cableIdle (rivals : List (BitVec 7)) : Statement (.cableIdle rivals) := noFrame _ rfl

theorem frameCorrupt : Statement (.frameCorrupt) := noFrame _ rfl

theorem frameOutcome (ack : Bool) (busy : Bool) (answers : BitVec 16) : Statement (.frameOutcome ack busy answers) := noFrame _ rfl

theorem linkOnline (rivals : List (BitVec 7)) : Statement (.linkOnline rivals) := noFrame _ rfl

theorem overlengthFrameResync (rivals : List (BitVec 7)) : Statement (.overlengthFrameResync rivals) := noFrame _ rfl

theorem duplicateOriginFrame (f : RxFrame) : Statement (.duplicateOriginFrame f) := by
  intro h g kinds hg
  simp only [frameOf, Option.some.injEq, Prod.mk.injEq] at hg
  obtain ⟨rfl, rfl⟩ := hg
  obtain ⟨hl, hp⟩ | hr := shapeOk_cases f h
  · exact .inl ⟨hl, hp, trivial⟩
  · exact .inr hr

theorem requestArrival (f : RxFrame) : Statement (.requestArrival f) := by
  intro h g kinds hg
  simp only [frameOf, Option.some.injEq, Prod.mk.injEq] at hg
  obtain ⟨rfl, rfl⟩ := hg
  simp only [WellFormed, Bool.and_eq_true, Bool.or_eq_true, Bool.not_eq_true', Bool.or_eq_false_iff, isGroupKind,
    isReplyKind, decide_eq_true_eq, decide_eq_false_iff_not] at h
  obtain ⟨hl, hp⟩ | hr := shapeOk_cases f h.1
  · exact .inl ⟨hl, hp, by omega⟩
  · exact .inr hr

theorem replyReceived (f : RxFrame) : Statement (.replyReceived f) := by
  intro h g kinds hg
  simp only [frameOf, Option.some.injEq, Prod.mk.injEq] at hg
  obtain ⟨rfl, rfl⟩ := hg
  simp only [WellFormed, Bool.and_eq_true, Bool.or_eq_true, isReplyKind, decide_eq_true_eq] at h
  obtain ⟨hl, hp⟩ | hr := shapeOk_cases f h.1
  · exact .inl ⟨hl, hp, by omega⟩
  · exact .inr hr

theorem arm (f : RxFrame) : Statement (.arm f) :=
  ofKind _ 6 f rfl rfl

theorem disarm (f : RxFrame) : Statement (.disarm f) :=
  ofKind _ 7 f rfl rfl

theorem start (f : RxFrame) : Statement (.start f) :=
  ofKind _ 3 f rfl rfl

theorem stop (f : RxFrame) : Statement (.stop f) :=
  ofKind _ 4 f rfl rfl

theorem step (f : RxFrame) : Statement (.step f) :=
  ofKind _ 5 f rfl rfl

theorem abort (f : RxFrame) : Statement (.abort f) :=
  ofKind _ 1 f rfl rfl

theorem mark (f : RxFrame) : Statement (.mark f) :=
  ofKind _ 2 f rfl rfl

theorem rollcall (f : RxFrame) : Statement (.rollcall f) :=
  ofKind _ 8 f rfl rfl

theorem planWrite : Statement (.planWrite) := noFrame _ rfl

theorem planRead : Statement (.planRead) := noFrame _ rfl

theorem planCommit : Statement (.planCommit) := noFrame _ rfl

theorem planClear : Statement (.planClear) := noFrame _ rfl

theorem recordRead : Statement (.recordRead) := noFrame _ rfl

theorem release : Statement (.release) := noFrame _ rfl

theorem gather : Statement (.gather) := noFrame _ rfl

theorem reportRead : Statement (.reportRead) := noFrame _ rfl

theorem statusRead : Statement (.statusRead) := noFrame _ rfl

theorem resetStation : Statement (.resetStation) := noFrame _ rfl

theorem unknownKindRequest : Statement (.unknownKindRequest) := noFrame _ rfl

theorem commitCheckEnd : Statement (.commitCheckEnd) := noFrame _ rfl

theorem initialStateEntry : Statement (.initialStateEntry) := noFrame _ rfl

theorem timerExpiry (slot : SlotNo) : Statement (.timerExpiry slot) := noFrame _ rfl

theorem backstopExpiry : Statement (.backstopExpiry) := noFrame _ rfl

theorem exitBoundary : Statement (.exitBoundary) := noFrame _ rfl

theorem fallbackDeadline : Statement (.fallbackDeadline) := noFrame _ rfl

theorem clockLimit : Statement (.clockLimit) := noFrame _ rfl

theorem boDelayExpiry (out : OutputNo) : Statement (.boDelayExpiry out) := noFrame _ rfl

theorem sampleBoundary : Statement (.sampleBoundary) := noFrame _ rfl

theorem rawTransition (bi : InputNo) : Statement (.rawTransition bi) := noFrame _ rfl

theorem debounceDeadline (bi : InputNo) : Statement (.debounceDeadline bi) := noFrame _ rfl

theorem lockoutRelease (bi : InputNo) : Statement (.lockoutRelease bi) := noFrame _ rfl

theorem openTimerExpiry : Statement (.openTimerExpiry) := noFrame _ rfl

theorem closeTimerExpiry : Statement (.closeTimerExpiry) := noFrame _ rfl

theorem warmUpExpiry : Statement (.warmUpExpiry) := noFrame _ rfl

theorem idleTimerExpiry : Statement (.idleTimerExpiry) := noFrame _ rfl

theorem overloadLineAsserted (line : OverloadLine) : Statement (.overloadLineAsserted line) := noFrame _ rfl

theorem overloadLineDeasserted (line : OverloadLine) : Statement (.overloadLineDeasserted line) := noFrame _ rfl

theorem overloadReport (line : OverloadLine) : Statement (.overloadReport line) := noFrame _ rfl

theorem settleHorizon : Statement (.settleHorizon) := noFrame _ rfl

theorem pollInstant : Statement (.pollInstant) := noFrame _ rfl

theorem gatherReplyDeadline : Statement (.gatherReplyDeadline) := noFrame _ rfl

theorem gatherRepeatInstant : Statement (.gatherRepeatInstant) := noFrame _ rfl

theorem gatherOnFinish : Statement (.gatherOnFinish) := noFrame _ rfl

theorem requestServiceEnd : Statement (.requestServiceEnd) := noFrame _ rfl

end Sys2Proof.Laws.Kind
end

