-- ==== Sys2Proof/Tests/Slice0.lean ====
section
/-! SUPPORT. Small tests with values from the data manual, and for each statement that has hypotheses a witness that they
can be met together. -/

set_option Elab.async false

namespace Sys2Proof.Tests

open Sys2Proof.Machine Sys2Proof.Safety Sys2Proof.Claims

/-! ### Small states -/

/-- The state a command leaves. -/
def after (c : Instr) (s : State) : State :=
  match exec c s with
  | .next t => t
  | .fault _ | .refused _ => s

/-- A frame as another station's transmitter sends it to group 0, to station 0 or, as its kind allows, to neither. -/
def frame (kind : Nat) (origin : StationNo) (p : List Byte) : RxFrame :=
  let f : RxFrame :=
    { priority := 0, origin := origin, destForm := if isGroupKind kind then 1 else 0, destNumber := 0
      kind := BitVec.ofNat 6 kind, tag := 7, length := BitVec.ofNat 6 p.length, payload := p, check := 0 }
  { f with check := crc16 (frameBits f) }

def online : State := State.reset.modLink fun l => { l with state := .online }

/-- A state with one plan state defined, and the plan VALID. -/
def planned : State :=
  online.modPlan fun p =>
    { p with
      state := .valid
      items := { p.items with states := modAt p.items.states 0 fun x => { x with defined := true } } }

def armed : State :=
  (planned.modEngine fun g => { g with runState := .armed, runLabel := some 5 }).modStore fun x =>
    { x with reserve := some { evaluations := 0, dropped := 0 } }

/-- RUNNING before the first visit. -/
def started : State :=
  (armed.modEngine fun g => { g with runState := .running }).modClock fun c => { c with running := true, now := 1000 }

def visit1 : Visit := { state := 0, number := 1, entry := 1000, uncoordinated := false }

/-- RUNNING in visit 1 of state 0, entered at 1000, at t = 2050. -/
def running : State :=
  ((started.modEngine fun g =>
      { g with visit := some visit1, visitCount := 1, latestVisit := some 0 }).modClock fun c =>
        { c with now := 2050 }).modEval fun e =>
          { e with working := some { firstOperate := Vector.replicate 8 none, lockoutSeen := Vector.replicate 8 none } }

def at_ (t : Nat) (s : State) : State := s.modClock fun c => { c with now := BitVec.ofNat 32 t }

/-- The state with a trigger in a slot of plan state 0. -/
def withTrigger (n : SlotNo) (t : Trigger) (s : State) : State :=
  s.modPlan fun p => { p with
    items := { p.items with states := modAt p.items.states 0 fun x => { x with triggers := setAt x.triggers n t } } }

/-- An entry of the transmit queue, addressed to the group. -/
def entry (age : Nat) (begun onWire : Bool) (body : FrameBody) (owner : Owner) : TxEntry :=
  { frame := { dest := none, tag := 0, body := body, owner := owner }, age := age, begun := begun, onWire := onWire }

def queued (q : List TxEntry) (s : State) : State := s.modLink fun l => { l with tx := q, nextAge := 20 }

/-- A request of station 3. -/
def request (kind : Nat) (p : List Byte) : Request := { origin := 3, tag := 7, kind := kind, payload := p, instant := 0 }

/-- The request in hand, taken at elapsed time 0. -/
def served (kind : Nat) (p : List Byte) (s : State) : State :=
  s.modStatus fun u => { u with service := .taken (request kind p) 0 }

/-- One label held with one record. -/
def holding (l : Label) (s : State) : State :=
  s.modStore fun x => appendTo l 0 (.inputLockout 2 true) x

def decided (d : DecidedExit) (s : State) : State := s.modEngine fun g => { g with decided := some d }

/-- A decided exit to END at 2100. -/
def exitAt2100 : DecidedExit := { instant := 2040, decider := .slot 1, target := some .endRun, boundary := 2100 }

/-! ### Well-formedness (R115, R116, R119, R189) -/

/-- A frame of another kind than the command's, or whose payload is not as long as its length field says. -/
theorem test_ill_formed :
    WellFormed (.arm (frame 3 1 [5])) = false ∧ WellFormed (.disarm (frame 6 1 [5])) = false ∧
      WellFormed (.start (frame 4 1 [5])) = false ∧ WellFormed (.stop (frame 3 1 [5])) = false ∧
      WellFormed (.step (frame 6 1 [5])) = false ∧ WellFormed (.abort (frame 2 1 [5, 1])) = false ∧
      WellFormed (.mark (frame 1 1 [5, 1])) = false ∧ WellFormed (.rollcall (frame 7 1 [1])) = false ∧
      WellFormed (.replyReceived (frame 32 1 [])) = false ∧ WellFormed (.requestArrival (frame 16 1 [])) = false ∧
      WellFormed (.requestArrival (frame 8 1 [])) = false ∧
      WellFormed (.duplicateOriginFrame { frame 32 0 [1] with payload := [] }) = false ∧
      WellFormed (.arm { frame 6 1 [5] with payload := [5, 6] }) = false ∧
      WellFormed (.arm { frame 6 1 [5] with length := 41 }) = false := by
  decide

theorem test_well_formed :
    WellFormed (.arm (frame 6 1 [5])) = true ∧ WellFormed (.requestArrival (frame 63 1 [])) = true ∧
      WellFormed (.arm { frame 9 1 [] with length := 41 }) = true := by
  decide

/-! ### Arithmetic, with the manual's own figures -/

/-- R115: the check of the nine bytes 31 to 39 is 29B1. -/
theorem test_crc : crc16 ((List.range 9).flatMap fun i => bitsOf 8 (0x31 + i)) = 0x29B1 := by decide +kernel

/-- R20 and R21. -/
theorem test_words :
    frequencyWord 50000 = 21474836 ∧ frequencyWord 15000 = 6442451 ∧ phaseOffset 12000 = 1431655765 ∧
      phaseOffset 24000 = 2863311531 ∧ phaseOffset 27000 = 3221225472 := by
  decide +kernel

/-- R22. -/
theorem test_amplitudes :
    amplitudeCode 0 63500 = 6539 ∧ amplitudeCode 2 300000 = 30894 ∧ amplitudeCode 3 1000 = 927 ∧
      amplitudeCode 3 5000 = 4634 ∧ amplitudeCode 5 32000 = 29657 ∧ harmonicAmplitude 4634 200 = 927 := by
  decide +kernel

/-- Section 5.2: the boundary at or after an instant; R50: an exit boundary is later than the entry. -/
theorem test_boundary :
    boundaryAt 1025893 = 1025900 ∧ boundaryAt 1025900 = 1025900 ∧ exitBoundaryOf 1000 1000 = 1100 := by decide +kernel

/-- Section 2.9: channel IA of the worked case. -/
def caseIA : StateItems :=
  { StateItems.initial with
    channels := setAt StateItems.initial.channels 3
      { ChannelItem.initial with magnitude := 5000, angle := 27000, dcMode := .continuous, kd := 65372 } }

/-- The state of the worked case at sample `k` of its visit. -/
def afterSamples : Nat → State → State
  | 0, s => s
  | n + 1, s => afterSamples n (sampleVisit s)

/-- Section 2.9: D0, and the state after sample 2. -/
theorem test_offset_current :
    ((synthEnter caseIA true Synth.initial).channels.get 3).residue = 1186304 ∧
      (let y := (afterSamples 3 (running.modSynth fun y => synthEnter caseIA true y)).synth
       y.thetaRef = 64424508 ∧ (y.channels.get 3).residue = 1177419 ∧ (y.channels.get 3).lastEmitted = -14 ∧
         (y.channels.get 3).clipCount = 0) := by
  decide +kernel

/-- Section 2.10: an exact peak. -/
theorem test_exact_peak :
    periodicPart 1073741800 { ChannelState.initial with amp := 10298 } = 10298 := by decide +kernel

/-- Section 2.11: the forcing status through a crossing. -/
theorem test_forcing :
    nextForcing false 4410 3980 .unforced = .unforced ∧ nextForcing true 3980 3520 .unforced = .watching 1 ∧
      nextForcing true 2650 1240 (.watching 2) = .watching 3 ∧ nextForcing true 1240 (-310) (.watching 3) = .forced ∧
      nextForcing true (-310) (-1870) .forced = .forced ∧ nextForcing false 1240 (-310) (.watching 3) = .unforced := by
  decide

/-- R32: the first bit of CH1's code is on SDAT from the boundary, and SFRM is released at 19.2 µs. -/
theorem test_port :
    portPins (State.reset.modSynth fun y =>
        { y with channels := modAt y.channels 0 fun c => { c with lastEmitted := -1 } }).synth 100 =
      (true, true, true) ∧
      portPins State.reset.synth 19200 = (false, false, false) := by
  decide +kernel

/-! ### One step of each family -/

/-- The command in front is the one run, and the rest waits on. -/
theorem test_step_takes_the_front :
    (match step (online.withPending [.supplyFailAsserted, .planRead]) with
     | .next t => (t.supplyFail, t.pending)
     | .fault _ | .refused _ => (false, [])) = (true, [.planRead]) := by
  decide +kernel

/-- R129, R117: coming online with a lower arbitration field in the same bit-time loses. -/
theorem test_arbitration :
    (after (.linkOnline [1]) (queued [entry 3 false false (.start 5) .coordination] State.reset)).link.tx =
        [entry 3 true false (.start 5) .coordination] ∧
      (after (.linkOnline [0x21]) (queued [entry 3 false false (.start 5) .coordination] State.reset)).link.tx =
        [entry 3 true true (.start 5) .coordination] := by
  decide +kernel

/-- R136 to R138: an ARM for a plan that is not VALID is refused NO-PLAN; one for a VALID plan is taken. -/
theorem test_arm :
    (after (.arm (frame 6 3 [5])) online).status.latch.armRefused = some .noPlan ∧
      (after (.arm (frame 6 3 [5])) planned).engine.runState = .armed ∧
      (after (.disarm (frame 7 3 [5])) armed).engine.runLabel = none := by
  decide +kernel

/-- R133, R60: the epoch with an absent amplifier, and NOT-READY with one in STANDBY. -/
theorem test_start :
    (after (.start (frame 3 3 [5])) armed).engine.runState = .running ∧
      (after (.start (frame 3 3 [5])) armed).clock.running = true ∧
      (after (.start (frame 3 3 [5])) (armed.modAmp fun a => { a with state := .standby })).engine.endReason =
        .notReady := by
  decide +kernel

/-- R44: entry of the initial state at 1000. -/
theorem test_initial_entry : (after .initialStateEntry started).engine.visit = some visit1 := by decide +kernel

/-- R50, R58: STOP and a STEP at 2050 end the visit at 2100. -/
theorem test_stop_step :
    (after (.stop (frame 4 3 [5])) running).engine.decided.map (·.boundary) = some 2100 ∧
      (after (.step (frame 5 3 [5])) (withTrigger 1 (.step .endRun) running)).engine.decided =
        some { instant := 2050, decider := .slot 1, target := some .endRun, boundary := 2100 } := by
  decide +kernel

/-- R59, R111: the END exit of a visit with no judged input finishes the run at once, with one EVALUATION and the
RUN-SUMMARY held. -/
theorem test_exit_to_end :
    (after .exitBoundary (at_ 2100 (decided exitAt2100 running))).engine.runState = .finished ∧
      (after .exitBoundary (at_ 2100 (decided exitAt2100 running))).store.heldLabels.map (·.count) = [2] := by
  decide +kernel

/-- R61: a peer's ABORT. -/
theorem test_peer_abort : (after (.abort (frame 1 3 [5, 9])) running).engine.endReason = .peerAbort := by decide +kernel

/-- R130: a frame of the station's own number mutes it. -/
theorem test_duplicate : (after (.duplicateOriginFrame (frame 3 0 [5])) running).link.state = .muted := by
  decide +kernel

/-- R121, R140: the station's READY bit. -/
theorem test_rollcall :
    (after (.rollcall (frame 8 3 [1])) armed).link.drive = { ack := true, busy := false, rollBit := true } ∧
      (after (.rollcall (frame 8 3 [1])) running).link.drive = { ack := true, busy := false, rollBit := false } := by
  decide +kernel

/-- R121: the condition is that of the end of the check field, 18 bit-times before the frame instant. -/
theorem test_rollcall_condition_is_that_of_the_check_field :
    let view (ready : Bool) : CheckView := { room := true, ready := ready, done := false, fault := false }
    (after (.rollcall (frame 8 3 [1])) (running.withPast (List.replicate 17 (view false) ++ [view true]))).link.drive.rollBit
        = true ∧
      (after (.rollcall (frame 8 3 [1])) (armed.withPast (List.replicate 17 (view true) ++ [view false]))).link.drive.rollBit
        = false := by
  decide +kernel

/-- R120: the room is that of the end of the check field, two bit-times before the frame instant. -/
theorem test_request_room_is_that_of_the_check_field :
    let view (room : Bool) : CheckView := { room := room, ready := false, done := false, fault := false }
    (after (.requestArrival (frame 40 3 [])) (online.withPast [view true, view false])).link.drive =
        { ack := false, busy := true, rollBit := false } ∧
      (after (.requestArrival (frame 40 3 [])) (online.withPast [view false, view true])).link.drive =
        { ack := true, busy := false, rollBit := false } := by
  decide +kernel

/-- R120, R127, R181: a request is acked and taken. -/
theorem test_request :
    (after (.requestArrival (frame 40 3 [])) online).link.drive.ack = true ∧
      (after (.requestArrival (frame 40 3 [])) online).status.service =
        .taken { origin := 3, tag := 7, kind := 40, payload := [], instant := 0 } 0 := by
  decide +kernel

/-- R3, R9: a magnitude of 40,000 is clamped to 32,000 on a current channel and stored unchanged on a voltage channel. -/
theorem test_plan_write_clamps :
    (readItem (.stateChannel 0 3) ([6, 0, 3] ++ bytes4 40000 ++ List.replicate 12 0)).clamped = 1 ∧
      (readItem (.stateChannel 0 3) ([6, 0, 3] ++ bytes4 40000 ++ List.replicate 12 0)).item =
        .stateChannel 0 3 { ChannelItem.initial with magnitude := 32000 } ∧
      (readItem (.stateChannel 0 0) ([6, 0, 0] ++ bytes4 40000 ++ List.replicate 12 0)).clamped = 0 := by
  decide +kernel

/-- R15: a commit of an empty plan is refused NO-PLAN. -/
theorem test_commit_empty :
    (after .planCommit (served 40 [] online)).status.service = .answered (request 40 []) 17 [40, 8, 0] 0 := by
  decide +kernel

/-- R182: a kind of none of the ten. -/
theorem test_unknown_kind :
    (after .unknownKindRequest (served 63 [] online)).status.service = .answered (request 63 []) 17 [63, 1, 0] 0 := by
  decide +kernel

/-- R161: releasing a label of one record frees its one block. -/
theorem test_release :
    (after .release (served 34 [9] (holding 9 online))).status.service = .answered (request 34 [9]) 16 [34, 1, 0, 1] 0 ∧
      (after .release (served 34 [9] (holding 9 online))).store = Store.initial := by
  decide +kernel

/-- R159: a record that is held, and none past it. -/
theorem test_record_read :
    (after .recordRead (served 35 [9, 0, 0, 0] (holding 9 online))).status.service =
        .answered (request 35 [9, 0, 0, 0]) 21 ([9, 0, 0, 0, 1, 32] ++ [0, 0, 0, 0] ++
          (Contents.inputLockout 2 true).firstPart) 0 ∧
      (after .recordRead (served 35 [9, 0, 1, 0] (holding 9 online))).status.service =
        .answered (request 35 [9, 0, 1, 0]) 22 [9, 0, 1] 0 := by
  decide +kernel

/-- Section 4.8: the candidate of 2,410,601 is accepted 3.0 ms later, and a return before that discards it. -/
theorem test_bounce :
    let s (now : Nat) : State := (at_ now running).modCond fun c =>
      { c with count := now, inputs := modAt c.inputs 3 fun x => { x with raw := true, candidate := some 2410601 } }
    let slow (s : State) : State := s.modPlan fun p =>
      { p with items := { p.items with inputs := modAt p.items.inputs 3 fun u => { u with debounce := 30 } } }
    (after (.debounceDeadline 3) (slow (s 2413600))).input 3 = (s 2413600).input 3 ∧
      (after (.debounceDeadline 3) (slow (s 2413601))).input 3 =
        { raw := true, accepted := true, candidate := none, history := [2410601], lockout := none } ∧
      (after (.rawTransition 3) (slow (s 2410650))).input 3 =
        { raw := false, accepted := false, candidate := none, history := [], lockout := none } := by
  decide +kernel

/-- Section 4.9: the fifth edge in the window locks the input out until 2,266,000. -/
theorem test_lockout :
    let s : State := (at_ 2066000 running).modCond fun c => { c with
      count := 2066000
      inputs := modAt c.inputs 2 fun x =>
        { x with raw := true, candidate := some 2065000, history := [2000000, 2012000, 2030000, 2047000] } }
    let t := s.modPlan fun p =>
      { p with items := { p.items with inputs := modAt p.items.inputs 2 fun u => { u with chatterLimit := 4 } } }
    ((after (.debounceDeadline 2) t).input 2).lockout =
      some { held := true, lastRaw := 2066000, release := 2266000, began := 2066000 } := by
  decide +kernel

/-- R153, R75: a change accepted at 2100 that locks BI3 out, where the run ends on an exit decided earlier, leaves both
its records behind, before the EVALUATION and the RUN-SUMMARY. -/
theorem test_lockout_where_the_run_ends :
    let s := (decided exitAt2100 running).modPlan fun p =>
      { p with items := { p.items with inputs := modAt p.items.inputs 2 fun u => { u with chatterLimit := 3 } } }
    let s := (at_ 2100 s).modCond fun c =>
      { c with count := 5000, inputs := modAt c.inputs 2 fun x =>
          { x with raw := true, candidate := some 4000, history := [1000, 2000, 3000] } }
    let t := after (.debounceDeadline 2) s
    t.engine.runState = .finished ∧
      (t.store.blocks.get 0).records.map (·.contents.kindCode) = [0, 1, 6, 7] := by
  decide +kernel

/-- R107: a visit aborted at its own entry instant is CHATTER for an input LOCKED-OUT since before, and not for one
locked out at that instant. -/
theorem test_chatter_of_a_visit_aborted_at_its_entry :
    let verdicts (began : Nat) : List (List Verdict) :=
      let s := started.modPlan fun p => { p with
        items := { p.items with states := modAt p.items.states 0 fun x => { x with windows := setAt x.windows 2 .noOperate } } }
      let s := s.modCond fun c =>
        { c with count := 5000, inputs := modAt c.inputs 2 fun x =>
            { x with lockout := some { held := false, lastRaw := 4500, release := 9000, began := began } } }
      ((after (.abort (frame 1 3 [5, 9])) (after .initialStateEntry s)).store.blocks.get 0).records.map fun r =>
        match r.contents with
        | .evaluation _ _ _ _ _ _ _ _ vs => vs.map (·.verdict)
        | _ => []
    verdicts 4999 = [[.chatter], []] ∧ verdicts 5000 = [[.pass], []] := by
  decide +kernel

/-- R107 and section 6.11: a verdict whose reported time is over range. -/
theorem test_verdict :
    verdictEntry 50001000 { bi := 5, window := .operate 200000 300000, firstOperate := some 74311000, chatter := false } =
      { bi := 5, verdict := .pass, reported := 16777215, noneFlag := false, overRange := true } := by
  decide +kernel

/-- R93, R94: the warm-up of 400 ms, and R95: the idle period of 60 s. -/
theorem test_amplifier :
    let s := planned.modAmp fun a => { a with state := .standby, count := 7 }
    (after (.arm (frame 6 3 [5])) s).amp.warmUp = some 400007 ∧
      (after .warmUpExpiry (s.modAmp fun a => { a with state := .warming, warmUp := some 7 })).amp.idle =
        some 60000007 := by
  decide +kernel

/-- R96: an overload reports after 2 ms and not before. -/
theorem test_overload :
    let s (n : Nat) := running.modAmp fun a =>
      { a with state := .ready, count := n, debouncers := setAt a.debouncers 1 (.timing 100) }
    (after (.overloadReport 1) (s 2099)).amp.state = .ready ∧ (after (.overloadReport 1) (s 2100)).amp.state = .faulted ∧
      (after (.overloadReport 1) (s 2100)).engine.endReason = .overload := by
  decide +kernel

/-- R82: the simulated breaker opens at its timer's expiry. -/
theorem test_breaker :
    let s := (running.modBreaker fun b => { b with state := .opening, timer := .opening 2050 }).modPlan fun p =>
      { p with items := { p.items with
          breaker := { BreakerSetup.initial with enabled := true, out52a := some 0, out52b := some 1 } } }
    (after .openTimerExpiry s).breaker.state = .opened ∧
      (after .openTimerExpiry s).engine.boLevels = #v[false, true, false, false] := by
  decide +kernel

/-- R142: the poll instant moves on by 20 ms and queues a roll-call. -/
theorem test_poll :
    let s := armed.modCoord fun c => { c with poller := .polling, nextPoll := some 100, count := 100 }
    (after .pollInstant s).coord.nextPoll = some 20100 ∧
      (after .pollInstant s).link.tx.map (·.frame.body) = [.rollcall .ready] := by
  decide +kernel

/-- R187: a station reset aborts the run and empties the plan. -/
theorem test_station_reset :
    (after .resetStation (served 33 [] running)).engine.endReason = .stationReset ∧
      (after .resetStation (served 33 [] running)).plan = PlanMemory.emptied := by
  decide +kernel

/-- R176: B − A in units of 10 µs. -/
theorem test_term_value :
    termValue .nearestEven 25 = 2 ∧ termValue .nearestEven 35 = 4 ∧ termValue .towardZero (-25) = -2 := by
  decide

/-- R62: BO3 takes its delayed level at 2100; an exit that another station's STEP decides at that boundary, which ends the
visit there, takes it back, and one decided for 2200 leaves it. -/
theorem test_delay_equal_to_the_visit :
    let s := withTrigger 1 (.step (.state 0)) (running.modEngine fun g =>
      { g with boSchedule := setAt g.boSchedule 2 (some (2100, true)) })
    let s := s.modPlan fun p => { p with items := { p.items with states := modAt p.items.states 0 fun x =>
      { x with control := { x.control with boDelays := Vector.replicate 4 5 } } } }
    let shown (n : Nat) : State :=
      after .exitBoundary (at_ n (after (.step (frame 5 3 [5])) (at_ n (after (.boDelayExpiry 2) (at_ 2100 s)))))
    (after (.boDelayExpiry 2) (at_ 2100 s)).engine.boLevels.get 2 = true ∧
      ((shown 2100).engine.visitCount = 2 ∧ (shown 2100).engine.boLevels.get 2 = false) ∧
        (shown 2200).engine.visitCount = 2 ∧ (shown 2200).engine.boLevels.get 2 = true := by
  decide +kernel

/-- R179: a read that has been DELIVERED and awaits its reply ends silent when its station is MUTED. -/
theorem test_muting_ends_the_delivered_read :
    let c : Cursor :=
      { label := 5, sweepSet := setAt (Vector.replicate 16 false) 4 true, waitPending := true, haltSilence := false
        merge := false, requester := none, station := some 4, index := 0, notYetSince := none, readTag := some 9
        deadline := some 20100, repeatAt := none }
    let s := (online.modGather fun g => { g with state := .sweeping, cursor := some c }).modLink fun l =>
      { l with outstanding := some { station := 4, tag := 9 } }
    let t := after (.duplicateOriginFrame (frame 3 0 [5])) s
    t.link.state = .muted ∧ t.gather.report.status.get 4 = .noAnswer ∧ t.gather.state = .done ∧ t.link.outstanding = none := by
  decide +kernel

/-- R115, R189: the bits of ROLLCALL(READY) from station 0 to group 0, but for the check: start, priority 4, origin 0,
form GROUP, number 0, kind 8, tag 0, length 1, class 1. -/
theorem test_sent_bits :
    (sentBits State.reset.link.straps { dest := none, tag := 0, body := .rollcall .ready, owner := .coordination }).take 42 =
      [false, true, false, false, false, false, false, false, false, true, false, false, false, false, false, false, true,
        false, false, false, false, false, false, false, false, false, false, false, false, false, false, false, false, true,
        false, false, false, false, false, false, false, true] := by
  decide +kernel

/-! ### Witnesses: the hypotheses of the statements can be met, clause by clause -/

theorem queuesOk_iff (s : State) :
    QueuesOk s ↔
      s.link.tx.length ≤ 8 ∧ (s.link.tx.Pairwise fun a b => a.priority ≤ b.priority) ∧
        (s.link.tx.Pairwise fun a b => a.age ≠ b.age) ∧
        (∀ e ∈ s.link.tx, e.age < s.link.nextAge ∧ (e.onWire = true → e.begun = true)) ∧
        s.link.tx.countP (fun e => e.onWire) ≤ 1 ∧ (s.link.state = .muted → s.link.tx = []) ∧
        s.link.requests.length ≤ 4 ∧
        ∀ a ∈ s.coord.ownRoll.toList ++ s.coord.ownStart.toList ++ s.coord.gatherRoll.toList, a < s.link.nextAge := by
  simp [QueuesOk]

theorem forall_some {α : Type} {o : Option α} {P : α → Prop} (h : ∀ x ∈ o.toList, P x) : ∀ x, o = some x → P x := by
  rintro x rfl
  exact h x (by simp)

theorem noStep {v : Vector Trigger 4} (h : ∀ n, v.get n = .empty) (n : SlotNo) (t : Target) : v.get n ≠ .step t := by
  simp [h]

theorem noInput {v : Vector Trigger 4} (h : ∀ n, v.get n = .empty) (i : InputNo) (d : Direction) (n : SlotNo) (t : Target)
    (c : Option MarkCode) : v.get n ≠ .input i d t c := by
  simp [h]

/-- With nothing in the store its chains are in order. -/
theorem storeOk_initial : StoreOk Store.initial := by
  refine ⟨by simp [Store.initial], by simp [Store.initial], by simp [Store.initial], ?_, ?_⟩ <;>
    intro b <;> simp [Store.initial, StoreBlock.free]

def amp (x : AmpState) (s : State) : State := s.modAmp fun a => { a with state := x }
def overloaded (s : State) : State := s.modAmp fun a => { a with debouncers := setAt a.debouncers 0 .held }

/-- A reply waiting in the transmit queue. -/
def reply (age : Nat) : TxEntry :=
  { frame := { dest := some 3, tag := 7, body := .reply 16 [41], owner := .planMemory }, age := age, begun := false
    onWire := false }

/-- Seven waiting replies, one short of a full queue. -/
def seven : List TxEntry := (List.range 7).map reply

/-- A full queue, its first frame on the wire. -/
def eight : List TxEntry := { reply 8 with begun := true, onWire := true } :: (List.range 7).map reply

/-- A frame of the station's own on the wire, of age 3. -/
def sending (b : FrameBody) (o : Owner) (s : State) : State := queued [entry 3 true true b o] s

def readEntry : TxEntry :=
  { frame := { dest := some 4, tag := 9, body := .recordRead 5 0, owner := .gatherEngine }, age := 3, begun := true
    onWire := true }

def cursor : Cursor where
  label := 5
  sweepSet := Vector.replicate 16 true
  waitPending := true
  haltSilence := false
  merge := false
  requester := none
  station := some 4
  index := 0
  notYetSince := none
  readTag := some 9
  deadline := none
  repeatAt := none

/-- A gather under way, whose read of station 4 is outstanding. -/
def sweeping (c : Cursor) (s : State) : State :=
  (s.modGather fun g => { g with state := .sweeping, cursor := some c, count := 100 }).modLink fun l =>
    { l with outstanding := some { station := 4, tag := 9 } }

/-- The pending coordinated mark of slot 1, detected at 2040, whose frame is of age 3. -/
def marked (s : State) : State :=
  s.modEngine fun g =>
    { g with pendingMark := some { slot := 1, code := 6, detection := 2040, onWire := true, age := 3 } }

/-- A pending coordinated mark of slot 2, detected at 2040, whose frame of age 3 waits, or was begun and lost. -/
def rival (begun : Bool) (s : State) : State :=
  queued [entry 3 begun false (.mark 5 6 2040) .engine] (s.modEngine fun g =>
    { g with pendingMark := some { slot := 2, code := 6, detection := 2040, onWire := false, age := 3 } })

/-- The pending coordinated mark was detected at `t`. -/
def detectedAt (t : Instant) (s : State) : State :=
  s.modEngine fun g => { g with pendingMark := g.pendingMark.map fun p => { p with detection := t } }

/-- The owner of a frame is to be told DROPPED. -/
def dropping (e : TxEntry) (s : State) : State := s.modLink fun l => { l with notices := [{ entry := e, outcome := .dropped }] }

def coord (f : Coordination → Coordination) (s : State) : State := s.modCoord f
def header (f : Header → Header) (s : State) : State :=
  s.modPlan fun p => { p with items := { p.items with header := f p.items.header } }
def control (f : StateControl → StateControl) (s : State) : State :=
  s.modPlan fun p => { p with
    items := { p.items with states := modAt p.items.states 0 fun x => { x with control := f x.control } } }
def engine (f : Engine → Engine) (s : State) : State := s.modEngine f
def setup (i : InputNo) (f : InputSetup → InputSetup) (s : State) : State :=
  s.modPlan fun p => { p with items := { p.items with inputs := modAt p.items.inputs i f } }
def inputs (i : InputNo) (f : InputState → InputState) (s : State) : State :=
  s.modCond fun c => { c with count := 5000, inputs := modAt c.inputs i f }
def breaker (f : BreakerSetup → BreakerSetup) (s : State) : State :=
  s.modPlan fun p => { p with items := { p.items with breaker := f p.items.breaker } }

/-- A frame of station 4 to station 0 with tag 9. -/
def frameTo (kind : Nat) (p : List Byte) : RxFrame :=
  let f := { frame kind 4 p with tag := 9, check := 0 }
  { f with check := crc16 (frameBits f) }

theorem storeOk_holding : StoreOk (holding 9 online).store := by
  have hl : (holding 9 online).store.heldLabels = [{ label := 9, chain := [0], count := 1, endState := .opened }] := by
    decide +kernel
  have h0 : (holding 9 online).store.blocks.get 0 =
      { owner := some 9, next := none, records := [{ index := 0, time := 0, contents := .inputLockout 2 true }] } := by
    decide +kernel
  have hb : ∀ b, b ≠ 0 → (holding 9 online).store.blocks.get b = StoreBlock.free := by decide +kernel
  generalize (holding 9 online).store = st at hl h0 hb ⊢
  refine ⟨?_, ?_, ?_, ?_, ?_⟩
  · intro h hh
    rw [hl, List.mem_singleton] at hh
    subst hh
    refine ⟨by simp, by simp [h0], ?_, by simp, by simp⟩
    intro k hk
    obtain rfl : k = 0 := by simpa using hk
    refine ⟨0, rfl, by simp [h0], by simp [h0], ?_⟩
    intro j r hr
    rw [h0] at hr
    match j, hr with
    | 0, hr => simp at hr; subst hr; rfl
    | j + 1, hr => simp at hr
  · simp [hl]
  · simp [hl]
  · intro b
    by_cases hb0 : b = 0
    · subst hb0; simp [h0, hl]
    · simp [hb b hb0, StoreBlock.free, hl, hb0]
  · intro b hn
    by_cases hb0 : b = 0
    · subst hb0; simp [h0] at hn
    · exact hb b hb0

/-- A store that label 9 fills with 768 records. -/
def fullStore : Store :=
  { Store.initial with
    blocks := Vector.ofFn fun b : BlockNo =>
      { owner := some 9, next := (List.finRange 96)[b.val + 1]?
        records := (List.range 8).map fun j => { index := 8 * b.val + j, time := 0, contents := .inputLockout 2 true } }
    heldLabels := [{ label := 9, chain := List.finRange 96, count := 768, endState := .finished }] }

theorem storeOk_full : StoreOk fullStore := by
  have hg : ∀ b : BlockNo, fullStore.blocks.get b =
      { owner := some 9, next := (List.finRange 96)[b.val + 1]?
        records := (List.range 8).map fun j => { index := 8 * b.val + j, time := 0, contents := .inputLockout 2 true } } := by
    intro b
    simp [fullStore, Vector.get_eq_getElem]
  have hl : fullStore.heldLabels = [{ label := 9, chain := List.finRange 96, count := 768, endState := .finished }] := rfl
  refine ⟨?_, by simp [hl], by simp [hl, List.nodup_finRange], by simp [hg, hl], by simp [hg]⟩
  intro h hh
  rw [hl, List.mem_singleton] at hh
  subst hh
  refine ⟨by decide, by simp [hg], ?_, by decide, by decide⟩
  intro k hk
  have hk' : k < 96 := by simpa using hk
  refine ⟨⟨k, hk'⟩, by simp [hk'], by simp [hg], by simp [hg]; omega, ?_⟩
  intro j r hr
  simp only [hg, List.getElem?_map, Option.map_eq_some_iff] at hr
  obtain ⟨i, hi, rfl⟩ := hr
  obtain ⟨-, rfl⟩ := List.getElem?_eq_some_iff.mp hi
  simp

/-- The store filled, and the run's bookkeeping as given. -/
def crowded (r : Option Reserve) : State := running.modStore fun _ => { fullStore with reserve := r }

def reserving (r : Option Reserve) (s : State) : State := s.modStore fun x => { x with reserve := r }

/-- Nothing holds at the end of a check field. -/
def noView : CheckView := { room := false, ready := false, done := false, fault := false }

/-- Overload line 1 asserted for 2 ms, with the amplifier READY. -/
def overloading (s : State) : State :=
  s.modAmp fun a => { a with state := .ready, count := 2000, debouncers := setAt a.debouncers 0 (.timing 0) }

/-- The first visit, closed at 2000 on slot 0, waiting for its settle horizon 2050. -/
def pendingEntry : PendingEntry where
  state := 0
  number := 1
  entry := 1000
  exit := 2000
  cause := .timer 0
  uncoordinated := false
  clipped := Vector.replicate 6 false
  clipTotal := 0
  judged := [{ bi := 0, window := .noOperate, firstOperate := none, chatter := false }]
  horizon := 2050

def pendingIn (s : State) : State := s.modEval fun e => { e with pendingList := [pendingEntry] }

/-- RUNNING in the second visit, entered at 2000. -/
def running2 : State :=
  engine (fun g => { g with visit := some { visit1 with number := 2, entry := 2000 }, visitCount := 2 }) running

/-- ENDING after one visit. -/
def ending1 : State :=
  (engine (fun g => { g with runState := .ending, visit := none, endReason := .endTarget }) running).modEval fun e =>
    { e with working := none }

/-- What the run laws rest on, for a state whose store is empty and whose run has label 5. -/
theorem invariant_of (s : State) (hq : s.link.notices = []) (hp : s.plan.state = .valid) (hr : RunShape s)
    (hv : VisitsBounded s) (ha : s.runActive = true) (hl : s.engine.runLabel = some 5)
    (hs : s.store = { Store.initial with reserve := some { evaluations := 0, dropped := 0 } })
    (hc : s.header.visitLimit = 64)
    (hn : s.eval.pendingList.length + s.engine.visit.toList.length = s.engine.visitCount) : RunInvariant s := by
  refine ⟨hq, fun _ => hp, hr, hv, ⟨fun _ => ⟨5, hl, by decide⟩, by simp [hs, ha]⟩, ?_, ?_, ?_⟩
  · rw [hs]; exact storeOk_initial
  · exact ⟨by simp [hs, Store.initial], fun _ _ _ _ => by simp [hs, Store.initial]⟩
  · intro r l h1 h2
    rw [hs] at h1
    cases h1
    rw [hl] at h2
    cases h2
    rw [hs, hc]
    exact ⟨by decide +kernel, by simpa using hn⟩

theorem armed_invariant (s : State)
    (h : s = amp .standby armed ∨ s = armed.withPending [.supplyFailDeasserted]) : RunInvariant s := by
  rcases h with rfl | rfl <;>
    exact invariant_of _ rfl rfl (by simp only [RunShape]; decide +kernel) (by simp only [VisitsBounded]; decide +kernel)
      rfl rfl rfl rfl rfl

theorem running2_invariant : RunInvariant (pendingIn running2) :=
  invariant_of _ rfl rfl (by simp only [RunShape]; decide +kernel) (by simp only [VisitsBounded]; decide +kernel)
    rfl rfl rfl rfl rfl

theorem ending1_invariant : RunInvariant (pendingIn ending1) :=
  invariant_of _ rfl rfl (by simp only [RunShape]; decide +kernel) (by simp only [VisitsBounded]; decide +kernel)
    rfl rfl rfl rfl rfl

theorem resetting_invariant : RunInvariant (served 33 [] (pendingIn running2)) :=
  invariant_of _ rfl rfl (by simp only [RunShape]; decide +kernel) (by simp only [VisitsBounded]; decide +kernel)
    rfl rfl rfl rfl rfl

theorem overloading_invariant : RunInvariant (overloading (pendingIn running2)) :=
  invariant_of _ rfl rfl (by simp only [RunShape]; decide +kernel) (by simp only [VisitsBounded]; decide +kernel)
    rfl rfl rfl rfl rfl

/-- RUNNING in the second visit at its exit boundary 2100, to state 0, where BO3 took its level; the first visit due. -/
def exiting2 : State :=
  engine (fun g => { g with boHeld := setAt g.boHeld 2 (some (2100, false)) })
    (at_ 2100 (decided { exitAt2100 with target := some (.state 0) } (pendingIn running2)))

theorem exiting2_invariant : RunInvariant exiting2 :=
  invariant_of _ rfl rfl (by simp only [RunShape]; decide +kernel) (by simp only [VisitsBounded]; decide +kernel)
    rfl rfl rfl rfl rfl

def records (n : Nat) : List ReportEntry :=
  (List.range n).map fun i => { origin := 4, index := i, kind := 1, time := i, contents := [] }

theorem reportOk_of (s : State) (n : Nat) (h : s.gather.report.entries = records n) (hn : n ≤ 512) : ReportOk s := by
  refine ⟨by simpa [h, records] using hn, ?_, ?_⟩ <;> simp only [h, records, List.pairwise_map]
  · exact List.pairwise_lt_range.imp fun h => .inl h
  · exact List.pairwise_lt_range.imp fun h => fun e => Nat.ne_of_lt h e.right

/-- A report of `n` records of station 4. -/
def reportOf (n : Nat) : State :=
  online.modGather fun g => { g with report := { g.report with label := some 5, entries := records n } }

theorem reportOf_ok (n : Nat) (hn : n ≤ 512) (q : List Instr) : ReportOk ((reportOf n).withPending q) :=
  reportOk_of _ n rfl hn

theorem planInRange_armed : PlanInRange (armed.withPending [.supplyFailDeasserted]) := by
  intro id
  cases id with
  | header => simp only [ItemOk]; decide +kernel
  | inputSetup i => revert i; simp only [ItemOk]; decide +kernel
  | breakerSetup => simp only [ItemOk]; decide +kernel
  | reportTerm t => revert t; simp only [ItemOk]; decide +kernel
  | stateControl st => revert st; simp only [ItemOk]; decide +kernel
  | stateChannel st ch => revert st ch; simp only [ItemOk]; decide +kernel
  | stateTrigger st n => revert st n; simp only [ItemOk]; decide +kernel
  | stateWindow st i => revert st i; simp only [ItemOk]; decide +kernel
  | stateMarks st => revert st; simp only [ItemOk]; decide +kernel

/-- A command in front. -/
theorem meets_stepTakesTheFrontCommand :
    (online.withPending [.planRead]).pending = [.planRead] :=
  by decide +kernel

/-- An event due, and nothing due. -/
theorem meets_stepOnAnEmptyQueue :
    (State.reset.pending = [] ∧ dueCommand (at_ 3600000000 running) = some .clockLimit ∧ running.pending = []) ∧
    (dueCommand State.reset = none ∧ State.reset.engine.held = [] ∧ Quiet State.reset) :=
  ⟨by decide +kernel,
   by simp only [Quiet]; decide +kernel⟩

/-- With no run, for each row of the supervisor, and with a run and a queue of seven; and the line asserted already.
-/
theorem meets_supplyFailLine :
    (∀ s ∈ [online, amp .ready online, overloaded (amp .faulted online), amp .standby online], s.supplyFail = false ∧
      Quiet s ∧ s.runActive = false) ∧
    (online.amp.state = .absent ∧ (amp .ready online).amp.state ≠ .absent ∧ (amp .ready online).amp.state ≠ .standby ∧
      inOverload (amp .ready online).amp = false ∧ inOverload (overloaded (amp .faulted online)).amp = true) ∧
    (∀ s ∈ [queued seven running], s.supplyFail = false ∧ s.link.notices = [] ∧ s.runActive = true ∧
      s.link.state ≠ .muted ∧ s.link.tx.length + s.engine.held.length < 8 ∧ s.runUnderWay = true ∧
      s.engine.runLabel = some 5) ∧
    ((online.withSupplyFail true).supplyFail = true ∧ Quiet (online.withSupplyFail true)) ∧
    (RunInvariant (pendingIn running2)) :=
  ⟨by simp only [Quiet]; decide +kernel,
   by decide +kernel,
   by decide +kernel,
   by simp only [Quiet]; decide +kernel,
   running2_invariant⟩

/-- A head that contends; each reason not to; a SILENT station, one whose frame goes to a station and one to its
group, and one whose reception is stopped. -/
theorem meets_idleCableArbitration :
    (∀ e ∈ [reply 0, entry 1 true false (.start 5) .coordination], (queued [e] online).link.state = .online ∧
      (queued [e] online).link.resync = false ∧ (queued [e] online).link.tx = [e] ∧ e.onWire = false) ∧
    (∀ s ∈ [State.reset, online.modLink fun l => { l with resync := true }, online, queued eight online],
      s.link.state ≠ .online ∨ s.link.resync = true ∨ s.link.tx = [] ∨ ∃ e ∈ s.link.tx, e.onWire = true) ∧
    (State.reset.link.state = .silent ∧ online.link.state ≠ .silent ∧ online.link.resync = false ∧
      (online.modLink fun l => { l with resync := true }).link.resync = true) ∧
    (∀ u ∈ [readEntry.frame, groupFrame (.mark 5 6 2040) .engine, (reply 0).frame], u.body.kindCode < 64 ∧
      u.body.payload.length ≤ 40) :=
  ⟨by decide +kernel,
   by decide +kernel,
   by decide +kernel,
   by decide +kernel⟩

/-- A MUTED station; the last place; a full queue whose youngest of the lowest priority gives way to an ABORT, to any
frame placed at the head, and not to a reply; a waiting and a begun entry; and an owner to be told, for each frame of
the part's own. -/
theorem meets_placingAndWithdrawingFrames :
    ((online.modLink fun l => { l with state := .muted }).link.state = .muted ∧ Room (queued seven online)) ∧
    (QueuesOk (queued eight online) ∧ (queued eight online).link.state ≠ .muted ∧
      (queued eight online).link.tx.length = 8 ∧ { reply 8 with age := 6 } ∈ (queued eight online).link.tx ∧
      (∀ u ∈ (queued eight online).link.tx, u.onWire = false → u.priority < (reply 6).priority ∨
      (u.priority = (reply 6).priority ∧ u.age ≤ (reply 6).age))) ∧
    ((FrameBody.abort 5 .supply).priority < (reply 6).priority ∧ (reply 6).priority ≤ (reply 9).frame.body.priority) ∧
    (reply 0 ∈ (queued eight online).link.tx ∧ (reply 0).begun = false ∧ ∃ e ∈ (queued eight online).link.tx,
      e.begun = true) ∧
    (∀ e ∈ [reply 0, readEntry, entry 3 true true (.mark 5 6 2040) .engine,
      entry 3 true true (.start 5) .coordination, entry 3 true true (.rollcall .done) .coordination],
      (dropping e online).link.notices = [{ entry := e, outcome := .dropped }] ∧
      (dropping e online).link.tx.length < 8 ∧ (dropping e online).link.state ≠ .muted) ∧
    ((dropping readEntry (sweeping cursor online)).gather.cursor = some cursor ∧ cursor.station = some 4 ∧
      (dropping readEntry (sweeping cursor online)).link.outstanding = some
      { station := 4, tag := readEntry.frame.tag } ∧ (marked running).engine.pendingMark.map (·.age) = some 3 ∧
      (coord (fun c => { c with ownStart := some 3 }) armed).coord.ownStart = some 3 ∧ armed.amp.state = .absent ∧
      online.coord.gatherRoll ≠ some 3) :=
  ⟨by simp only [Room]; decide +kernel,
   by simp only [queuesOk_iff]; decide +kernel,
   by decide +kernel,
   by decide +kernel,
   by decide +kernel,
   by decide +kernel⟩

/-- Nothing on the wire; each frame of the part's own on the wire; and a silent read under SKIP with and without a
further station, under HALT, and of no gather. -/
theorem meets_corruptFrameOutcomes :
    (∀ e ∈ online.link.tx, e.onWire = false) ∧
    (∀ s ∈ [sending (.reply 16 [41]) .planMemory online, sending (.abort 5 .supply) .engine online,
      sending (.mark 5 6 2040) .engine (marked running), sending (.mark 5 6 2040) .engine running,
      coord (fun c => { c with ownStart := some 3 }) (sending (.start 5) .coordination armed),
      coord (fun c => { c with ownStart := some 3 }) (sending (.start 5) .coordination (amp .standby armed)),
      coord (fun c => { c with ownRoll := some 3 }) (sending (.rollcall .ready) .coordination armed),
      coord (fun c => { c with gatherRoll := some 3 }) (sending (.rollcall .done) .coordination (sweeping cursor
      online))], QueuesOk s ∧ Quiet s ∧ ∃ e ∈ s.link.tx, e.onWire = true ∧ e.age = 3) ∧
    ((marked running).engine.pendingMark.map (·.age) = some 3 ∧ running.engine.pendingMark = none ∧
      armed.engine.runState = .armed ∧ armed.amp.state = .absent ∧
      (sweeping cursor online).gather.cursor = some cursor ∧ (amp .standby armed).amp.state ≠ .ready ∧
      (amp .standby armed).amp.state ≠ .absent) ∧
    (∀ c ∈ [cursor, { cursor with haltSilence := true }, { cursor with sweepSet := Vector.replicate 16 false }],
      ∀ s ∈ [queued [readEntry] (sweeping c online)], QueuesOk s ∧ Quiet s ∧ readEntry ∈ s.link.tx ∧
      readEntry.onWire = true ∧ readEntry.frame.dest = some 4 ∧ s.gather.cursor = some c ∧ c.station = some 4 ∧
      s.link.outstanding = some { station := 4, tag := readEntry.frame.tag }) ∧
    (cursor.sweepSet.get 5 = true ∧ (4 : StationNo) < 5 ∧ (∀ j : StationNo, 4 < j → j < 5 →
      cursor.sweepSet.get j = false) ∧ (5 : StationNo) ≠ online.link.straps.station) ∧
    (QueuesOk (queued [readEntry] online) ∧ Quiet (queued [readEntry] online) ∧
      (queued [readEntry] online).link.outstanding = none) :=
  ⟨by decide +kernel,
   by simp only [Quiet, queuesOk_iff]; decide +kernel,
   by decide +kernel,
   by simp only [Quiet, queuesOk_iff]; decide +kernel,
   by decide +kernel,
   by simp only [Quiet, queuesOk_iff]; decide +kernel⟩

/-- The pending mark of slot 1 on the wire, with one lower slot that listens to it and with two. -/
theorem meets_coordinatedMarkDecidesTheExit :
    (∀ s ∈ [withTrigger 0 (.mark 6 none .endRun) (withTrigger 1 (.timer 1 .endRun (some 6)) (sending (.mark 5 6 2040)
      .engine (marked running)))], QueuesOk s ∧ Quiet s ∧ entry 3 true true (.mark 5 6 2040) .engine ∈ s.link.tx ∧
      s.engine.pendingMark.map (·.age) = some 3 ∧ s.engine.visit = some visit1 ∧ s.engine.decided = none ∧
      s.engine.runState = .running ∧ s.engine.runLabel = some 5) ∧
    (∀ s ∈ [withTrigger 1 (.mark 6 (some 0) (.state 0)) (withTrigger 0 (.mark 6 none .endRun) (withTrigger 2 (.timer 1
      .endRun (some 6)) (sending (.mark 5 6 2040) .engine (rival true running))))], QueuesOk s ∧ Quiet s ∧
      entry 3 true true (.mark 5 6 2040) .engine ∈ s.link.tx ∧ s.engine.pendingMark.map (·.age) = some 3 ∧
      s.link.straps.station = 0) :=
  ⟨by simp only [Quiet, queuesOk_iff]; decide +kernel,
   by simp only [Quiet, queuesOk_iff]; decide +kernel⟩

/-- Nothing on the wire; each frame on the wire; a silent read under SKIP with and without a further station, under
HALT, and of no gather; a whole start set, and one that lacks a station; a map of a ROLL gather that is empty, and one
that holds station 4; and a mark that no slot listens to, and one that slot 1 does. -/
theorem meets_ownFrameOutcomes :
    (∀ e ∈ online.link.tx, e.onWire = false) ∧
    (∀ s ∈ [sending (.reply 16 [41]) .planMemory online, queued [readEntry] (sweeping cursor online),
      coord (fun c => { c with ownRoll := some 3, poller := .polling }) (sending (.rollcall .ready) .coordination
      (header (fun h => { h with startSet := setAt (setAt h.startSet 0 true) 1 true }) armed)),
      sending (.start 5) .coordination armed, coord (fun c => { c with gatherRoll := some 3 }) (sending (.rollcall
      .done) .coordination (sweeping cursor online))], QueuesOk s ∧ Quiet s ∧ ∃ e ∈ s.link.tx, e.onWire = true ∧
      e.age = 3) ∧
    (readEntry.frame.dest = some 4 ∧ (sweeping cursor online).link.outstanding = some
      { station := 4, tag := readEntry.frame.tag } ∧ (sweeping cursor online).gather.cursor = some cursor ∧
      (judgedAt 18 (sweeping cursor online)).condition .done = false) ∧
    ((coord (fun c => { c with gatherRoll := some 3 }) (sweeping cursor online)).coord.ownRoll ≠ some 3 ∧
      (16 : BitVec 16).getLsbD 4 = true ∧ (∀ j : StationNo, j < 4 → (16 : BitVec 16).getLsbD j.val = false) ∧
      (4 : StationNo) ≠ online.link.straps.station) ∧
    (∀ s ∈ [sending (.mark 5 6 2040) .engine running, sending (.mark 5 6 2040) .engine armed,
      sending (.mark 5 6 2040) .engine (withTrigger 1 (.mark 6 (some 0) .endRun) running)], QueuesOk s ∧ Quiet s ∧
      s.engine.pendingMark = none ∧ s.engine.decided = none ∧ s.engine.runLabel = some 5) ∧
    ((withTrigger 1 (.mark 6 (some 0) .endRun) running).plan.items.states.get 0 =
      { running.plan.items.states.get 0 with triggers := #v[.empty, .mark 6 (some 0) .endRun, .empty, .empty] } ∧
      running.link.straps.station = 0 ∧ running.engine.visit = some visit1 ∧ running.engine.runState = .running ∧
      armed.engine.runState ≠ .running) ∧
    (∀ n, ¬∃ origin target, (running.plan.items.states.get visit1.state).triggers.get n = .mark 6 origin target ∧
      (origin = none ∨ origin = some running.link.straps.station)) ∧
    (∀ c ∈ [cursor, { cursor with haltSilence := true }, { cursor with sweepSet := Vector.replicate 16 false }],
      ∀ s ∈ [queued [readEntry] (sweeping c online)], QueuesOk s ∧ Quiet s ∧ readEntry ∈ s.link.tx ∧
      readEntry.onWire = true ∧ readEntry.frame.dest = some 4 ∧ s.gather.cursor = some c ∧ c.station = some 4 ∧
      s.link.outstanding = some { station := 4, tag := readEntry.frame.tag }) ∧
    (cursor.sweepSet.get 5 = true ∧ (4 : StationNo) < 5 ∧ (∀ j : StationNo, 4 < j → j < 5 →
      cursor.sweepSet.get j = false) ∧ (5 : StationNo) ≠ online.link.straps.station) ∧
    (QueuesOk (queued [readEntry] online) ∧ Quiet (queued [readEntry] online) ∧
      (queued [readEntry] online).link.outstanding = none) ∧
    (∀ s ∈ [header (fun h => { h with startSet := setAt (setAt h.startSet 0 true) 1 true }) armed],
      s.engine.runLabel = some 5 ∧ s.engine.runState = .armed ∧ s.amp.state = .absent ∧ (∀ i : StationNo,
      s.plan.items.header.startSet.get i = true → (2 : BitVec 16).getLsbD i.val = true ∨ (i = s.link.straps.station ∧
      (judgedAt 18 s).ready = true)) ∧ s.plan.items.header.startSet.get 1 = true ∧
      (0 : BitVec 16).getLsbD 1 = false) ∧
    ({ cursor with requester := some (3, 7) }.requester = some (3, 7) ∧ cursor.requester = none) :=
  ⟨by decide +kernel,
   by simp only [Quiet, queuesOk_iff]; decide +kernel,
   by decide +kernel,
   by decide +kernel,
   by simp only [Quiet, queuesOk_iff]; decide +kernel,
   by decide +kernel,
   by
     rintro n ⟨o, t, h, -⟩
     have : ∀ n, (running.plan.items.states.get visit1.state).triggers.get n = .empty := by decide +kernel
     simp [this] at h,
   by simp only [Quiet, queuesOk_iff]; decide +kernel,
   by decide +kernel,
   by simp only [Quiet, queuesOk_iff]; decide +kernel,
   by decide +kernel,
   by decide +kernel⟩

/-- Its own number heard while a run is active, with none active, and when MUTED already; and with a read outstanding.
-/
theorem meets_duplicateOriginMutes :
    (∀ s ∈ [queued seven running, online, online.modLink fun l => { l with state := .muted }],
      Acceptable (frame 3 0 [5]) s ∧ s.link.resync = false ∧ (frame 3 0 [5]).origin = s.link.straps.station ∧
      Quiet s ∧ QueuesOk s) ∧
    ((queued seven running).runActive = true ∧ online.runActive = false ∧ (queued seven running).link.tx ≠ []) ∧
    (Acceptable (frame 3 0 [5]) (pendingIn running2) ∧ QueuesOk (pendingIn running2)) ∧
    (RunInvariant (pendingIn running2)) ∧
    (∀ s ∈ [sweeping cursor online, sweeping { cursor with haltSilence := true } online],
      Acceptable (frame 3 0 [5]) s ∧ QueuesOk s ∧ Quiet s ∧ s.link.state ≠ .muted) ∧
    (∀ c ∈ [cursor, { cursor with haltSilence := true }], (sweeping c online).gather.cursor = some c ∧
      c.station = some 4 ∧ (sweeping c online).coord.gatherRoll = none ∧
      (sweeping c online).link.outstanding = some { station := 4, tag := 9 }) :=
  ⟨by simp only [Acceptable, Quiet, queuesOk_iff]; decide +kernel,
   by decide +kernel,
   by simp only [Acceptable, queuesOk_iff]; decide +kernel,
   running2_invariant,
   by simp only [Acceptable, Quiet, queuesOk_iff]; decide +kernel,
   by decide +kernel⟩

/-- A request of a known kind and of kinds of none, with four waiting, with three waiting and a service going on, and
with the service idle. -/
theorem meets_requestArrival :
    (∀ s ∈ [online, served 40 [] (online.modLink fun l => { l with requests := List.replicate 3 (request 40 []) }),
      online.modLink fun l => { l with requests := List.replicate 4 (request 40 []) }], ∀ f ∈ [frame 32 3 [],
      frame 26 3 [], frame 0 3 [], frame 9 3 [], frame 15 3 [], frame 63 3 []], Heard f s) ∧
    (∀ f ∈ [frame 32 3 [], frame 26 3 [], frame 0 3 [], frame 9 3 [], frame 15 3 [], frame 63 3 []],
      25 < f.kind.toNat ∨ f.kind.toNat = 0 ∨ (8 < f.kind.toNat ∧ f.kind.toNat < 16)) ∧
    (online.status.service = .idle ∧ (served 40 [] online).status.service ≠ .idle ∧ (judgedAt 2 online).room = true ∧
      online.link.requests.length < 4) ∧
    ((judgedAt 2 (online.withPast [noView, noView])).room = false ∧ Heard (frame 32 3 []) (online.withPast [noView,
      noView])) :=
  ⟨by simp only [Heard, Acceptable, Quiet]; decide +kernel,
   by decide +kernel,
   by decide +kernel,
   by simp only [Heard, Acceptable, Quiet]; decide +kernel⟩

/-- A reply no read waits for; and for the outstanding read a RECORD at the shortest length, NONE, NOT-YET under each
wait and at the limit, another kind, and a RECORD of another label. -/
theorem meets_replyReceived :
    (∀ f ∈ [frameTo 21 ([5, 0, 0, 0, 1, 32] ++ bytes4 70), frameTo 22 [5, 0, 0], frameTo 23 [5, 0, 0], frameTo 17 [35,
      3, 0], frameTo 21 ([6, 0, 0, 0, 1, 32] ++ bytes4 70)], Heard f (queued seven (sweeping cursor online)) ∧
      16 ≤ f.kind.toNat ∧ f.kind.toNat ≤ 25 ∧ some { station := f.origin, tag := f.tag } = (sweeping cursor
      online).link.outstanding ∧ cursor.station = some f.origin) ∧
    (Room (queued seven (sweeping cursor online)) ∧ (sweeping cursor online).gather.cursor = some cursor ∧
      (sweeping cursor online).link.straps.station ≠ 4 ∧ online.link.outstanding ≠ some { station := 4, tag := 9 }) ∧
    (10 ≤ (frameTo 21 ([5, 0, 0, 0, 1, 32] ++ bytes4 70)).payload.length ∧ num2 (frameTo 21 ([5, 0, 0, 0, 1,
      32] ++ bytes4 70)).payload 1 = cursor.index ∧ cursor.waitPending = true ∧
      { cursor with waitPending := false }.waitPending = false) ∧
    (∀ c ∈ [{ cursor with notYetSince := some 100 }], 2000099 < c.notYetSince.getD 0 + 2000000 ∧
      c.notYetSince.getD 0 + 2000000 ≤ 2000100) ∧
    (cursor.sweepSet.get 5 = true ∧ (4 : StationNo) < 5 ∧ (∀ j : StationNo, 4 < j → j < 5 →
      cursor.sweepSet.get j = false) ∧ (5 : StationNo) ≠ online.link.straps.station) :=
  ⟨by simp only [Heard, Acceptable, Quiet]; decide +kernel,
   by simp only [Room]; decide +kernel,
   by decide +kernel,
   by decide +kernel,
   by decide +kernel⟩

/-- Reception stopped; an over-long length field, and one of 40 with a bad check; labels 0 and 255, lengths that are
not their kind's, and mark codes 0 and 64. -/
theorem meets_framesNotTaken :
    ((online.modLink fun l => { l with resync := true }).link.resync = true ∧ online.link.resync = false ∧
      40 < ({ frame 6 3 [] with length := 41 } : RxFrame).length.toNat) ∧
    (¬Acceptable { frame 6 3 (List.replicate 40 5) with check := 0 } online ∧
      ({ frame 6 3 (List.replicate 40 5) with check := 0 } : RxFrame).length.toNat ≤ 40) ∧
    (∀ f ∈ [frame 6 3 [0], frame 7 3 [255], frame 3 3 [], frame 4 3 [5, 5], frame 1 3 [0, 1], frame 1 3 [5],
      frame 2 3 [5, 0, 0, 0, 0, 0], frame 2 3 [5, 64, 0, 0, 0, 0]], Heard f online ∧ 1 ≤ f.kind.toNat ∧
      f.kind.toNat ≤ 7) ∧
    (∀ l, (frame 7 3 [255]).payload = [l] → ¬(1 ≤ l.toNat ∧ l.toNat ≤ 254)) :=
  ⟨by decide +kernel,
   by simp only [Acceptable]; decide +kernel,
   by simp only [Heard, Acceptable, Quiet]; decide +kernel,
   by
     intro l h
     obtain rfl : (255 : Byte) = l := by simpa [frame] using h
     decide⟩

/-- Each refusing condition alone, and the acceptance in each state of the supervisor. -/
theorem meets_armIsJudgedAndAccepted :
    (∀ s ∈ [online, planned, armed, running, amp .ready planned, amp .warming planned, amp .standby planned,
      amp .faulted planned], Heard (frame 6 3 [5]) s ∧ Names 6 5 (frame 6 3 [5])) ∧
    (armed.engine.runState = .armed ∧ armed.engine.runLabel = some 5 ∧ running.engine.runState = .running ∧
      online.engine.runState = .idle ∧ online.link.state = .online ∧ online.plan.state ≠ .valid) ∧
    (planned.plan.state = .valid ∧ (∃ h ∈ (holding 5 planned).store.heldLabels, h.label = 5) ∧
      8 ≤ (List.foldl (fun s l => holding l s) planned [11, 12, 13, 14, 15, 16, 17, 18]).store.heldLabels.length ∧
      (∀ h ∈ (List.foldl (fun s l => holding l s) planned [11, 12, 13, 14, 15, 16, 17, 18]).store.heldLabels,
      h.label ≠ 5)) ∧
    (∀ s ∈ [planned.modStore fun x =>
      { x with blocks := Vector.replicate 96 { owner := some 7, next := none, records := [] } }],
      (∀ h ∈ s.store.heldLabels, h.label ≠ 5) ∧ s.store.heldLabels.length < 8 ∧
      (freeBlocks s.store).length * 8 < s.plan.items.header.visitLimit + 1) ∧
    (∀ s ∈ [overloaded (amp .faulted planned)], s.amp.state = .faulted ∧ (∃ i, s.amp.debouncers.get i ≠ .clear) ∧
      s.plan.items.header.visitLimit + 1 ≤ (freeBlocks s.store).length * 8) ∧
    (∀ s ∈ [planned, amp .ready planned, amp .warming planned, amp .standby planned, amp .faulted planned,
      overloaded (amp .standby planned), (amp .standby planned).withSupplyFail true,
      (amp .faulted planned).withSupplyFail true, header (fun h => { h with startSet := setAt h.startSet 1 true })
      planned], Quiet s ∧ s.runActive = false ∧ s.link.state = .online ∧ s.plan.state = .valid ∧
      (∀ h ∈ s.store.heldLabels, h.label ≠ 5) ∧ s.store.heldLabels.length < 8 ∧
      s.plan.items.header.visitLimit + 1 ≤ (freeBlocks s.store).length * 8 ∧ (s.amp.state = .faulted → ∀ i,
      s.amp.debouncers.get i = .clear) ∧ s.coord.poller = .off ∧ s.link.tx.length < 8 ∧ readyRollQueued s = false) :=
  ⟨by simp only [Heard, Names, Acceptable, Quiet]; decide +kernel,
   by decide +kernel,
   by decide +kernel,
   by decide +kernel,
   by decide +kernel,
   by simp only [Quiet]; decide +kernel⟩

/-- The armed label, with a FAULTED and with an absent supervisor; and another run state and label. -/
theorem meets_disarmOfTheArmedLabel :
    (∀ s ∈ [armed, amp .faulted armed, running, queued seven armed], Heard (frame 7 3 [5]) s ∧
      Heard (frame 7 3 [254]) s) ∧
    (∀ s ∈ [armed, amp .faulted armed, running, queued seven armed], Names 7 5 (frame 7 3 [5]) ∧
      Names 7 254 (frame 7 3 [254]) ∧ QueuesOk s) ∧
    (armed.engine.runState = .armed ∧ armed.engine.runLabel = some 5 ∧ (amp .faulted armed).amp.state = .faulted ∧
      (∀ i, (amp .faulted armed).amp.debouncers.get i = .clear) ∧ armed.amp.state ≠ .faulted) :=
  ⟨by simp only [Heard, Acceptable, Quiet]; decide +kernel,
   by simp only [Names, queuesOk_iff]; decide +kernel,
   by decide +kernel⟩

/-- The armed label with the amplifier ready and absent, and in STANDBY with the run's invariant; and no armed run. -/
theorem meets_startIsTheEpochOrNotReady :
    (∀ s ∈ [armed, amp .ready armed, amp .standby armed, running, queued seven armed], Heard (frame 3 3 [5]) s ∧
      Names 3 5 (frame 3 3 [5]) ∧ QueuesOk s) ∧
    (armed.engine.runState = .armed ∧ armed.engine.runLabel = some 5 ∧ armed.amp.state = .absent ∧
      (amp .ready armed).amp.state = .ready ∧ running.engine.runState ≠ .armed) ∧
    (RunInvariant (amp .standby armed)) ∧
    ((amp .standby armed).amp.state ≠ .ready ∧ (amp .standby armed).amp.state ≠ .absent ∧ Room (amp .standby armed) ∧
      (amp .standby armed).store.reserve = some { evaluations := 0, dropped := 0 }) :=
  ⟨by simp only [Heard, Names, queuesOk_iff, Acceptable, Quiet]; decide +kernel,
   by decide +kernel,
   armed_invariant _ (.inl rfl),
   by simp only [Room]; decide +kernel⟩

/-- RUNNING with no exit decided, with one to a state, to END and by STOP; before the first visit; and not RUNNING. -/
theorem meets_stopEndsTheVisit :
    (∀ s ∈ [running, started, armed, decided exitAt2100 running,
      decided { exitAt2100 with target := some (.state 1) } running,
      decided { exitAt2100 with target := none, decider := .stop } running], Heard (frame 4 3 [5]) s ∧
      Names 4 5 (frame 4 3 [5]) ∧ s.engine.runLabel = some 5) ∧
    (running.engine.runState = .running ∧ running.engine.visit = some visit1 ∧ running.engine.decided = none ∧
      exitAt2100.target = some .endRun ∧ armed.engine.runState ≠ .running) ∧
    (started.engine.runState = .running ∧ started.engine.visit = none ∧ started.eval.pendingList = []) :=
  ⟨by simp only [Heard, Names, Acceptable, Quiet]; decide +kernel,
   by decide +kernel,
   by decide +kernel⟩

/-- A STEP slot, alone and behind no other; no STEP slot; an exit decided 1 µs before and ahead by 1 µs; no run or
visit; and a pending mark of another slot, waiting and begun. -/
theorem meets_stepFiresTheStepSlot :
    (∀ s ∈ [running, withTrigger 1 (.step .endRun) running, started, armed,
      at_ 2041 (decided { exitAt2100 with boundary := 2042 } running)], Heard (frame 5 3 [5]) s ∧
      Names 5 5 (frame 5 3 [5])) ∧
    ((at_ 2041 running).now = 2041 ∧ exitAt2100.instant < 2041 ∧ armed.engine.runState ≠ .running ∧
      started.engine.visit = none) ∧
    (∀ s ∈ [withTrigger 1 (.step .endRun) running], s.engine.runLabel = some 5 ∧ s.engine.runState = .running ∧
      s.engine.visit = some visit1 ∧ s.engine.decided = none ∧ s.engine.pendingMark = none ∧
      (s.plan.items.states.get visit1.state).triggers.get 1 = .step .endRun ∧
      (s.plan.items.states.get visit1.state).triggers.get 0 = .empty) ∧
    (∀ n target, (running.plan.items.states.get visit1.state).triggers.get n ≠ .step target) ∧
    (∀ b ∈ [true, false], ∀ s ∈ [withTrigger 1 (.step .endRun) (rival b running)], Heard (frame 5 3 [5]) s ∧
      QueuesOk s ∧ s.engine.runLabel = some 5 ∧ s.engine.runState = .running ∧ s.engine.visit = some visit1 ∧
      s.engine.decided = none ∧ s.engine.pendingMark.map (·.slot) = some 2 ∧
      (s.plan.items.states.get visit1.state).triggers.get 1 = .step .endRun) :=
  ⟨by simp only [Heard, Names, Acceptable, Quiet]; decide +kernel,
   by decide +kernel,
   by decide +kernel,
   noStep (by decide +kernel),
   by simp only [Heard, queuesOk_iff, Acceptable, Quiet]; decide +kernel⟩

/-- A RUNNING and an ARMED run of the label, and no run of it. -/
theorem meets_peerAbort :
    (∀ s ∈ [running, armed, online, amp .ready running], ∀ f ∈ [frame 1 3 [5, 0], frame 1 3 [254, 255]], Heard f s ∧
      f.kind.toNat = 1 ∧ QueuesOk s) ∧
    (∀ s ∈ [running, armed, online, amp .ready running], RunShape s) ∧
    (running.engine.runState = .running ∧ running.engine.held = [] ∧ armed.engine.runState = .armed ∧
      online.engine.runLabel ≠ some 5) ∧
    (Heard (frame 1 3 [5, 0]) (pendingIn running2) ∧ QueuesOk (pendingIn running2)) ∧
    (RunInvariant (pendingIn running2)) :=
  ⟨by simp only [Heard, queuesOk_iff, Acceptable, Quiet]; decide +kernel,
   by simp only [RunShape]; decide +kernel,
   by decide +kernel,
   by simp only [Heard, queuesOk_iff, Acceptable, Quiet]; decide +kernel,
   running2_invariant⟩

/-- Each run state; a slot that listens to the station and one to any; none that listens; an exit decided already; and
a pending mark of another slot, waiting and begun. -/
theorem meets_markHeard :
    (∀ s ∈ [online, armed, running, started, engine (fun g => { g with runState := .ending, visit := none }) running,
      decided exitAt2100 running], ∀ f ∈ [frame 2 3 [5, 1, 0, 0, 7, 208], frame 2 3 [254, 63, 255, 255, 255, 255]],
      Heard f s ∧ f.kind.toNat = 2) ∧
    (running.engine.runState = .running ∧ running.engine.visit = some visit1 ∧ running.engine.decided = none ∧
      running.engine.pendingMark = none ∧ online.runUnderWay = false ∧ exitAt2100.instant < running.now ∧
      running.now < exitAt2100.boundary) ∧
    ((withTrigger 1 (.mark 1 (some 3) .endRun) running).plan.items.states.get 0 =
      { running.plan.items.states.get 0 with triggers := #v[.empty, .mark 1 (some 3) .endRun, .empty, .empty] }) ∧
    (∀ n, ¬∃ origin target, (running.plan.items.states.get visit1.state).triggers.get n = .mark 1 origin target ∧
      (origin = none ∨ origin = some 3)) ∧
    (∀ b ∈ [true, false], ∀ s ∈ [withTrigger 1 (.mark 1 (some 3) .endRun) (rival b running)], Heard (frame 2 3 [5, 1,
      0, 0, 7, 208]) s ∧ QueuesOk s ∧ s.engine.runLabel = some 5 ∧ s.engine.runState = .running ∧
      s.engine.visit = some visit1 ∧ s.engine.decided = none ∧ s.engine.pendingMark.map (·.slot) = some 2 ∧
      (s.plan.items.states.get visit1.state).triggers.get 0 = .empty) :=
  ⟨by simp only [Heard, Acceptable, Quiet]; decide +kernel,
   by decide +kernel,
   by decide +kernel,
   by
     rintro n ⟨o, t, h, -⟩
     have : ∀ n, (running.plan.items.states.get visit1.state).triggers.get n = .empty := by decide +kernel
     simp [this] at h,
   by simp only [Heard, queuesOk_iff, Acceptable, Quiet]; decide +kernel⟩

/-- Classes 0 to 4 heard, ONLINE and MUTED, with nothing remembered and with all of the 18 µs. -/
theorem meets_rollcallAnswersByClass :
    ∀ s ∈ [online, armed, armed.withPast (List.replicate 18 noView), State.reset,
      online.modLink fun l => { l with state := .muted }], ∀ k ∈ [0, 1, 2, 3, 4, 255], Heard (frame 8 3 [byte k]) s ∧
      (frame 8 3 [byte k]).kind.toNat = 8 :=
  by simp only [Heard, Acceptable, Quiet]; decide +kernel

/-- Kinds 31 and 42; a payload one too long; a PLAN-WRITE of two bytes, of the wrong length, and of item kinds 0 and
10. -/
theorem meets_requestsRefusedForKindOrLength :
    (∀ r ∈ [(31, []), (42, []), (63, []), (40, [0]), (39, [1, 0]), (38, [1, 0]), (38, [2, 0, 0]), (38, [0, 0, 0]),
      (38, [10, 0, 0])], InHand (request r.1 r.2) 0 (served r.1 r.2 online)) ∧
    (writeLength (byteAt [2, 0, 0] 0) ≠ some 3 ∧ (writeLength (byteAt [2, 0, 0] 0)).isSome = true) :=
  ⟨by simp only [InHand, Quiet]; decide +kernel,
   by decide +kernel⟩

/-- A write of an INPUT-SETUP with a field refused and one with a field clamped, in each plan and run state; and one
at a STEADY input, at a candidate and at a lockout whose new deadline is now or 1 µs ahead. -/
theorem meets_planWriteStoresTheItem :
    (∀ p ∈ [[2, 0, 0, 1, 251, 0, 0, 100, 0, 200], [2, 0, 0, 3, 0, 0, 0, 100, 0, 200], [2, 8, 0, 1, 0, 0, 0, 100, 0,
      200]], InHand (request 38 p) 0 (served 38 p online) ∧ writeLength (byteAt p 0) = some p.length) ∧
    (∀ it ∈ [PlanItem.header Header.initial, .breakerSetup BreakerSetup.initial],
      InHand (request 38 it.payload) 0 (served 38 it.payload online) ∧
      writeLength (byteAt it.payload 0) = some it.payload.length ∧
      (readItem (itemIdOf it.payload) it.payload).item = it ∧
      firstBad (addressChecks it.payload ++ (readItem (itemIdOf it.payload) it.payload).checks) = none) ∧
    (∀ p ∈ ([[2, 0, 0, 1, 251, 0, 0, 100, 0, 200]] : List (List Byte)),
      firstBad (addressChecks p ++ (readItem (itemIdOf p) p).checks) = none) ∧
    (∀ p ∈ ([[2, 8, 0, 1, 0, 0, 0, 100, 0, 200]] : List (List Byte)),
      firstBad (addressChecks p ++ (readItem (itemIdOf p) p).checks) = some 1) ∧
    (armed.runActive = true ∧ online.runActive = false ∧
      (online.modPlan fun p => { p with state := .checking }).plan.state = .checking ∧
      online.plan.state ≠ .checking) ∧
    (∀ x ∈ [InputState.atReset false, { InputState.atReset true with raw := false, candidate := some 204000 },
      { InputState.atReset true with raw := false, candidate := some 204001 },
      { InputState.atReset true with lockout := some { held := true, lastRaw := 5000, release := 300000, began := 4000 } },
      { InputState.atReset true with raw := false, lockout := some { held := true, lastRaw := 5000, release := 300000, began := 4000 } },
      { InputState.atReset true with lockout := some { held := true, lastRaw := 5001, release := 300000, began := 4000 } }],
      ∀ s ∈ [served 38 [2, 0, 0, 1, 10, 3, 0, 100, 0, 200] ((inputs 0 (fun _ => x) online).modCond fun c =>
      { c with count := 205000 })], InHand (request 38 [2, 0, 0, 1, 10, 3, 0, 100, 0, 200]) 0 s ∧ RunShape s ∧
      s.runActive = false ∧ s.plan.state ≠ .checking ∧ s.cond.count = 205000 ∧ s.input 0 = x) ∧
    ((readItem (itemIdOf [2, 0, 0, 1, 10, 3, 0, 100, 0, 200]) [2, 0, 0, 1, 10, 3, 0, 100, 0,
      200]).item = .inputSetup 0
      { activeHigh := true, debounce := 10, chatterLimit := 3, chatterWindow := 100, quietGap := 200 } ∧
      firstBad (addressChecks [2, 0, 0, 1, 10, 3, 0, 100, 0, 200] ++ (readItem (itemIdOf [2, 0, 0, 1, 10, 3, 0, 100,
      0, 200]) [2, 0, 0, 1, 10, 3, 0, 100, 0, 200]).checks) = none) ∧
    (∀ x ∈ ([(1, 23), (2, 7), (3, 7), (4, 63), (5, 0)] : List (Byte × Byte)), ∀ p ∈ [[4, 0, 0, 1, 15, x.1, x.2, 1, 0,
      1, 0, 1, 0, 0, 0, 0, 0, 0, 0, 0]], SelectorInRange p 4 ∧ byteAt p 4 < 16 ∧ byteAt p 5 = x.1.toNat) :=
  ⟨by simp only [InHand, Quiet]; decide +kernel,
   by simp only [InHand, Quiet]; decide +kernel,
   by decide +kernel,
   by decide +kernel,
   by decide +kernel,
   by simp only [InHand, RunShape, Quiet]; decide +kernel,
   by decide +kernel,
   by simp [SelectorInRange, byteAt]⟩

/-- A read of the last state and of one past it, and a clear, in each plan and run state. -/
theorem meets_planReadAndClear :
    (∀ s ∈ [online, planned, armed, online.modPlan fun p => { p with state := .checking }], InHand (request 39 [5, 23,
      0]) 0 (served 39 [5, 23, 0] s) ∧ InHand (request 39 [5, 24, 0]) 0 (served 39 [5, 24, 0] s) ∧
      InHand (request 41 []) 0 (served 41 [] s)) ∧
    (firstBad (addressChecks [5, 23, 0]) = none ∧ firstBad (addressChecks [5, 24, 0]) = some 1 ∧
      armed.runActive = true ∧ planned.runActive = false ∧ planned.plan.state ≠ .checking) ∧
    (RunShape (served 41 [] planned)) ∧
    (∀ x ∈ [(served 41 [] (inputs 3 (fun x => { x with candidate := some 4000 }) planned)).input 3],
      x.lockout = none ∧ x.candidate = some 4000 ∧ 4000 + InputSetup.initial.debounce * 100 ≤ 5000) :=
  ⟨by simp only [InHand, Quiet]; decide +kernel,
   by decide +kernel,
   by simp only [RunShape]; decide +kernel,
   by decide +kernel⟩

/-- Each plan state. -/
theorem meets_planCommitByPlanState :
    ∀ x ∈ [PlanState.empty, .checking, .valid, .editing, .invalid],
      InHand (request 40 []) 0 (served 40 [] (online.modPlan fun p => { p with state := x })) ∧
      (request 40 []).payload = [] :=
  by simp only [InHand, Quiet]; decide +kernel

/-- A check in progress with a sound and an unsound plan and one place in the queue; and none in progress. -/
theorem meets_commitCheckDecidesThePlan :
    (∀ s ∈ [queued seven planned, queued seven online],
      ∀ t ∈ [s.modPlan fun p => { p with state := .checking, committer := some (3, 7) }], t.plan.state = .checking ∧
      t.plan.committer = some (3, 7) ∧ t.link.notices = [] ∧ t.link.state ≠ .muted ∧ t.link.tx.length < 8) ∧
    (online.plan.state ≠ .checking ∧ commitCheck planned.plan.items = .none ∧ commitCheck online.plan.items ≠ .none) :=
  ⟨by decide +kernel,
   by decide +kernel⟩

/-- Labels 0, 255, 1 and 254; a held record and one past it; and the label of a run. -/
theorem meets_recordReadAnswers :
    (∀ l ∈ [0, 255, 1, 254, 5], ∀ s ∈ [online, armed, running], InHand (request 35 [byte l, 255, 255,
      0]) 0 (served 35 [byte l, 255, 255, 0] s)) ∧
    (StoreOk online.store ∧ StoreOk (holding 9 online).store) ∧
    ((∃ h ∈ (holding 9 online).store.heldLabels, h.label = 9 ∧ 0 < h.count) ∧
      (¬∃ h ∈ (holding 9 online).store.heldLabels, h.label = 9 ∧ 1 < h.count) ∧ armed.engine.runLabel = some 5 ∧
      armed.runActive = true) :=
  ⟨by simp only [InHand, Quiet]; decide +kernel,
   ⟨storeOk_initial, storeOk_holding⟩,
   by decide +kernel⟩

/-- Labels 0 and 255, the label of a run, one not held and one held. -/
theorem meets_releaseFreesTheChain :
    (∀ l ∈ [0, 255, 5, 9], ∀ s ∈ [online, armed, holding 9 online],
      InHand (request 34 [byte l]) 0 (served 34 [byte l] s)) ∧
    (StoreOk online.store ∧ StoreOk (holding 9 online).store) ∧
    (armed.engine.runLabel = some 5 ∧ armed.runActive = true ∧ (∀ h ∈ online.store.heldLabels, h.label ≠ 9) ∧
      ∃ h ∈ (holding 9 online).store.heldLabels, h.label = 9) :=
  ⟨by simp only [InHand, Quiet]; decide +kernel,
   ⟨storeOk_initial, storeOk_holding⟩,
   by decide +kernel⟩

/-- Each field one out of its range; a MERGE under another label; a busy engine; with six frames queued, a ONE of
station 15, a SET of stations 1 and 15, a ONE of the own station 0 and a MERGE ROLL. -/
theorem meets_gatherBegins :
    (∀ p ∈ [[0, 1, 0, 4, 1, 1, 1], [255, 1, 0, 4, 1, 1, 1], [5, 4, 0, 4, 1, 1, 1], [5, 1, 0, 16, 1, 1, 1], [5, 2, 0,
      0, 1, 1, 1], [5, 1, 0, 4, 3, 1, 1], [5, 1, 0, 4, 1, 0, 1], [5, 1, 0, 4, 1, 1, 3], [5, 1, 0, 15, 1, 1, 1], [5, 2,
      128, 2, 1, 1, 1], [5, 1, 0, 0, 1, 1, 1], [5, 3, 0, 0, 2, 2, 2]],
      InHand (request 36 p) 0 (served 36 p (queued (seven.drop 1) online)) ∧ p.length = 7) ∧
    (∀ s ∈ [online.modGather fun g => { g with report := { g.report with label := some 6 } }],
      s.gather.report.label ≠ none ∧ s.gather.report.label ≠ some 5 ∧
      (sweeping cursor online).gather.state = .sweeping ∧ online.gather.state = .idle) ∧
    (∀ s ∈ [queued (seven.drop 1) online], s.link.state ≠ .muted ∧ s.link.tx.length < 7 ∧ s.own.val = 0 ∧
      s.store.heldLabels = [] ∧ s.engine.runLabel = none ∧ (Nat.testBit (128 * 256 + 2) 1 = true ∧ ∀ j : StationNo,
      j < 1 → Nat.testBit (128 * 256 + 2) j.val = false)) :=
  ⟨by simp only [InHand, Quiet]; decide +kernel,
   by decide +kernel,
   by decide +kernel⟩

/-- Positions 0, 1, 12, 13, 524 and 525; a busy engine; no report label; and one with an entry. -/
theorem meets_reportReadShowsALine :
    (∀ p ∈ [0, 1, 12, 13, 524, 525, 65535], InHand (request 37 (bytes2 p)) 0 (served 37 (bytes2 p) online)) ∧
    (online.gather.state = .idle ∧ (sweeping cursor online).gather.state ≠ .idle ∧
      (sweeping cursor online).gather.state ≠ .done ∧ online.gather.report.label = none) ∧
    (∀ e ∈ ([{ origin := 4, index := 0, kind := 1, time := 70, contents := [] }] : List (ReportEntry)),
      ∀ s ∈ [online.modGather fun g => { g with report := { g.report with label := some 5, entries := [e] } }],
      s.gather.report.entries[13 - 13]? = some e ∧ s.gather.report.entries.length ≤ 14 - 13 ∧
      s.gather.report.label ≠ none) :=
  ⟨by simp only [InHand, Quiet]; decide +kernel,
   by decide +kernel,
   by decide +kernel⟩

/-- Flags 0, 1 and 2 with parts 0, 1 and 255. -/
theorem meets_statusReadBuildsThenClears :
    ∀ x ∈ [0, 1, 2, 255], ∀ part ∈ [0, 1, 255], InHand (request 32 [byte x, byte part]) 0 (served 32 [byte x,
      byte part] running) :=
  by simp only [InHand, Quiet]; decide +kernel

/-- A MUTED station, with and without a requester; a RUNNING run and none, in each state of the supervisor; and a
gather under way. -/
theorem meets_stationReset :
    (∀ s ∈ [online, sweeping { cursor with requester := some (3, 7) } online],
      ∀ t ∈ [served 33 [] (s.modLink fun l => { l with state := .muted })], t.link.state = .muted ∧
      t.runActive = false ∧ t.link.tx = [] ∧ t.status.service = .taken (request 33 []) 0 ∧ t.link.notices = []) ∧
    (QueuesOk (served 33 [] (online.modLink fun l => { l with state := .muted }))) ∧
    (∀ s ∈ [online, queued seven running, amp .ready running, amp .faulted online, overloaded (amp .faulted online),
      sweeping cursor online], InHand (request 33 []) 0 (served 33 [] s) ∧ QueuesOk (served 33 [] s) ∧
      (served 33 [] s).engine.held = [] ∧ Room (served 33 [] s) ∧ GatherShape (served 33 [] s)) ∧
    (∀ s ∈ [online, queued seven running, amp .ready running], RunShape (served 33 [] s)) ∧
    (RunLabelled (served 33 [] online) ∧ RunLabelled (served 33 [] (queued seven running)) ∧
      RunLabelled (served 33 [] (amp .ready running))) ∧
    (RunInvariant (served 33 [] (pendingIn running2))) ∧
    (∀ s ∈ [served 33 [] (pendingIn running2)], InHand (request 33 []) 0 s ∧ QueuesOk s ∧ RunShape s ∧ GatherShape s ∧
      Room s ∧ s.runUnderWay = true ∧ s.engine.held = [] ∧ s.engine.runLabel = some 5) ∧
    (StoreOk (served 33 [] (holding 9 online)).store) ∧
    (∀ s ∈ [served 33 [] (holding 9 online)], s.runActive = false ∧ s.link.tx = [] ∧ s.engine.runLabel ≠ some 9) :=
  ⟨by decide +kernel,
   by simp only [queuesOk_iff]; decide +kernel,
   by simp only [InHand, Room, queuesOk_iff, GatherShape, Quiet]; decide +kernel,
   by simp only [RunShape]; decide +kernel,
   ⟨⟨fun h => absurd h (by decide +kernel), by decide +kernel⟩, ⟨fun _ => ⟨5, rfl, by decide⟩, by decide +kernel⟩,
    ⟨fun _ => ⟨5, rfl, by decide⟩, by decide +kernel⟩⟩,
   resetting_invariant,
   by simp only [InHand, Room, queuesOk_iff, RunShape, GatherShape, Quiet]; decide +kernel,
   storeOk_holding,
   by decide +kernel⟩

/-- A request answered, with a request waiting and one place in the queue; a request of each owner of its reply; and
none answered; and a full queue that gives way and one that does not. -/
theorem meets_serviceEndsWithTheReply :
    (∀ s ∈ [queued seven (online.modStatus fun u => { u with service := .answered (request 41 []) 16 [41] 0 })],
      s.status.service = .answered (request 41 []) 16 [41] 0 ∧ s.link.notices = [] ∧ s.link.state ≠ .muted ∧
      s.link.tx.length < 8) ∧
    (online.status.service = .idle ∧ (served 41 [] online).status.service = .taken (request 41 []) 0) ∧
    (∀ k ∈ [33, 34, 35, 36, 37, 38, 41, 42], ∀ s ∈ [queued seven (online.modStatus fun u =>
      { u with service := .answered (request k []) 16 [] 0 })], s.status.service = .answered (request k []) 16 [] 0 ∧
      Quiet s ∧ Room s) ∧
    (∀ q ∈ [eight, { reply 8 with begun := true, onWire := true } :: ((List.range 6).map reply ++ [entry 6 false false
      (.recordRead 5 0) .gatherEngine])], ∀ s ∈ [queued q (online.modStatus fun u =>
      { u with service := .answered (request 41 []) 16 [41] 0 })],
      s.status.service = .answered (request 41 []) 16 [41] 0 ∧ Quiet s ∧ QueuesOk s ∧ s.link.state ≠ .muted ∧
      s.link.tx.length = 8 ∧ ∃ v ∈ s.link.tx, v.onWire = false ∧ v.age = 6 ∧ ∀ u ∈ s.link.tx, u.onWire = false →
      u.priority < v.priority ∨ (u.priority = v.priority ∧ u.age ≤ v.age)) ∧
    (∀ s ∈ [online.modLink fun l => { l with state := .muted }], s.link.state = .muted ∧ QueuesOk s ∧
      (reply 6).priority ≤ 5 ∧ 5 < (entry 6 false false (.recordRead 5 0) .gatherEngine).priority) :=
  ⟨by decide +kernel,
   by decide +kernel,
   by simp only [Quiet, Room]; decide +kernel,
   by simp only [Quiet, queuesOk_iff]; decide +kernel,
   by simp only [queuesOk_iff]; decide +kernel⟩

/-- RUNNING at 1000 with no visit, with every kind of slot; and each reason not to enter. -/
theorem meets_initialStateIsEntered :
    (∀ s ∈ [queued seven started], s.engine.runState = .running ∧ s.engine.visit = none ∧ s.engine.visitCount = 0 ∧
      1000 ≤ s.now ∧ s.now < 3600000000 ∧ s.link.notices = [] ∧ s.link.state ≠ .muted ∧ s.link.tx.length < 8 ∧
      s.engine.runLabel = some 5) ∧
    (armed.engine.runState ≠ .running ∧ running.engine.visit ≠ none ∧ (at_ 999 started).now < 1000) ∧
    (∀ s ∈ [withTrigger 2 (.timer 1 .endRun none) started],
      (s.plan.items.states.get 0).triggers.get 2 = .timer 1 .endRun none) :=
  ⟨by decide +kernel,
   by decide +kernel,
   by decide +kernel⟩

/-- A TIMER and the backstop come at 2050, plain and coordinated, with no exit decided and with one; not yet come; two
triggers at one instant; and a pending mark of another slot, waiting and begun, against a plain and a coordinated
TIMER. -/
theorem meets_expiriesDecideTheExit :
    (∀ s ∈ [withTrigger 1 (.timer 1 .endRun none) (engine (fun g =>
      { g with timers := setAt g.timers 1 (some 2050), backstop := some 2050 }) running),
      decided exitAt2100 (withTrigger 1 (.timer 1 .endRun none) (engine (fun g =>
      { g with timers := setAt g.timers 1 (some 2050), backstop := some 2050 }) running)),
      queued seven (withTrigger 1 (.timer 1 .endRun (some 6)) (engine (fun g =>
      { g with timers := setAt g.timers 1 (some 2050), backstop := some 2050 }) running))], Quiet s ∧
      s.engine.runState = .running ∧ s.engine.visit = some visit1 ∧ s.engine.timers.get 1 = some 2050 ∧
      s.engine.backstop = some 2050 ∧ 2050 ≤ s.now ∧ s.engine.runLabel = some 5 ∧ s.engine.pendingMark = none ∧
      s.engine.pendingFallback = none ∧ Room s) ∧
    ((withTrigger 1 (.timer 1 .endRun none) (engine (fun g =>
      { g with timers := setAt g.timers 1 (some 2050), backstop := some 2050 }) running)).engine.decided = none ∧
      exitAt2100.instant ≠ 2050) ∧
    (((withTrigger 1 (.timer 1 .endRun none) (engine (fun g =>
      { g with timers := setAt g.timers 1 (some 2050), backstop := some 2050 }) running)).plan.items.states.get
      0).triggers.get 1 = .timer 1 .endRun none ∧ ((withTrigger 1 (.timer 1 .endRun (some 6)) (engine (fun g =>
      { g with timers := setAt g.timers 1 (some 2050), backstop := some 2050 }) running)).plan.items.states.get
      0).triggers.get 1 = .timer 1 .endRun (some 6)) ∧
    (∀ x, (at_ 2049 (engine (fun g => { g with timers := setAt g.timers 1 (some 2050), backstop := some 2050 })
      running)).engine.timers.get 1 = some x → (at_ 2049 (engine (fun g =>
      { g with timers := setAt g.timers 1 (some 2050), backstop := some 2050 }) running)).now < x) ∧
    (∀ x, (at_ 2049 (engine (fun g => { g with timers := setAt g.timers 1 (some 2050), backstop := some 2050 })
      running)).engine.backstop = some x → (at_ 2049 (engine (fun g =>
      { g with timers := setAt g.timers 1 (some 2050), backstop := some 2050 }) running)).now < x) ∧
    (Decider.slot 0 ≠ .stop ∧ Decider.backstop ≠ .stop ∧ Decider.slot 0 ≠ .backstop ∧ running.engine.decided = none ∧
      running.engine.pendingMark = none ∧ running.engine.visit = some visit1 ∧ (0 : SlotNo) < 3) ∧
    (∀ b ∈ [true, false], ∀ s ∈ [withTrigger 1 (.timer 1 .endRun none) (rival b (engine (fun g =>
      { g with timers := setAt g.timers 1 (some 2050), backstop := some 2050 }) running))], Quiet s ∧ QueuesOk s ∧
      s.engine.runState = .running ∧ s.engine.visit = some visit1 ∧ s.engine.timers.get 1 = some 2050 ∧
      s.engine.backstop = some 2050 ∧ 2050 ≤ s.now ∧ (s.plan.items.states.get visit1.state).triggers.get 1 = .timer 1
      .endRun none ∧ s.engine.runLabel = some 5 ∧ s.engine.decided = none ∧
      s.engine.pendingMark.map (·.slot) = some 2) ∧
    (∀ s ∈ [detectedAt 2040 (withTrigger 1 (.timer 1 .endRun (some 7)) (rival true (engine (fun g =>
      { g with timers := setAt g.timers 1 (some 2050), backstop := some 2050 }) running))),
      detectedAt 2050 (withTrigger 1 (.timer 1 .endRun (some 7)) (rival false (engine (fun g =>
      { g with timers := setAt g.timers 1 (some 2050), backstop := some 2050 }) running)))], Quiet s ∧ QueuesOk s ∧
      s.engine.runState = .running ∧ s.engine.visit = some visit1 ∧ s.engine.timers.get 1 = some 2050 ∧ 2050 ≤ s.now ∧
      (s.plan.items.states.get visit1.state).triggers.get 1 = .timer 1 .endRun (some 7) ∧ s.engine.runLabel = some 5 ∧
      s.engine.decided = none ∧ s.engine.pendingFallback = none ∧ s.engine.pendingMark.map (fun p => (p.slot,
      p.age)) = some (2, 3)) ∧
    (∀ b ∈ [true, false], (detectedAt 2050 (rival b running)).engine.pendingMark.map (·.detection) = some 2050 ∧
      (rival b running).engine.pendingMark.map (·.detection) = some 2040 ∧ ∃ e ∈ (rival b running).link.tx,
      e.age = 3 ∧ e.begun = b) :=
  ⟨by simp only [Quiet, Room]; decide +kernel,
   by decide +kernel,
   by decide +kernel,
   forall_some (by decide +kernel),
   forall_some (by decide +kernel),
   by decide +kernel,
   by simp only [Quiet, queuesOk_iff]; decide +kernel,
   by simp only [Quiet, queuesOk_iff]; decide +kernel,
   by decide +kernel⟩

/-- An exit due at its boundary, to a state below and at the visit limit, to END and by STOP; none due; a visit with
its working entry; an earlier visit due at the head of the pending list; and an output that took its level at the
boundary. -/
theorem meets_exitBoundaryClosesTheVisit :
    (∀ d ∈ [exitAt2100, { exitAt2100 with target := some (.state 0) },
      { exitAt2100 with target := none, decider := .stop }], ∀ n ∈ [1, 64],
      ∀ s ∈ [engine (fun g => { g with visitCount := n }) (queued seven (at_ 2100 (decided d running)))],
      s.engine.runState = .running ∧ s.engine.visit = some visit1 ∧ s.engine.decided = some d ∧ d.boundary ≤ s.now ∧
      s.now < 3600000000 ∧ s.engine.held = [] ∧ s.link.notices = [] ∧ s.link.state ≠ .muted ∧ s.link.tx.length < 8) ∧
    (exitDue (at_ 2099 (decided exitAt2100 running)) = false ∧ running.plan.items.header.visitLimit = 64 ∧
      running.eval.working.isSome = true) ∧
    (RunInvariant exiting2) ∧
    (∀ s ∈ [exiting2], s.engine.runState = .running ∧ s.engine.visit = some { visit1 with number := 2, entry := 2000 }
      ∧ s.engine.decided = some { exitAt2100 with target := some (.state 0) } ∧ 2100 ≤ s.now ∧ s.now < 3600000000 ∧
      s.engine.held = [] ∧ Quiet s ∧ Room s ∧ s.engine.runLabel = some 5 ∧
      s.engine.visitCount < s.plan.items.header.visitLimit ∧ pendingEntry ∈ s.eval.pendingList ∧
      pendingEntry.horizon ≤ s.now ∧ s.engine.boHeld.get 2 = some (2100, false) ∧ s.engine.boHeld.get 1 = none) ∧
    (∀ s ∈ [breaker (fun b => { b with enabled := true, out52a := some 1, out52b := some 2 }) exiting2],
      s.plan.items.breaker.enabled = true ∧ s.plan.items.breaker.out52a = some 1 ∧
      s.plan.items.breaker.out52b = some 2) :=
  ⟨by decide +kernel,
   by decide +kernel,
   exiting2_invariant,
   by simp only [Quiet, Room]; decide +kernel,
   by decide +kernel⟩

/-- A pending mark at its deadline and 1 µs before it; a pending fallback at its instant and 1 µs before it; and
neither. -/
theorem meets_fallbackDecidesUncoordinated :
    (∀ s ∈ [at_ 22040 (sending (.mark 5 6 2040) .engine (marked running))], Quiet s ∧ QueuesOk s ∧
      s.engine.runState = .running ∧ s.engine.visit = some visit1 ∧
      s.engine.pendingMark.map (·.detection) = some 2040 ∧ 2040 + 20000 ≤ s.now ∧ s.engine.decided = none) ∧
    ((at_ 22039 (marked running)).now < 2040 + 20000 ∧ running.engine.pendingMark = none ∧
      running.engine.pendingFallback = none) ∧
    (∀ s ∈ [engine (fun g => { g with pendingFallback := some { slot := 1, instant := 2051 } }) running],
      s.engine.pendingMark = none ∧ s.engine.pendingFallback.map (·.instant) = some 2051 ∧ s.now < 2051) ∧
    (∀ s ∈ [engine (fun g => { g with pendingFallback := some { slot := 1, instant := 2050 } }) running],
      s.engine.pendingMark = none ∧ s.engine.pendingFallback = some { slot := 1, instant := 2050 } ∧ 2050 ≤ s.now ∧
      s.engine.decided = none) ∧
    (∀ s ∈ [at_ 22040 (rival false running)], QueuesOk s ∧ Quiet s ∧ s.engine.runLabel = some 5 ∧
      s.engine.pendingMark.map (·.detection) = some 2040 ∧ 2040 + 20000 ≤ s.now ∧ s.engine.decided = none) :=
  ⟨by simp only [Quiet, queuesOk_iff]; decide +kernel,
   by decide +kernel,
   by decide +kernel,
   by decide +kernel,
   by simp only [Quiet, queuesOk_iff]; decide +kernel⟩

/-- The clock limit and 1 µs before it; an earlier visit due there; a BO delay passed, and not yet, and at an instant
that may close the visit. -/
theorem meets_clockLimitAndDelayedOutputs :
    ((at_ 3600000000 running).engine.runState = .running ∧ 3600000000 ≤ (at_ 3600000000 running).now ∧
      Quiet (at_ 3600000000 running) ∧ (at_ 3599999999 running).now < 3600000000) ∧
    (∀ s ∈ [engine (fun g => { g with boSchedule := setAt g.boSchedule 2 (some (2050, true)) }) running],
      s.engine.visit ≠ none ∧ closingDue s = false ∧ s.engine.boSchedule.get 2 = some (2050, true) ∧ 2050 ≤ s.now) ∧
    (closingDue (at_ 2100 (decided exitAt2100 running)) = true ∧ (at_ 2049 running).now < 2050) ∧
    (RunInvariant (at_ 3600000000 (pendingIn running2))) ∧
    (∀ s ∈ [at_ 3600000000 (pendingIn running2)], s.engine.runState = .running ∧ 3600000000 ≤ s.now ∧ Quiet s ∧
      s.engine.runLabel = some 5 ∧ pendingEntry.horizon ≤ s.now) :=
  ⟨by simp only [Quiet]; decide +kernel,
   by decide +kernel,
   by decide +kernel,
   invariant_of _ rfl rfl (by simp only [RunShape]; decide +kernel) (by simp only [VisitsBounded]; decide +kernel)
    rfl rfl rfl rfl rfl,
   by simp only [Quiet]; decide +kernel⟩

/-- A boundary with a visit and one without; no boundary; and something else due first. -/
theorem meets_sampleBoundaryEmits :
    (sampleDue (at_ 2100 running) = true ∧ dueList (at_ 2100 running) = [] ∧ (at_ 2100 running).engine.visit ≠ none) ∧
    (sampleDue (at_ 900 started) = true ∧ dueList (at_ 900 started) = [] ∧ started.engine.visit = none) ∧
    (sampleDue running = false ∧ dueList (at_ 2100 (decided exitAt2100 running)) ≠ []) ∧
    (∀ x ∈ [BreakerState.closed, .opening, .opened, .closing],
      (running.modBreaker fun b =>
      { b with state := x, forcing := #v[.unforced, .watching 99, .forced] }).breaker.state = x) :=
  ⟨by decide +kernel,
   by decide +kernel,
   by decide +kernel,
   by decide +kernel⟩

/-- A channel of every DC mode with and without a harmonic; and two phases of one index. -/
theorem meets_stateEntryAndTheSineFunction :
    (∀ it ∈ [ChannelItem.initial, { ChannelItem.initial with harmonicOrder := 2, dcMode := .fixed },
      { ChannelItem.initial with dcMode := .continuous, angle := 35999 }], it.angle < 36000 ∧
      it.harmonicAngle < 36000) ∧
    ((0xFFFF : BitVec 32).toNat / 65536 = (0 : BitVec 32).toNat / 65536) :=
  ⟨by decide +kernel,
   by decide +kernel⟩

/-- A RUNNING run in its second visit, the first pending with its horizon at 2050; an ENDING run with its last visit
pending; and a horizon not yet come. Stores with room for an event record of the run, for a late one and for a record
with no run active, and one that is full. -/
theorem meets_horizonEvaluatesTheOldestVisit :
    (RunInvariant (pendingIn running2)) ∧
    (RunInvariant (pendingIn ending1)) ∧
    ((pendingIn running2).eval.pendingList = [pendingEntry] ∧ pendingEntry.horizon ≤ running2.now ∧
      running2.engine.runLabel = some 5 ∧ running2.engine.runState = .running ∧ ending1.engine.runState = .ending ∧
      ending1.engine.runLabel = some 5 ∧ ending1.now = 2050) ∧
    ((at_ 2049 running2).now < pendingEntry.horizon) ∧
    (StoreOk (holding 9 online).store ∧ StoreOk Store.initial) ∧
    (∀ r ∈ [none, some { evaluations := 0, dropped := 0 }], StoreOk (reserving r (holding 9 running)).store) ∧
    (∀ s ∈ [reserving (some { evaluations := 0, dropped := 0 }) (holding 9 running)],
      s.store.reserve = some { evaluations := 0, dropped := 0 } ∧ s.engine.runLabel = some 5 ∧
      s.plan.items.header.visitLimit - 0 + 2 ≤ capacity s.store 5 ∧ (∃ h ∈ s.store.heldLabels, h.label = 9) ∧
      s.plan.items.header.visitLimit - 0 + 1 ≤ capacity s.store 5 ∧ ∃ h ∈ s.store.heldLabels, h.label = 9 ∧
      8 * h.chain.length ≠ h.count) ∧
    ((∀ h ∈ (holding 9 running).store.heldLabels, h.label ≠ 7) ∧
      freeBlocks (reserving none (holding 9 running)).store ≠ [] ∧
      (reserving none (holding 9 running)).store.reserve = none) ∧
    (∀ r ∈ ([{ evaluations := 0, dropped := 0 }] : List (Reserve)),
      capacity (crowded (some r)).store 5 < (crowded (some r)).plan.items.header.visitLimit - 0 + 2 ∧
      (crowded (some r)).engine.runLabel = some 5 ∧ freeBlocks (crowded none).store = [] ∧
      ∀ h ∈ (crowded none).store.heldLabels, h.label = 9 ∧ 8 * h.chain.length = h.count) ∧
    (∀ r, StoreOk (crowded r).store) :=
  ⟨running2_invariant,
   ending1_invariant,
   by decide +kernel,
   by decide +kernel,
   ⟨storeOk_holding, storeOk_initial⟩,
   fun _ _ => storeOk_holding,
   by decide +kernel,
   by decide +kernel,
   by decide +kernel,
   fun _ => storeOk_full⟩

/-- Each window and first operate, at and beside the ends of the window and of the reported time. -/
theorem meets_verdictTable :
    ∀ j ∈ ([{ bi := 0, window := .operate 2 3, firstOperate := some 1200, chatter := false }] : List (Judged)),
      j.chatter = false ∧ j.window = .operate 2 3 ∧ 1000 + 2 * 100 ≤ 1200 ∧ 1199 < 1000 + 2 * 100 ∧
      1300 ≤ 1000 + 3 * 100 ∧ 1000 + 3 * 100 < 1301 ∧ 16778215 ≤ 1000 + 16777215 ∧ 1000 + 16777215 < 16778216 :=
  by decide +kernel

/-- Each state of an input, at its deadline and 1 µs before it, with and without a debounce. -/
theorem meets_rawTransitionOfAnInput :
    (Quiet running) ∧
    (∀ s ∈ [inputs 3 (fun x =>
      { x with lockout := some { held := true, lastRaw := 4000, release := 5001, began := 3000 } }) running],
      s.cond.count < 5001 ∧ (s.input 3).lockout.map (·.release) = some 5001) ∧
    (∀ s ∈ [setup 3 (fun u => { u with debounce := 11 }) (inputs 3 (fun x =>
      { x with raw := true, candidate := some 4000 }) running)], (s.input 3).lockout = none ∧
      (s.input 3).candidate = some 4000 ∧ s.cond.count < 4000 + 11 * 100) ∧
    (∀ s ∈ [inputs 3 (fun x => { x with raw := true, candidate := some 4000 }) running],
      (s.input 3).raw ≠ (s.input 3).accepted ∧ 4000 + (s.plan.items.inputs.get 3).debounce * 100 ≤ s.cond.count ∧
      0 < (s.plan.items.inputs.get 3).debounce ∧ (s.plan.items.inputs.get 3).chatterLimit = 0) ∧
    ((running.input 3).candidate = none ∧ (running.input 3).raw = (running.input 3).accepted ∧
      ((setup 3 (fun u => { u with debounce := 0 }) running).plan.items.inputs.get 3).debounce = 0) :=
  ⟨by simp only [Quiet]; decide +kernel,
   by decide +kernel,
   by decide +kernel,
   by decide +kernel,
   by decide +kernel⟩

/-- A deadline come, with a short and a full history, locking out and not, in a run and outside one, with and without
a visit; and one not yet come. -/
theorem meets_debounceDeadlineAcceptsTheChange :
    (∀ s ∈ [inputs 3 (fun x => { x with raw := true, candidate := some 4000 }) running,
      inputs 3 (fun x => { x with raw := true, candidate := some 4000 }) started,
      inputs 3 (fun x => { x with raw := true, candidate := some 4000 }) online,
      inputs 3 (fun x => { x with raw := true, candidate := some 4000, history := List.range 15 }) started], Quiet s ∧
      (s.input 3).lockout = none ∧ (s.input 3).candidate = some 4000 ∧
      4000 + (s.plan.items.inputs.get 3).debounce * 100 ≤ s.cond.count) ∧
    ((inputs 3 (fun x => { x with raw := true, candidate := some 4000 }) started).engine.visit = none ∧
      (inputs 3 (fun x => { x with raw := true, candidate := some 4000 }) started).eval.working = none ∧
      (inputs 3 (fun x => { x with raw := true, candidate := some 4000 }) started).engine.decided = none ∧
      started.runUnderWay = true ∧ started.engine.runLabel = some 5 ∧ online.runUnderWay = false ∧
      online.engine.visit = none ∧ online.eval.working = none) ∧
    (∀ s ∈ [setup 3 (fun u => { u with chatterLimit := 3 }) (inputs 3 (fun x =>
      { x with raw := true, candidate := some 4000, history := [1000, 2000, 3000] }) started)],
      3 ≤ (s.plan.items.inputs.get 3).chatterLimit ∧ (s.plan.items.inputs.get 3).chatterLimit < (((s.input 3).history
      ++ [4000]).countP fun e => decide (s.cond.count < e + (s.plan.items.inputs.get 3).chatterWindow * 1000 ∧
      e ≤ s.cond.count))) ∧
    (∀ T, (setup 3 (fun u => { u with debounce := 11 }) (inputs 3 (fun x =>
      { x with raw := true, candidate := some 4000 }) running)).input 3 =
      { raw := true, accepted := false, candidate := some T, history := [], lockout := none } →
      (setup 3 (fun u => { u with debounce := 11 }) (inputs 3 (fun x =>
      { x with raw := true, candidate := some 4000 }) running)).cond.count < T + 1100) :=
  ⟨by simp only [Quiet]; decide +kernel,
   by decide +kernel,
   by decide +kernel,
   by
     intro T h
     have h4 : some 4000 = some T := congrArg InputState.candidate h
     cases h4
     decide +kernel⟩

/-- An operate accepted at 2050 in a visit, heard by no slot, by a slot and by a coordinating slot, with a mark code
and with a pending mark of another slot; a reset; an operate accepted at the boundary 2100; and one held there, with
the visit going on and with its exit. -/
theorem meets_acceptedChangeInAVisit :
    (∀ s ∈ [inputs 3 (fun x => { x with raw := true, candidate := some 4000 }) running,
      withTrigger 1 (.input 3 .operate .endRun none) (inputs 3 (fun x =>
      { x with raw := true, candidate := some 4000 }) running),
      setup 3 (fun u => { u with activeHigh := false }) (inputs 3 (fun x =>
      { x with raw := true, candidate := some 4000 }) running),
      queued (seven.drop 1) (inputs 3 (fun x => { x with raw := true, candidate := some 4000 }) running)], Quiet s ∧
      (s.input 3).lockout = none ∧ (s.input 3).candidate = some 4000 ∧
      4000 + (s.plan.items.inputs.get 3).debounce * 100 ≤ s.cond.count ∧ s.engine.runState = .running ∧
      s.engine.runLabel = some 5 ∧ s.engine.visit = some visit1 ∧ s.engine.decided = none ∧
      s.engine.pendingMark = none ∧ s.now % 100 ≠ 0 ∧ s.eval.working.isSome = true ∧
      s.engine.firstOperates.get 3 = false ∧ s.link.tx.length < 7 ∧ s.link.state ≠ .muted) ∧
    (((withTrigger 1 (.input 3 .operate .endRun none) (inputs 3 (fun x =>
      { x with raw := true, candidate := some 4000 }) running)).plan.items.states.get 0).triggers.get 1 = .input 3
      .operate .endRun none ∧ (!((inputs 3 (fun x => { x with raw := true, candidate := some 4000 }) running).input
      3).accepted) = ((inputs 3 (fun x => { x with raw := true, candidate := some 4000 })
      running).plan.items.inputs.get 3).activeHigh ∧ visit1.entry ≤ (inputs 3 (fun x =>
      { x with raw := true, candidate := some 4000 }) running).now - ((inputs 3 (fun x =>
      { x with raw := true, candidate := some 4000 }) running).cond.count - 4000) ∧
      (inputs 3 (fun x => { x with raw := true, candidate := some 4000 }) running).now - ((inputs 3 (fun x =>
      { x with raw := true, candidate := some 4000 }) running).cond.count - 2949) < visit1.entry) ∧
    (∀ n target coord, ((inputs 3 (fun x => { x with raw := true, candidate := some 4000 })
      running).plan.items.states.get visit1.state).triggers.get n ≠ .input 3 .operate target coord) ∧
    (∀ b ∈ [true, false], ∀ s ∈ [withTrigger 1 (.input 3 .operate .endRun none) (rival b (inputs 3 (fun x =>
      { x with raw := true, candidate := some 4000 }) running))], Quiet s ∧ QueuesOk s ∧ (s.input 3).lockout = none ∧
      (s.input 3).candidate = some 4000 ∧ 4000 + (s.plan.items.inputs.get 3).debounce * 100 ≤ s.cond.count ∧
      s.engine.runState = .running ∧ s.engine.runLabel ≠ none ∧ s.engine.visit = some visit1 ∧
      s.engine.decided = none ∧ s.engine.pendingMark.map (·.slot) = some 2 ∧ s.now % 100 ≠ 0 ∧
      (s.plan.items.states.get visit1.state).triggers.get 1 = .input 3 .operate .endRun none) ∧
    (∀ s ∈ [withTrigger 1 (.input 3 .operate .endRun (some 6)) (queued (seven.drop 1) (inputs 3 (fun x =>
      { x with raw := true, candidate := some 4000 }) running))],
      (s.plan.items.states.get visit1.state).triggers.get 1 = .input 3 .operate .endRun (some 6) ∧
      s.engine.decided = none ∧ s.engine.pendingMark = none ∧ s.engine.pendingFallback = none ∧ s.link.tx.length < 7 ∧
      s.link.state ≠ .muted ∧ ∀ k ∈ [0, 2, 3], (s.plan.items.states.get visit1.state).triggers.get k = .empty) ∧
    (∀ s ∈ [detectedAt 2040 (withTrigger 1 (.input 3 .operate .endRun (some 7)) (rival true (inputs 3 (fun x =>
      { x with raw := true, candidate := some 4000 }) running))),
      detectedAt 2050 (withTrigger 1 (.input 3 .operate .endRun (some 7)) (rival false (inputs 3 (fun x =>
      { x with raw := true, candidate := some 4000 }) running)))], Quiet s ∧ QueuesOk s ∧ (s.input 3).lockout = none ∧
      (s.input 3).candidate = some 4000 ∧ 4000 + (s.plan.items.inputs.get 3).debounce * 100 ≤ s.cond.count ∧
      s.engine.runState = .running ∧ s.engine.runLabel = some 5 ∧ s.engine.visit = some visit1 ∧
      s.engine.decided = none ∧ s.engine.pendingFallback = none ∧ s.engine.pendingMark.map (fun p => (p.slot,
      p.age)) = some (2, 3) ∧ s.now = 2050 ∧ s.link.state ≠ .muted ∧ s.link.tx.length < 7 ∧
      (s.plan.items.states.get visit1.state).triggers.get 1 = .input 3 .operate .endRun (some 7)) ∧
    (∀ t ∈ [4000, 5000], ∀ s ∈ [at_ 2100 (setup 3 (fun u => { u with debounce := 0 }) (inputs 3 (fun x =>
      { x with raw := true, candidate := some t }) running))], Quiet s ∧ (s.input 3).lockout = none ∧
      (s.input 3).candidate = some t ∧ t + (s.plan.items.inputs.get 3).debounce * 100 ≤ s.cond.count ∧
      s.engine.runState = .running ∧ s.engine.visit = some visit1 ∧ s.engine.decided = none ∧ visit1.entry < s.now ∧
      s.now % 100 = 0 ∧ (!(s.input 3).accepted) = (s.plan.items.inputs.get 3).activeHigh ∧
      s.eval.working.isSome = true) ∧
    (∀ h ∈ [({ bi := 3, edge := none } : HeldOperate), { bi := 3, edge := some 2100 }],
      ∀ s ∈ [at_ 2100 (engine (fun g => { g with held := [h] }) running)], s.pending = [] ∧
      (dueCommand { s with clock := { s.clock with sampleTaken := true } }) = none ∧ Quiet s ∧ Room s ∧
      s.engine.runState = .running ∧ s.engine.visit = some visit1 ∧ s.eval.working.isSome = true ∧
      s.engine.held = [h]) ∧
    (∀ h ∈ [({ bi := 3, edge := none } : HeldOperate), { bi := 3, edge := some 2100 }],
      ∀ s ∈ [engine (fun g => { g with held := [h] }) exiting2], Quiet s ∧ s.engine.runState = .running ∧
      s.engine.visit.isSome = true ∧ s.engine.decided.map (·.boundary) = some s.now ∧
      s.engine.decided.map (·.target) = some (some (.state 0)) ∧ s.now < 3600000000 ∧
      s.engine.visitCount < s.plan.items.header.visitLimit ∧ s.link.state ≠ .muted ∧ s.link.tx.length < 7) :=
  ⟨by simp only [Quiet]; decide +kernel,
   by decide +kernel,
   noInput (by decide +kernel) 3 .operate,
   by simp only [Quiet, queuesOk_iff]; decide +kernel,
   by decide +kernel,
   by simp only [Quiet, queuesOk_iff]; decide +kernel,
   by simp only [Quiet]; decide +kernel,
   by simp only [Quiet, Room]; decide +kernel,
   by simp only [Quiet]; decide +kernel⟩

/-- A release deadline come, with the raw level held and another; and one not yet come. -/
theorem meets_lockoutRelease :
    (∀ s ∈ [inputs 3 (fun x =>
      { x with lockout := some { held := false, lastRaw := 4000, release := 5000, began := 3000 } }) started,
      inputs 3 (fun x =>
      { x with raw := true, lockout := some { held := false, lastRaw := 4000, release := 5000, began := 3000 } })
      started, inputs 3 (fun x =>
      { x with raw := true, lockout := some { held := false, lastRaw := 4000, release := 5000, began := 3000 } })
      online], Quiet s ∧ (s.input 3).lockout.map (·.release) = some 5000 ∧ 5000 ≤ s.cond.count ∧
      s.engine.visit = none ∧ s.eval.working = none ∧ s.engine.decided = none) ∧
    (started.runUnderWay = true ∧ started.engine.runLabel = some 5 ∧ online.runUnderWay = false) ∧
    (∀ k, ((inputs 3 (fun x =>
      { x with lockout := some { held := false, lastRaw := 4000, release := 5001, began := 3000 } }) started).input
      3).lockout = some k → (inputs 3 (fun x =>
      { x with lockout := some { held := false, lastRaw := 4000, release := 5001, began := 3000 } })
      started).cond.count < k.release) :=
  ⟨by simp only [Quiet]; decide +kernel,
   by decide +kernel,
   forall_some (by decide +kernel)⟩

/-- An operate of the trip input and of the close input in each state of the breaker. -/
theorem meets_breakerOperateTable :
    (∀ x ∈ [BreakerState.closed, .opening, .opened, .closing], ∀ trip ∈ [3, 2], ∀ ms ∈ [0, 1],
      ∀ s ∈ [queued seven ((breaker (fun b =>
      { b with enabled := true, tripInput := trip, closeInput := some 3, openTime := ms, closeTime := ms }) (inputs 3
      (fun x => { x with raw := true, candidate := some 4000 }) running)).modBreaker fun b => { b with state := x })],
      s.link.notices = [] ∧ (s.input 3).lockout = none ∧ (s.input 3).candidate = some 4000 ∧
      4000 + (s.plan.items.inputs.get 3).debounce * 100 ≤ s.cond.count ∧
      (s.plan.items.inputs.get 3).chatterLimit = 0 ∧ (!(s.input 3).accepted) = (s.plan.items.inputs.get 3).activeHigh
      ∧ s.engine.runState = .running ∧ s.engine.runLabel = some 5 ∧ s.engine.visit = some visit1 ∧
      s.engine.decided = none ∧ s.link.state ≠ .muted ∧ s.link.tx.length < 8 ∧ s.plan.items.breaker.enabled = true) ∧
    (∀ n target coord, ((inputs 3 (fun x => { x with raw := true, candidate := some 4000 })
      running).plan.items.states.get visit1.state).triggers.get n ≠ .input 3 .operate target coord) :=
  ⟨by decide +kernel,
   noInput (by decide +kernel) 3 .operate⟩

/-- An OPEN and a CLOSE timer come, and not yet. -/
theorem meets_breakerTimersExpire :
    (∀ x ∈ [(BreakerState.opening, BreakerTimer.opening 2050), (.closing, .closing 2050)],
      ∀ s ∈ [(breaker (fun b => { b with enabled := true, closeInput := some 2 }) running).modBreaker fun b =>
      { b with state := x.1, timer := x.2 }], s.plan.items.breaker.enabled = true ∧ s.engine.runState = .running ∧
      s.engine.visit ≠ none ∧ 2050 ≤ s.now ∧ s.engine.runLabel = some 5 ∧ s.plan.items.breaker.closeInput = some 2) ∧
    (running.plan.items.breaker.enabled = false ∧ (at_ 2049 running).now < 2050) :=
  ⟨by decide +kernel,
   by decide +kernel⟩

/-- A warm-up and an idle timer come, with and without a poll to begin; and not yet. -/
theorem meets_amplifierTimersExpire :
    (∀ s ∈ [queued seven running, header (fun h => { h with startSet := setAt h.startSet 1 true }) armed],
      ∀ t ∈ [s.modAmp fun a => { a with state := .warming, warmUp := some 7, count := 7 }], t.amp.state = .warming ∧
      t.amp.warmUp = some 7 ∧ 7 ≤ t.amp.count ∧ t.link.notices = [] ∧ t.link.state ≠ .muted ∧ t.link.tx.length < 8 ∧
      t.coord.poller = .off) ∧
    (∀ p ∈ [PollerState.off, .polling], ∀ t ∈ [(coord (fun c => { c with poller := p }) armed).modAmp fun a =>
      { a with state := .ready, idle := some 7, count := 7 }], t.amp.state = .ready ∧ t.amp.idle = some 7 ∧
      7 ≤ t.amp.count ∧ inOverload t.amp = false) ∧
    (QueuesOk armed ∧ (∃ i, (header (fun h => { h with startSet := setAt h.startSet 1 true })
      armed).plan.items.header.startSet.get i = true) ∧ online.amp.state ≠ .warming ∧ online.amp.state ≠ .ready) ∧
    (∀ x, (armed.modAmp fun a => { a with state := .warming, warmUp := some 7, count := 6 }).amp.warmUp = some x →
      (armed.modAmp fun a => { a with state := .warming, warmUp := some 7, count := 6 }).amp.count < x) :=
  ⟨by decide +kernel,
   by decide +kernel,
   by simp only [queuesOk_iff]; decide +kernel,
   forall_some (by decide +kernel)⟩

/-- An ABSENT supervisor; each debouncer state; a report 1 µs early and on time, in each state of the supervisor. -/
theorem meets_overloadDebounce :
    (online.amp.state = .absent ∧ Quiet online ∧ (amp .ready online).amp.state ≠ .absent ∧
      (amp .ready online).amp.debouncers.get 0 = .clear ∧
      (overloaded (amp .ready online)).amp.debouncers.get 0 ≠ .clear) ∧
    (∀ x ∈ [AmpState.ready, .warming, .standby, .faulted, .absent], ∀ p ∈ [PollerState.off, .polling], ∀ s ∈ [online,
      queued seven running], ∀ t ∈ [coord (fun c => { c with poller := p }) (s.modAmp fun a =>
      { a with state := x, count := 2000, debouncers := setAt a.debouncers 0 (.timing 0) })],
      t.amp.debouncers.get 0 = .timing 0 ∧ 0 + 2000 ≤ t.amp.count ∧ t.link.notices = [] ∧ t.link.state ≠ .muted ∧
      t.link.tx.length < 8 ∧ t.engine.held = []) ∧
    (QueuesOk (queued seven running) ∧ (queued seven running).engine.runLabel = some 5) ∧
    (RunInvariant (overloading (pendingIn running2))) ∧
    (∀ s ∈ [overloading (pendingIn running2)], s.amp.debouncers.get 0 = .timing 0 ∧ s.amp.count = 2000 ∧ Quiet s ∧
      Room s ∧ QueuesOk s ∧ s.amp.state = .ready ∧ s.engine.runState = .running ∧ s.engine.held = [] ∧
      s.engine.runLabel = some 5) ∧
    (∀ x, (online.modAmp fun a =>
      { a with state := .ready, count := 1999, debouncers := setAt a.debouncers 0 (.timing 0) }).amp.debouncers.get 0
      = .timing x → (online.modAmp fun a =>
      { a with state := .ready, count := 1999, debouncers := setAt a.debouncers 0 (.timing 0) }).amp.count < x + 2000) :=
  ⟨by simp only [Quiet]; decide +kernel,
   by decide +kernel,
   by simp only [queuesOk_iff]; decide +kernel,
   overloading_invariant,
   by simp only [Quiet, Room, queuesOk_iff]; decide +kernel,
   by
     intro x h
     have h0 : (Debouncer.timing 0) = .timing x := h
     cases h0
     decide +kernel⟩

/-- A poll instant come, with and without a READY roll-call queued; not yet; and OFF. -/
theorem meets_pollInstantQueuesARollCall :
    (∀ s ∈ [queued seven armed, queued [entry 3 false false (.rollcall .ready) .coordination] armed],
      ∀ t ∈ [coord (fun c => { c with poller := .polling, nextPoll := some 100, count := 100 }) s],
      t.coord.poller = .polling ∧ t.coord.nextPoll = some 100 ∧ 100 ≤ t.coord.count ∧ t.link.notices = [] ∧
      t.link.state ≠ .muted ∧ t.link.tx.length < 8) ∧
    ((∀ e ∈ (queued seven armed).link.tx, e.frame.body ≠ .rollcall .ready) ∧ armed.coord.poller ≠ .polling) ∧
    (∀ x, (coord (fun c => { c with nextPoll := some 101, count := 100 }) armed).coord.nextPoll = some x →
      (coord (fun c => { c with nextPoll := some 101, count := 100 }) armed).coord.count < x) :=
  ⟨by decide +kernel,
   by decide +kernel,
   forall_some (by decide +kernel)⟩

/-- A reply deadline, a repeat instant and the gather-on-finish instant come, under HALT and SKIP, with and without a
station to go on to, the empty gather set among them; and each not yet come. -/
theorem meets_gatherInstants :
    (∀ c ∈ [{ cursor with deadline := some 100, haltSilence := true },
      { cursor with deadline := some 100, sweepSet := Vector.replicate 16 false },
      { cursor with deadline := some 100 }, { cursor with repeatAt := some 100 }],
      ∀ s ∈ [queued seven (sweeping c online)], s.gather.cursor = some c ∧ (c.deadline = some 100 ∨
      c.repeatAt = some 100) ∧ 100 ≤ s.gather.count ∧ c.station = some 4 ∧ s.link.notices = [] ∧
      s.link.state ≠ .muted ∧ s.link.tx.length < 8 ∧ s.link.straps.station ≠ 4) ∧
    (cursor.sweepSet.get 5 = true ∧ (4 : StationNo) < 5 ∧ (∀ j : StationNo, 4 < j → j < 5 →
      cursor.sweepSet.get j = false) ∧ (5 : StationNo) ≠ online.link.straps.station) ∧
    (∀ s ∈ [planned, header (fun h => { h with gatherStation := some 0, gatherSet := setAt h.gatherSet 4 true })
      planned, header (fun h => { h with gatherStation := some 0 }) (sweeping cursor online)],
      ∀ t ∈ [queued seven (s.modGather fun g => { g with onFinish := some (100, 5), count := 100 })],
      t.gather.onFinish = some (100, 5) ∧ 100 ≤ t.gather.count ∧ t.link.notices = [] ∧ t.link.state ≠ .muted ∧
      t.link.tx.length < 8) ∧
    (∀ s ∈ [header (fun h => { h with gatherStation := some 0, gatherSet := setAt h.gatherSet 4 true }) planned],
      s.plan.items.header.gatherStation = some s.link.straps.station ∧ s.gather.state = .idle ∧
      s.plan.items.header.gatherSet.get 4 = true ∧ (∀ j : StationNo, j < 4 →
      s.plan.items.header.gatherSet.get j = false) ∧ (4 : StationNo) ≠ s.link.straps.station ∧
      planned.plan.items.header.gatherStation ≠ some planned.link.straps.station) ∧
    (∀ c x, (sweeping { cursor with deadline := some 101, repeatAt := some 101 } online).gather.cursor = some c →
      c.deadline = some x → (sweeping { cursor with deadline := some 101, repeatAt := some 101 } online).gather.count
      < x) ∧
    (∀ s ∈ [header (fun h => { h with gatherStation := some 0 }) planned],
      s.plan.items.header.gatherStation = some s.link.straps.station ∧ s.gather.state = .idle ∧ ∀ j : StationNo,
      s.plan.items.header.gatherSet.get j = false) :=
  ⟨by decide +kernel,
   by decide +kernel,
   by decide +kernel,
   by decide +kernel,
   by
     intro c x hc hx
     obtain rfl : { cursor with deadline := some 101, repeatAt := some 101 } = c := Option.some.inj hc
     obtain rfl : 101 = x := Option.some.inj hx
     decide +kernel,
   by decide +kernel⟩

/-- Terms disabled, resolved and not; and a report with the entry, without it, and full. -/
theorem meets_mergingRecordsAndTerms :
    (∀ e ∈ ([{ origin := 4, index := 0, kind := 1, time := 70, contents := [] }] : List (ReportEntry)),
      (mergeEntry e Report.initial).entries = [e] ∧ ∃ x ∈ (mergeEntry e Report.initial).entries, x.origin = e.origin ∧
      x.index = e.index) ∧
    (ReportTerm.initial.enabled = false ∧ { ReportTerm.initial with enabled := true }.enabled = true ∧
      resolve Selector.initial Report.initial = none) ∧
    (∀ e ∈ ([{ origin := 4, index := 0, kind := 1, time := 70, contents := [] }] : List (ReportEntry)),
      ∀ r ∈ ([{ Report.initial with entries := [e], status := Vector.replicate 16 .complete }] : List (Report)),
      resolve { station := 4, event := .inputOperate 0, occurrence := 1 }
      { r with entries := [{ e with kind := 0, contents := [8] ++ bytes4 70 }] } ≠ none) ∧
    (ReportOk State.reset ∧ ReportOk ((reportOf 512).withPending [])) ∧
    (1 ≤ ({ station := 4, event := .inputOperate 0, occurrence := 1 } : Selector).occurrence ∧
      Report.initial.status.get 4 ≠ .complete) :=
  ⟨by decide +kernel,
   by decide +kernel,
   by decide +kernel,
   ⟨by simp only [ReportOk]; exact ⟨by decide, List.Pairwise.nil, List.Pairwise.nil⟩, reportOf_ok 512 (by decide) _⟩,
   by decide +kernel⟩

/-- An ARMED run about to take a command. -/
theorem meets_stepKeepsTheRunInvariant :
    (RunInvariant (armed.withPending [.supplyFailDeasserted])) ∧
    (∃ t, step (armed.withPending [.supplyFailDeasserted]) = .next t) :=
  ⟨armed_invariant _ (.inr rfl),
   ⟨_, rfl⟩⟩

/-- A full queue, and a MUTED station, about to take a command. -/
theorem meets_stepKeepsTheQueues :
    (∀ s ∈ [queued eight online, online.modLink fun l => { l with state := .muted }],
      QueuesOk (s.withPending [.supplyFailDeasserted]) ∧ Quiet (s.withPending [.supplyFailDeasserted])) ∧
    (∃ t, step ((queued eight online).withPending [.supplyFailDeasserted]) = .next t) :=
  ⟨by simp only [Quiet, queuesOk_iff]; decide +kernel,
   ⟨_, rfl⟩⟩

/-- A full report about to take a command. -/
theorem meets_stepKeepsTheReport :
    (ReportOk ((reportOf 512).withPending [.supplyFailDeasserted])) ∧
    (∃ t, step ((reportOf 512).withPending [.supplyFailDeasserted]) = .next t) :=
  ⟨reportOf_ok 512 (by decide) _,
   ⟨_, rfl⟩⟩

/-- The default items with one state defined, held by an ARMED run. -/
theorem meets_stepKeepsThePlan :
    (PlanInRange (armed.withPending [.supplyFailDeasserted])) ∧
    (∃ t, step (armed.withPending [.supplyFailDeasserted]) = .next t ∧ t.runActive = true) ∧
    (PlanHeld (armed.withPending [.supplyFailDeasserted]) ∧ armed.runActive = true) :=
  ⟨planInRange_armed,
   ⟨_, rfl, rfl⟩,
   ⟨fun _ => rfl, rfl⟩⟩

/-- A RUNNING run at the clock limit with its breaker open. -/
theorem meets_stepKeepsTheBlockShapes :
    (∀ s ∈ [at_ 3600000000 ((amp .ready running).modBreaker fun b => { b with state := .opened })], CodesBounded s ∧
      ClockBounded s ∧ GatherShape s ∧ AmplifierShape s ∧ BreakerShape s ∧ Quiet s) ∧
    (∃ t, step (running.withPending [.supplyFailDeasserted]) = .next t) :=
  ⟨by simp only [Quiet, GatherShape, CodesBounded, ClockBounded, AmplifierShape, BreakerShape]; decide +kernel,
   ⟨_, rfl⟩⟩

/-- The amplifier-present strap HIGH. -/
theorem meets_powerOnResetTakesEveryBlock :
    ({ allPinsLow with amplifierPresent := true } : PinSample).amplifierPresent = true :=
  by decide +kernel

/-- A state with no command waiting. -/
theorem meets_resetMeetsEveryInvariant :
    running.pending = [] :=
  by decide +kernel

end Sys2Proof.Tests
end

section
/-! The result store: what appending, releasing and marking a label do to the held-label table, to the chains and to the
free capacity (R150 to R161), so that Laws 6 to 8 are kept. -/

namespace Sys2Proof.Proofs

open Sys2Proof.Machine Sys2Proof.Safety

/-! ### The held-label table -/

/-- The labels of the table, in its order. -/
def labelsOf (st : Store) : List Label := st.heldLabels.map (·.label)

theorem isHeld_iff (st : Store) (l : Label) : isHeld st l = true ↔ l ∈ labelsOf st := by
  simp [isHeld, findLabel, labelsOf]

theorem findLabel_mem {st : Store} {l : Label} {h : HeldLabel} (e : findLabel st l = some h) :
    h ∈ st.heldLabels ∧ h.label = l :=
  ⟨List.mem_of_find?_eq_some e, by simpa using List.find?_some e⟩

/-- Two entries of one label are one entry. -/
theorem eq_of_label_eq {st : Store} (hd : st.heldLabels.Pairwise fun a b => a.label ≠ b.label) {x h : HeldLabel}
    (hx : x ∈ st.heldLabels) (hh : h ∈ st.heldLabels) (e : x.label = h.label) : x = h :=
  List.inj_on_of_nodup_map (List.pairwise_map.2 hd) hx hh e

theorem findLabel_none {st : Store} {l : Label} (e : findLabel st l = none) : ∀ x ∈ st.heldLabels, x.label ≠ l := by
  simpa [findLabel] using e

/-- A label's entry stands at one place of the table, and `setHeld` replaces it there. -/
theorem setHeld_split {st : Store} (hd : st.heldLabels.Pairwise fun a b => a.label ≠ b.label) {l : Label}
    {h h' : HeldLabel}
    (e : findLabel st l = some h) (hl : h'.label = l) :
    ∃ p q, st.heldLabels = p ++ [h] ++ q ∧ (setHeld st h').heldLabels = p ++ h' :: q ∧ ∀ x ∈ p ++ q, x.label ≠ l := by
  obtain ⟨hm, hlabel⟩ := findLabel_mem e
  obtain ⟨p, q, hpq⟩ := List.append_of_mem hm
  have hne : ∀ x ∈ p ++ q, x.label ≠ l := by
    rw [hpq, List.pairwise_append, List.pairwise_cons] at hd
    obtain ⟨-, ⟨hq, -⟩, hp⟩ := hd
    intro x hx
    rcases List.mem_append.1 hx with hx | hx
    · simpa [hlabel] using hp x hx h (by simp)
    · simpa [hlabel, eq_comm] using hq x hx
  have hkeep : ∀ (xs : List HeldLabel), (∀ x ∈ xs, x.label ≠ l) →
      xs.map (fun x => if x.label == h'.label then h' else x) = xs := fun xs hxs =>
    (List.map_congr_left (g := id) fun x hx => by simp [hl, hxs x hx]).trans (List.map_id xs)
  refine ⟨p, q, by simpa using hpq, ?_, hne⟩
  simp only [setHeld, hpq, List.map_append, List.map_cons]
  rw [hkeep p fun x hx => hne x (by simp [hx]), hkeep q fun x hx => hne x (by simp [hx])]
  simp [hl, hlabel]

theorem labelsOf_setHeld (st : Store) (h : HeldLabel) : labelsOf (setHeld st h) = labelsOf st := by
  simp only [labelsOf, setHeld, List.map_map]
  refine List.map_congr_left fun x _ => ?_
  by_cases hx : x.label = h.label <;> simp [hx]

/-! ### Chains and the table's laws -/

theorem chainOk_congr {st st' : Store} {h : HeldLabel} (same : ∀ b ∈ h.chain, st'.blocks.get b = st.blocks.get b)
    (ok : ChainOk st h) : ChainOk st' h := by
  obtain ⟨hne, hown, hlink, hlo, hhi⟩ := ok
  refine ⟨hne, fun b hb => by rw [same b hb]; exact hown b hb, fun k hk => ?_, hlo, hhi⟩
  obtain ⟨b, hb, hrest⟩ := hlink k hk
  exact ⟨b, hb, by rw [same b (List.mem_of_getElem? hb)]; exact hrest⟩

/-- The store's laws stand when one label's entry `h'` is put in the place of `old` (its former entry, or nothing), with
a chain that goes on from the former one by FREE blocks, and no block outside that chain is touched. -/
theorem storeOk_of_replaced {st st' : Store} {p old q : List HeldLabel} {h' : HeldLabel} {extra : List BlockNo}
    (hs : StoreOk st) (e : st.heldLabels = p ++ old ++ q) (e' : st'.heldLabels = p ++ h' :: q)
    (hl : ∀ x ∈ p ++ q, x.label ≠ h'.label) (hc : h'.chain = old.flatMap (·.chain) ++ extra)
    (hfree : ∀ b ∈ extra, (st.blocks.get b).owner = none) (hextra : extra.Nodup)
    (same : ∀ b, b ∉ h'.chain → st'.blocks.get b = st.blocks.get b) (ok : ChainOk st' h') : StoreOk st' := by
  obtain ⟨hch, hpw, hnd, hown, hfr⟩ := hs
  have hnew : ∀ b ∈ extra, b ∉ st.heldLabels.flatMap (·.chain) := fun b hb hmem => by
    obtain ⟨l, hl⟩ := (hown b).2 hmem
    simp [hfree b hb] at hl
  have hperm : (st'.heldLabels.flatMap (·.chain)).Perm (st.heldLabels.flatMap (·.chain) ++ extra) := by
    rw [e, e']
    simp only [List.flatMap_append, List.flatMap_cons, hc, List.append_assoc]
    exact (List.Perm.append_left _ (List.Perm.append_left _ List.perm_append_comm))
  have hnd' : (st'.heldLabels.flatMap (·.chain)).Nodup := by
    rw [hperm.nodup_iff, List.nodup_append']
    exact ⟨hnd, hextra, fun b hb hx => hnew b hx hb⟩
  refine ⟨fun x hx => ?_, ?_, hnd', fun b => ?_, fun b hb => ?_⟩
  · by_cases hx' : x ∈ p ++ q
    · refine chainOk_congr (fun b hb => same b fun hb' => ?_) (hch x (by rw [e]; simp at hx' ⊢; tauto))
      rw [e', List.flatMap_append, List.flatMap_cons, List.nodup_append', List.nodup_append'] at hnd'
      obtain ⟨-, ⟨-, -, hdq⟩, hdp⟩ := hnd'
      rcases List.mem_append.1 hx' with hxp | hxq
      · exact hdp (List.mem_flatMap.2 ⟨x, hxp, hb⟩) (List.mem_append_left _ hb')
      · exact hdq hb' (List.mem_flatMap.2 ⟨x, hxq, hb⟩)
    · obtain rfl : x = h' := by rw [e'] at hx; simp at hx hx'; tauto
      exact ok
  · rw [e, List.append_assoc, List.pairwise_append, List.pairwise_append] at hpw
    obtain ⟨hp, ⟨-, hq, -⟩, hpq⟩ := hpw
    rw [e', List.pairwise_append, List.pairwise_cons]
    refine ⟨hp, ⟨fun y hy => (hl y (by simp [hy])).symm, hq⟩, fun x hx y hy => ?_⟩
    rcases List.mem_cons.1 hy with rfl | hy
    · exact hl x (by simp [hx])
    · exact hpq x hx y (by simp [hy])
  · rw [hperm.mem_iff, List.mem_append]
    by_cases hb : b ∈ h'.chain
    · exact ⟨fun _ => by
        rw [hc] at hb
        rcases List.mem_append.1 hb with hb | hb
        · left; rw [e]; simp only [List.flatMap_append, List.mem_append]; tauto
        · exact .inr hb, fun _ => ⟨_, ok.2.1 b hb⟩⟩
    · rw [same b hb, hown b]
      exact ⟨.inl, fun h => h.resolve_right fun hx => hb (by simp [hc, hx])⟩
  · have hb' : b ∉ h'.chain := fun hm => by simp [ok.2.1 b hm] at hb
    rw [same b hb'] at hb ⊢
    exact hfr b hb

/-! ### Blocks and capacity -/

theorem modAt_get {α : Type} {n : Nat} (v : Vector α n) (i j : Fin n) (f : α → α) :
    (modAt v i f).get j = if j = i then f (v.get i) else v.get j := setAt_get _ _ _ _

theorem mem_freeBlocks (st : Store) (b : BlockNo) : b ∈ freeBlocks st ↔ (st.blocks.get b).owner = none := by
  simp [freeBlocks]

/-- The FREE blocks are counted by their owners alone. -/
theorem freeBlocks_congr {st st' : Store} (h : ∀ b, (st'.blocks.get b).owner = (st.blocks.get b).owner) :
    freeBlocks st' = freeBlocks st := List.filter_congr fun b _ => by rw [h b]

/-- A FREE block taken is one FREE block less. -/
theorem freeBlocks_length_of_taken {st st' : Store} {n : BlockNo} (hn : n ∈ freeBlocks st)
    (hn' : (st'.blocks.get n).owner ≠ none)
    (h : ∀ b, b ≠ n → (st'.blocks.get b).owner = (st.blocks.get b).owner) :
    (freeBlocks st').length + 1 = (freeBlocks st).length := by
  have hnd : ∀ x : Store, (freeBlocks x).Nodup := fun x => (List.nodup_finRange 96).filter _
  have hp : (freeBlocks st').Perm ((freeBlocks st).erase n) := by
    refine (List.perm_ext_iff_of_nodup (hnd _) ((hnd _).erase _)).2 fun b => ?_
    rw [(hnd st).mem_erase_iff, mem_freeBlocks, mem_freeBlocks]
    by_cases hb : b = n
    · subst hb; simp [hn']
    · simp [hb, h b hb]
  have := List.length_pos_of_mem hn
  rw [hp.length_eq, List.length_erase_of_mem hn]
  omega

/-- The chain's last block: where it stands, whose it is, what it is linked to and how full it is. -/
theorem ChainOk.tail {st : Store} {h : HeldLabel} (ok : ChainOk st h) :
    ∃ b, h.chain.getLast? = some b ∧ b ∈ h.chain ∧ h.chain[h.chain.length - 1]? = some b ∧
      (st.blocks.get b).owner = some h.label ∧
      (st.blocks.get b).records.length + 8 * (h.chain.length - 1) = h.count ∧
      0 < h.chain.length ∧ h.count ≤ 8 * h.chain.length := by
  obtain ⟨hne, hown, hlink, hlo, hhi⟩ := ok
  have hpos : 0 < h.chain.length := List.length_pos_of_ne_nil hne
  obtain ⟨b, hb, -, hlen, -⟩ := hlink (h.chain.length - 1) (by omega)
  refine ⟨b, by rw [List.getLast?_eq_getElem?, hb], List.mem_of_getElem? hb, hb, hown b (List.mem_of_getElem? hb), ?_,
    hpos, hhi⟩
  omega

theorem tailRoom_of_held {st : Store} {l : Label} {h : HeldLabel} (e : findLabel st l = some h) (ok : ChainOk st h) :
    tailRoom st l = 8 * h.chain.length - h.count := by
  obtain ⟨b, hlast, -, -, -, hlen, hpos, hhi⟩ := ChainOk.tail ok
  have h8 : 8 - (st.blocks.get b).records.length = 8 * h.chain.length - h.count := by omega
  simpa [tailRoom, e, hlast, Config.blockRecords] using h8

theorem tailRoom_of_not_held {st : Store} {l : Label} (e : findLabel st l = none) : tailRoom st l = 0 := by
  simp [tailRoom, e]

/-! ### Appending (R155) -/

/-- The record that an append under a label writes, at the label's next index. -/
def nextRecord (h : HeldLabel) (time : Instant) (c : Contents) : Record :=
  { index := h.count, time := time, contents := c }

/-- An append under a held label with an empty place in its tail block. -/
theorem appendTo_in_tail {st : Store} {l : Label} {h : HeldLabel} (time : Instant) (c : Contents)
    (e : findLabel st l = some h) (hroom : 0 < tailRoom st l) {b : BlockNo} (hb : h.chain.getLast? = some b) :
    appendTo l time c st = addToBlock b (nextRecord h time c) (setHeld st { h with count := h.count + 1 }) := by
  simp [appendTo, e, hroom, hb, nextRecord]

/-- An append under a held label whose tail block is full takes the lowest FREE block and links it behind the tail. -/
theorem appendTo_new_block {st : Store} {l : Label} {h : HeldLabel} (time : Instant) (c : Contents)
    (e : findLabel st l = some h) (hroom : tailRoom st l = 0) {b n : BlockNo} (hb : h.chain.getLast? = some b)
    {rest : List BlockNo} (hn : freeBlocks st = n :: rest) :
    appendTo l time c st =
      setHeld
        { st with
          blocks := setAt (modAt st.blocks b fun x => { x with next := some n }) n
            { owner := some l, next := none, records := [nextRecord h time c] } }
        { h with count := h.count + 1, chain := h.chain ++ [n] } := by
  simp [appendTo, e, hroom, hb, hn, nextRecord]

/-- An append under a label not held takes the lowest FREE block and holds the label. -/
theorem appendTo_new_label {st : Store} {l : Label} (time : Instant) (c : Contents) (e : findLabel st l = none)
    {n : BlockNo} {rest : List BlockNo} (hn : freeBlocks st = n :: rest) :
    appendTo l time c st =
      { st with
        blocks := setAt st.blocks n
          { owner := some l, next := none, records := [{ index := 0, time := time, contents := c }] }
        heldLabels := st.heldLabels ++ [{ label := l, chain := [n], count := 1, endState := .opened }] } := by
  simp [appendTo, e, hn]

theorem appendTo_reserve (l : Label) (time : Instant) (c : Contents) (st : Store) :
    (appendTo l time c st).reserve = st.reserve := by
  unfold appendTo
  (repeat' split) <;> rfl

/-- What a successful append does to the store: its laws are kept, the table gets the label where it was not held, and
the label sees one free record place less. -/
structure AppendOk (l : Label) (st st' : Store) : Prop where
  store : StoreOk st'
  labels : labelsOf st' = if isHeld st l then labelsOf st else labelsOf st ++ [l]
  capacity : freeCapacity st' l + 1 = freeCapacity st l
  held : isHeld st' l = true

theorem findLabel_of_mem {st : Store} (hd : st.heldLabels.Pairwise fun a b => a.label ≠ b.label) {l : Label}
    {h : HeldLabel} (hm : h ∈ st.heldLabels) (hl : h.label = l) : findLabel st l = some h := by
  cases e : findLabel st l with
  | none => exact absurd hl (findLabel_none e h hm)
  | some x =>
    obtain ⟨hx, hxl⟩ := findLabel_mem e
    rw [eq_of_label_eq hd hx hm (hxl.trans hl.symm)]

/-- The free capacity that a held label sees, by its entry. -/
theorem freeCapacity_of_mem {st : Store} (hs : StoreOk st) {h : HeldLabel} (hm : h ∈ st.heldLabels) :
    freeCapacity st h.label = 8 * (freeBlocks st).length + (8 * h.chain.length - h.count) := by
  rw [freeCapacity, tailRoom_of_held (findLabel_of_mem hs.2.1 hm rfl) (hs.1 h hm), Nat.mul_comm]
  rfl

theorem StoreOk.chain_nodup {st : Store} (hs : StoreOk st) {h : HeldLabel} (hm : h ∈ st.heldLabels) : h.chain.Nodup :=
  (List.nodup_flatMap.1 hs.2.2.1).1 h hm

/-- Blocks that are no tail hold 8 records, so a record added to the tail block leaves the chain in order. -/
theorem chainOk_in_tail {st st' : Store} {h : HeldLabel} {b : BlockNo} (time : Instant) (c : Contents)
    (ok : ChainOk st h)
    (hnd : h.chain.Nodup) (hlast : h.chain[h.chain.length - 1]? = some b) (hroom : h.count < 8 * h.chain.length)
    (hb : st'.blocks.get b = { st.blocks.get b with records := (st.blocks.get b).records ++ [nextRecord h time c] })
    (same : ∀ x, x ≠ b → st'.blocks.get x = st.blocks.get x) : ChainOk st' { h with count := h.count + 1 } := by
  obtain ⟨hne, hown, hlink, hlo, hhi⟩ := ok
  refine ⟨hne, fun x hx => ?_, fun k hk => ?_, by simp only; omega, by simp only; omega⟩
  · by_cases hxb : x = b
    · subst hxb; rw [hb]; exact hown x hx
    · rw [same x hxb]; exact hown x hx
  · obtain ⟨x, hx, hnext, hlen, hidx⟩ := hlink k hk
    refine ⟨x, hx, ?_⟩
    simp only at hk ⊢
    by_cases hxb : x = b
    · subst hxb
      obtain rfl : k = h.chain.length - 1 := (List.getElem?_inj hk hnd).1 (hx.trans hlast.symm)
      rw [hb]
      refine ⟨hnext, by simp only [List.length_append, List.length_singleton]; omega, fun j r hr => ?_⟩
      rcases Nat.lt_or_ge j (st.blocks.get x).records.length with hj | hj
      · exact hidx j r (by rwa [List.getElem?_append_left hj] at hr)
      · simp only [List.getElem?_append_right hj, List.getElem?_singleton] at hr
        split at hr
        · obtain rfl := Option.some.inj hr
          simp only [nextRecord]; omega
        · cases hr
    · have hk' : k ≠ h.chain.length - 1 := fun hk' => hxb (by
        rw [hk', hlast] at hx; exact (Option.some.inj hx).symm)
      rw [same x hxb]
      exact ⟨hnext, by omega, hidx⟩

theorem appendOk_in_tail {st : Store} {l : Label} {h : HeldLabel} (time : Instant) (c : Contents) (hs : StoreOk st)
    (e : findLabel st l = some h) (hroom : 0 < tailRoom st l) : AppendOk l st (appendTo l time c st) := by
  obtain ⟨hm, rfl⟩ := findLabel_mem e
  have ok := hs.1 h hm
  obtain ⟨b, hlast, hmem, hat, hown, hlen, hpos, hhi⟩ := ChainOk.tail ok
  rw [tailRoom_of_held e ok] at hroom
  rw [appendTo_in_tail time c e (by rw [tailRoom_of_held e ok]; exact hroom) hlast]
  set h' : HeldLabel := { h with count := h.count + 1 }
  set st' := addToBlock b (nextRecord h time c) (setHeld st h')
  have hget : ∀ x, st'.blocks.get x =
      if x = b then { st.blocks.get b with records := (st.blocks.get b).records ++ [nextRecord h time c] }
      else st.blocks.get x := fun x => modAt_get _ _ _ _
  have hcap := freeCapacity_of_mem hs hm
  obtain ⟨p, q, hpq, hpq', hne⟩ := setHeld_split hs.2.1 e (h' := h') rfl
  have hok' : StoreOk st' := by
    refine storeOk_of_replaced (extra := []) hs hpq hpq' hne (by simp [h']) (by simp) List.nodup_nil
      (fun x hx => by rw [hget, if_neg (ne_of_mem_of_not_mem hmem hx).symm])
      (chainOk_in_tail time c ok (StoreOk.chain_nodup hs hm) hat (by omega) (by rw [hget, if_pos rfl])
        fun x hx => by rw [hget, if_neg hx])
  have hm' : h' ∈ st'.heldLabels := by
    show h' ∈ (setHeld st h').heldLabels
    rw [hpq']; simp
  have hlab : labelsOf st' = labelsOf st := labelsOf_setHeld st h'
  refine ⟨hok', by simp [hlab, isHeld, e], ?_, by rw [isHeld_iff, hlab, ← isHeld_iff]; simp [isHeld, e]⟩
  have hcap' := freeCapacity_of_mem hok' hm'
  have hfree : freeBlocks st' = freeBlocks st := freeBlocks_congr fun x => by
    rw [hget]; split <;> simp_all
  simp only [h', hfree] at hcap'
  omega

/-- A FREE block linked behind a full chain, with the label's next record alone in it, leaves the chain in order. -/
theorem chainOk_new_block {st st' : Store} {h : HeldLabel} {b n : BlockNo} (time : Instant) (c : Contents)
    (ok : ChainOk st h) (hnd : h.chain.Nodup) (hlast : h.chain[h.chain.length - 1]? = some b)
    (hfull : h.count = 8 * h.chain.length) (hn : n ∉ h.chain)
    (hnew : st'.blocks.get n = { owner := some h.label, next := none, records := [nextRecord h time c] })
    (hb : st'.blocks.get b = { st.blocks.get b with next := some n })
    (same : ∀ x, x ≠ b → x ≠ n → st'.blocks.get x = st.blocks.get x) :
    ChainOk st' { h with count := h.count + 1, chain := h.chain ++ [n] } := by
  obtain ⟨hne, hown, hlink, hlo, hhi⟩ := ok
  have hpos : 0 < h.chain.length := List.length_pos_of_ne_nil hne
  have hkeep : ∀ x ∈ h.chain, (st'.blocks.get x).owner = (st.blocks.get x).owner ∧
      (st'.blocks.get x).records = (st.blocks.get x).records := fun x hx => by
    by_cases hxb : x = b
    · subst hxb; rw [hb]; exact ⟨rfl, rfl⟩
    · rw [same x hxb fun hxn => hn (hxn ▸ hx)]; exact ⟨rfl, rfl⟩
  refine ⟨by simp, fun x hx => ?_, fun k hk => ?_, by simp; omega, by simp; omega⟩
  · rcases List.mem_append.1 hx with hx | hx
    · rw [(hkeep x hx).1]; exact hown x hx
    · obtain rfl := List.mem_singleton.1 hx
      rw [hnew]
  · simp only [List.length_append, List.length_singleton] at hk ⊢
    rcases Nat.lt_or_ge k h.chain.length with hk' | hk'
    · obtain ⟨x, hx, hnext, hlen, hidx⟩ := hlink k hk'
      obtain ⟨-, hrec⟩ := hkeep x (List.mem_of_getElem? hx)
      refine ⟨x, by rw [List.getElem?_append_left hk', hx], ?_, by rw [hrec]; omega, by rw [hrec]; exact hidx⟩
      by_cases hxb : x = b
      · subst hxb
        obtain rfl : k = h.chain.length - 1 := (List.getElem?_inj hk' hnd).1 (hx.trans hlast.symm)
        rw [hb, List.getElem?_append_right (by omega), show h.chain.length - 1 + 1 - h.chain.length = 0 by omega]
        rfl
      · have hk2 : k ≠ h.chain.length - 1 := fun hk2 => hxb (by
          rw [hk2, hlast] at hx; exact (Option.some.inj hx).symm)
        rw [same x hxb fun hxn => hn (hxn ▸ List.mem_of_getElem? hx), hnext, List.getElem?_append_left (by omega)]
    · obtain rfl : k = h.chain.length := by omega
      refine ⟨n, by simp, ?_⟩
      rw [hnew]
      refine ⟨by simp, by simp; omega, fun j r hr => ?_⟩
      rcases j with _ | j
      · obtain rfl := Option.some.inj hr
        simp [nextRecord, hfull]
      · cases hr

theorem appendOk_new_block {st : Store} {l : Label} {h : HeldLabel} (time : Instant) (c : Contents) (hs : StoreOk st)
    (e : findLabel st l = some h) (hroom : tailRoom st l = 0) {n : BlockNo} {rest : List BlockNo}
    (hn : freeBlocks st = n :: rest) : AppendOk l st (appendTo l time c st) := by
  obtain ⟨hm, rfl⟩ := findLabel_mem e
  have ok := hs.1 h hm
  obtain ⟨b, hlast, hmem, hat, hown, hlen, hpos, hhi⟩ := ChainOk.tail ok
  rw [appendTo_new_block time c e hroom hlast hn]
  rw [tailRoom_of_held e ok] at hroom
  set h' : HeldLabel := { h with count := h.count + 1, chain := h.chain ++ [n] }
  set st' := setHeld
    { st with
      blocks := setAt (modAt st.blocks b fun x => { x with next := some n }) n
        { owner := some h.label, next := none, records := [nextRecord h time c] } } h'
  have hnfree : (st.blocks.get n).owner = none := (mem_freeBlocks st n).1 (by simp [hn])
  have hnb : ∀ x ∈ h.chain, x ≠ n := fun x hx hxn => by simp [← hxn, ok.2.1 x hx] at hnfree
  have hget : ∀ x, st'.blocks.get x =
      if x = n then { owner := some h.label, next := none, records := [nextRecord h time c] }
      else if x = b then { st.blocks.get b with next := some n } else st.blocks.get x := fun x => by
    show (setAt (modAt st.blocks b _) n _).get x = _
    rw [setAt_get, modAt_get]
  have hcap := freeCapacity_of_mem hs hm
  obtain ⟨p, q, hpq, hpq', hne⟩ := setHeld_split hs.2.1 e (h' := h') rfl
  have hok' : StoreOk st' := by
    refine storeOk_of_replaced (extra := [n]) hs hpq hpq' hne (by simp [h']) (by simpa using hnfree)
      (List.nodup_singleton n) (fun x hx => ?_)
      (chainOk_new_block time c ok (StoreOk.chain_nodup hs hm) hat (by omega) (fun hx => hnb n hx rfl)
        (by rw [hget, if_pos rfl]) (by rw [hget, if_neg (hnb b hmem), if_pos rfl])
        fun x hxb hxn => by rw [hget, if_neg hxn, if_neg hxb])
    simp only [h', List.mem_append, List.mem_singleton, not_or] at hx
    rw [hget, if_neg hx.2, if_neg (ne_of_mem_of_not_mem hmem hx.1).symm]
  have hm' : h' ∈ st'.heldLabels := by
    show h' ∈ (setHeld st h').heldLabels
    rw [hpq']; simp
  have hlab : labelsOf st' = labelsOf st := labelsOf_setHeld st h'
  refine ⟨hok', by simp [hlab, isHeld, e], ?_, by rw [isHeld_iff, hlab, ← isHeld_iff]; simp [isHeld, e]⟩
  have hcap' := freeCapacity_of_mem hok' hm'
  have hfree : (freeBlocks st').length + 1 = (freeBlocks st).length := by
    refine freeBlocks_length_of_taken (n := n) (by simp [hn]) (by rw [hget, if_pos rfl]; simp) fun x hx => ?_
    rw [hget, if_neg hx]; split <;> simp_all
  simp only [h', List.length_append, List.length_singleton] at hcap'
  omega

theorem appendOk_new_label {st : Store} {l : Label} (time : Instant) (c : Contents) (hs : StoreOk st)
    (e : findLabel st l = none) {n : BlockNo} {rest : List BlockNo} (hn : freeBlocks st = n :: rest) :
    AppendOk l st (appendTo l time c st) := by
  rw [appendTo_new_label time c e hn]
  set h' : HeldLabel := { label := l, chain := [n], count := 1, endState := .opened }
  set b' : StoreBlock := { owner := some l, next := none, records := [{ index := 0, time := time, contents := c }] }
  set st' : Store := { st with blocks := setAt st.blocks n b', heldLabels := st.heldLabels ++ [h'] }
  have hnfree : (st.blocks.get n).owner = none := (mem_freeBlocks st n).1 (by simp [hn])
  have hget : ∀ x, st'.blocks.get x = if x = n then b' else st.blocks.get x := fun x => setAt_get _ _ _ _
  have hchain : ChainOk st' h' := by
    refine ⟨by simp [h'], fun x hx => ?_, fun k hk => ?_, by simp [h'], by simp [h']⟩
    · obtain rfl := List.mem_singleton.1 hx
      rw [hget, if_pos rfl]
    · obtain rfl : k = 0 := by simpa [h'] using hk
      refine ⟨n, rfl, ?_⟩
      rw [hget, if_pos rfl]
      refine ⟨rfl, rfl, fun j r hr => ?_⟩
      rcases j with _ | j
      · obtain rfl := Option.some.inj hr; rfl
      · cases hr
  have hok' : StoreOk st' :=
    storeOk_of_replaced (p := st.heldLabels) (old := []) (q := []) (extra := [n]) hs (by simp) rfl
      (by simpa using findLabel_none e) rfl (by simpa using hnfree) (List.nodup_singleton n)
      (fun x hx => by rw [hget, if_neg fun hxn => hx (by simp [hxn, h'])]) hchain
  have hm' : h' ∈ st'.heldLabels := by simp [st']
  have hlab : labelsOf st' = labelsOf st ++ [l] := by simp [labelsOf, st', h']
  refine ⟨hok', by simp [hlab, isHeld, e], ?_, by rw [isHeld_iff, hlab]; simp⟩
  have hcap' := freeCapacity_of_mem hok' hm'
  have hfree : (freeBlocks st').length + 1 = (freeBlocks st).length := by
    refine freeBlocks_length_of_taken (n := n) (by simp [hn]) (by rw [hget, if_pos rfl]; simp [b']) fun x hx => ?_
    rw [hget, if_neg hx]
  simp only [h', List.length_singleton] at hcap'
  simp only [freeCapacity, tailRoom_of_not_held e, Config.blockRecords] at hcap' ⊢
  omega

/-- An append that has a place to go (R155). -/
theorem appendOk {st : Store} {l : Label} (time : Instant) (c : Contents) (hs : StoreOk st)
    (hroom : hasRoom st l = true) :
    AppendOk l st (appendTo l time c st) := by
  simp only [hasRoom, Bool.or_eq_true, decide_eq_true_eq, Bool.not_eq_true', List.isEmpty_eq_false_iff] at hroom
  cases e : findLabel st l with
  | some h =>
    rcases Nat.eq_zero_or_pos (tailRoom st l) with h0 | hpos
    · obtain ⟨n, rest, hn⟩ := List.exists_cons_of_ne_nil (hroom.resolve_left (by omega))
      exact appendOk_new_block time c hs e h0 hn
    · exact appendOk_in_tail time c hs e hpos
  | none =>
    obtain ⟨n, rest, hn⟩ := List.exists_cons_of_ne_nil (hroom.resolve_left (by simp [tailRoom_of_not_held e]))
    exact appendOk_new_label time c hs e hn

/-- A label that sees free capacity has room (R150, R155). -/
theorem hasRoom_of_capacity {st : Store} {l : Label} (h : 0 < freeCapacity st l) : hasRoom st l = true := by
  by_contra hr
  obtain ⟨ht, hf⟩ : tailRoom st l = 0 ∧ freeBlocks st = [] := by simpa [hasRoom] using hr
  simp [freeCapacity, ht, hf] at h

/-! ### The end state of a label (R151) -/

theorem storeOk_endState {st : Store} (hs : StoreOk st) {l : Label} {h : HeldLabel} (e : findLabel st l = some h)
    (x : EndState) : StoreOk (setHeld st { h with endState := x }) := by
  obtain ⟨hm, rfl⟩ := findLabel_mem e
  obtain ⟨p, q, hpq, hpq', hne⟩ := setHeld_split hs.2.1 e (h' := { h with endState := x }) rfl
  exact storeOk_of_replaced (extra := []) hs hpq hpq' hne (by simp) (by simp) List.nodup_nil (fun _ _ => rfl)
    (hs.1 h hm)

/-! ### Release (R161) -/

theorem foldl_setAt_get {α : Type} {n : Nat} (bs : List (Fin n)) (v : Vector α n) (x : α) (j : Fin n) :
    (bs.foldl (fun v b => setAt v b x) v).get j = if j ∈ bs then x else v.get j := by
  induction bs generalizing v with
  | nil => simp
  | cons b bs ih =>
    rw [List.foldl_cons, ih, setAt_get]
    by_cases hj : j = b <;> by_cases hjs : j ∈ bs <;> simp [hj, hjs]

theorem releaseLabel_get (h : HeldLabel) (st : Store) (b : BlockNo) :
    ((releaseLabel h st).blocks.get b) = if b ∈ h.chain then StoreBlock.free else st.blocks.get b :=
  foldl_setAt_get _ _ _ _

theorem mem_releaseLabel (h x : HeldLabel) (st : Store) :
    x ∈ (releaseLabel h st).heldLabels ↔ x ∈ st.heldLabels ∧ x.label ≠ h.label := by
  simp [releaseLabel]

/-- The blocks of another label are none of the released ones. -/
theorem releaseLabel_other {st : Store} (hs : StoreOk st) {h x : HeldLabel} (hm : h ∈ st.heldLabels)
    (hx : x ∈ st.heldLabels) (hne : x.label ≠ h.label) :
    ∀ b ∈ x.chain, (releaseLabel h st).blocks.get b = st.blocks.get b := fun b hb => by
  rw [releaseLabel_get, if_neg fun hb' => hne ?_]
  have hxl := (hs.1 x hx).2.1 b hb
  rw [(hs.1 h hm).2.1 b hb'] at hxl
  exact (Option.some.inj hxl).symm

theorem storeOk_release {st : Store} (hs : StoreOk st) {h : HeldLabel} (hm : h ∈ st.heldLabels) :
    StoreOk (releaseLabel h st) := by
  have hsub : (releaseLabel h st).heldLabels.Sublist st.heldLabels := List.filter_sublist
  obtain ⟨hch, hpw, hnd, hown, hfr⟩ := hs
  refine ⟨fun x hx => ?_, hpw.sublist hsub, hnd.sublist (hsub.flatMap _), fun b => ?_, fun b hb => ?_⟩
  · obtain ⟨hx, hne⟩ := (mem_releaseLabel h x st).1 hx
    exact chainOk_congr (releaseLabel_other ⟨hch, hpw, hnd, hown, hfr⟩ hm hx hne) (hch x hx)
  · rw [releaseLabel_get]
    by_cases hb : b ∈ h.chain
    · simp only [if_pos hb, StoreBlock.free, List.mem_flatMap, mem_releaseLabel]
      refine ⟨fun ⟨_, hl⟩ => (nomatch hl), fun ⟨x, ⟨hx, hne⟩, hbx⟩ => absurd ?_ hne⟩
      have hxl := (hch x hx).2.1 b hbx
      rw [(hch h hm).2.1 b hb] at hxl
      exact (Option.some.inj hxl).symm
    · rw [if_neg hb, hown b]
      simp only [List.mem_flatMap, mem_releaseLabel]
      refine ⟨fun ⟨x, hx, hbx⟩ => ⟨x, ⟨hx, fun hl => hb ?_⟩, hbx⟩, fun ⟨x, ⟨hx, _⟩, hbx⟩ => ⟨x, hx, hbx⟩⟩
      exact eq_of_label_eq hpw hx hm hl ▸ hbx
  · rw [releaseLabel_get] at hb ⊢
    split
    · rfl
    · next hb' => exact hfr b (by rwa [if_neg hb'] at hb)

/-- Another label sees no less free capacity after a release. -/
theorem freeCapacity_release {st : Store} (hs : StoreOk st) {h : HeldLabel} (hm : h ∈ st.heldLabels) {l : Label}
    (hl : l ≠ h.label) : freeCapacity st l ≤ freeCapacity (releaseLabel h st) l := by
  have hfree : (freeBlocks st).length ≤ (freeBlocks (releaseLabel h st)).length := by
    refine List.Sublist.length_le (List.monotone_filter_right _ fun b hb => ?_)
    rw [releaseLabel_get]
    split
    · rfl
    · exact hb
  have htail : tailRoom st l ≤ tailRoom (releaseLabel h st) l := by
    cases e : findLabel st l with
    | none => simp [tailRoom_of_not_held e]
    | some x =>
      obtain ⟨hx, rfl⟩ := findLabel_mem e
      have hs' := storeOk_release hs hm
      have hx' : x ∈ (releaseLabel h st).heldLabels := (mem_releaseLabel h x st).2 ⟨hx, hl⟩
      rw [tailRoom_of_held e (hs.1 x hx), tailRoom_of_held (findLabel_of_mem hs'.2.1 hx' rfl) (hs'.1 x hx')]
  exact Nat.add_le_add (Nat.mul_le_mul_right _ hfree) htail

theorem labelsOf_release (h : HeldLabel) (st : Store) :
    labelsOf (releaseLabel h st) = (labelsOf st).filter fun l => l != h.label := by
  simp [labelsOf, releaseLabel, List.filter_map, Function.comp_def]

end Sys2Proof.Proofs
end

section
/-! What the run laws rest on (Laws 4 to 9), apart from the list of notices, as one predicate `RunInv q` of a state and
of a run state `q`. It reads `q` in the place of the engine's own run state, so that it also holds within an abort,
where the run is already called ABORTED while its visit and its bookkeeping still stand. -/

namespace Sys2Proof.Proofs

open Sys2Proof.Machine Sys2Proof.Safety

/-- The run states that hold the plan (R17). -/
def isActive (q : RunState) : Bool := q == .armed || q == .running || q == .ending

/-- The figures of a run that its laws count, with the store. -/
structure Ledger where
  runLabel : Option Label
  visits : Nat
  inVisit : Bool
  pending : Nat
  planState : PlanState
  limit : Nat
  store : Store

/-- The figures of a state. -/
def ledger (s : State) : Ledger where
  runLabel := s.engine.runLabel
  visits := s.engine.visitCount
  inVisit := s.engine.visit.isSome
  pending := s.eval.pendingList.length
  planState := s.plan.state
  limit := s.plan.items.header.visitLimit
  store := s.store

/-- The bookkeeping `r` of a run balances (R151, R156, R158): its label is held or has a place left, the reserve is
there, every visit begun is evaluated, pending or current, and the visits are within the limit. -/
structure Ledger.Balanced (g : Ledger) (r : Reserve) (l : Label) : Prop where
  label : g.runLabel = some l
  labelOk : labelOk l = true
  place : isHeld g.store l = false → (labelsOf g.store).length ≤ 7
  reserve : requiredReserve g.limit r ≤ freeCapacity g.store l
  visits : r.evaluations + g.pending + g.inVisit.toNat = g.visits
  limit : g.visits ≤ g.limit

/-- The laws of a run in the run state `q`, in its figures. -/
structure Ledger.Ok (q : RunState) (g : Ledger) : Prop where
  store : StoreOk g.store
  labels : (labelsOf g.store).length ≤ 8
  limitPos : 1 ≤ g.limit
  limitLe : g.limit ≤ 64
  plan : isActive q = true → g.planState = .valid
  inVisit : g.inVisit = true → q = .running
  pending : g.pending ≠ 0 → q = .running ∨ q = .ending
  armed : q = .armed → g.visits = 0
  reserve : g.store.reserve.isSome = isActive q
  balanced : ∀ r, g.store.reserve = some r → ∃ l, g.Balanced r l

/-- With no visit current nothing of a visit stands (R42, R50, R100). -/
def VisitClear (s : State) : Prop :=
  s.engine.visit = none → s.engine.decided = none ∧ s.engine.pendingMark = none ∧ s.engine.pendingFallback = none ∧
    s.engine.held = [] ∧ s.eval.working = none

/-- The laws of a run in the run state `q`. -/
structure RunInv (q : RunState) (s : State) : Prop where
  ok : (ledger s).Ok q
  clear : VisitClear s

/-- The laws of the run in its own run state. -/
def Inv (s : State) : Prop := RunInv s.engine.runState s

theorem inv_of_runInvariant (s : State) : RunInvariant s → Quiet s ∧ Inv s := by
  rintro ⟨hquiet, hplan, ⟨hvisit, hclear, hpend⟩, ⟨hpos, hle, harm, hcount⟩, ⟨hlabel, hres⟩, hstore, ⟨hlab, hroom⟩,
    hkept⟩
  refine ⟨hquiet, ⟨hstore, by simpa [labelsOf, ledger] using hlab, hpos, hle, hplan, hvisit, fun hne => ?_, harm, hres,
    fun r hr => ?_⟩, hclear⟩
  · have := hpend fun h => hne (by simp [ledger, h])
    simpa [State.runUnderWay] using this
  · have hact : s.runActive = true := by rw [← hres, show s.store.reserve = some r from hr]; rfl
    obtain ⟨l, hl, hok⟩ := hlabel hact
    obtain ⟨hreq, hsum⟩ := hkept r l hr hl
    refine ⟨l, hl, hok, fun hh => by simpa [labelsOf, ledger] using hroom hact l hl hh, hreq, ?_, ?_⟩
    · refine Eq.trans ?_ hsum
      cases hv : s.engine.visit <;> simp [ledger, hv]
    · rcases hq : s.engine.runState with _ | _ | _ | _ | _ | _ <;>
        simp [State.runActive, State.runUnderWay, hq] at hact harm hcount ⊢
      · simp [ledger, harm]
      · exact hcount
      · exact hcount

theorem runInvariant_of_inv (s : State) : Quiet s ∧ Inv s → RunInvariant s := by
  rintro ⟨hquiet, ⟨hstore, hlab, hpos, hle, hplan, hvisit, hpend, harm, hres, hbal⟩, hclear⟩
  have hbook : s.runActive = true → ∃ r, s.store.reserve = some r := fun hact =>
    Option.isSome_iff_exists.1 (hres.trans hact)
  refine ⟨hquiet, hplan, ⟨hvisit, hclear, fun hne => ?_⟩, ⟨hpos, hle, harm, fun hu => ?_⟩, ⟨fun hact => ?_, hres⟩,
    hstore,
    ⟨by simpa [labelsOf, ledger] using hlab, fun hact l hl hh => ?_⟩, fun r l hr hl => ?_⟩
  · have := hpend (by simpa [ledger] using hne)
    simpa [State.runUnderWay] using this
  · obtain ⟨r, hr⟩ := hbook (by simp [State.runActive, State.runUnderWay] at hu ⊢; tauto)
    obtain ⟨l, hb⟩ := hbal r hr
    exact hb.limit
  · obtain ⟨r, hr⟩ := hbook hact
    obtain ⟨l, hb⟩ := hbal r hr
    exact ⟨l, hb.label, hb.labelOk⟩
  · obtain ⟨r, hr⟩ := hbook hact
    obtain ⟨l', hb⟩ := hbal r hr
    obtain rfl : l' = l := Option.some.inj (hb.label.symm.trans hl)
    simpa [labelsOf, ledger] using hb.place hh
  · obtain ⟨l', hb⟩ := hbal r hr
    obtain rfl : l' = l := Option.some.inj (hb.label.symm.trans hl)
    refine ⟨hb.reserve, (Eq.trans ?_ hb.visits : _ = s.engine.visitCount)⟩
    cases hv : s.engine.visit <;> simp [ledger, hv]

theorem runInvariant_iff (s : State) : RunInvariant s ↔ Quiet s ∧ Inv s :=
  ⟨inv_of_runInvariant s, runInvariant_of_inv s⟩

/-! ### What the laws of a run read -/

/-- Everything of a state that the laws of a run read. -/
structure RunPart where
  engine : Option Label × Option Visit × Nat
  exit : Option DecidedExit × Option PendingMark × Option PendingFallback × List HeldOperate
  eval : Evaluator
  plan : PlanState × Nat
  store : Store

def runPart (s : State) : RunPart where
  engine := (s.engine.runLabel, s.engine.visit, s.engine.visitCount)
  exit := (s.engine.decided, s.engine.pendingMark, s.engine.pendingFallback, s.engine.held)
  eval := s.eval
  plan := (s.plan.state, s.plan.items.header.visitLimit)
  store := s.store

/-- A step that leaves all of that as it was keeps the laws. -/
theorem RunInv.same {q : RunState} {s t : State} (h : RunInv q s) (e : runPart t = runPart s) : RunInv q t := by
  simp only [runPart, RunPart.mk.injEq, Prod.mk.injEq] at e
  obtain ⟨⟨hl, hv, hc⟩, ⟨hd, hm, hf, hh⟩, he, ⟨hp, hlim⟩, hst⟩ := e
  have hledger : ledger t = ledger s := by simp only [ledger, hl, hv, hc, he, hp, hlim, hst]
  refine ⟨hledger ▸ h.ok, fun hn => ?_⟩
  rw [hd, hm, hf, hh, he]
  exact h.clear (hv ▸ hn)

/-- A step within a visit that leaves the figures of the run as they were keeps the laws. -/
theorem RunInv.inVisit {q : RunState} {s t : State} (h : RunInv q s) (hv : t.engine.visit.isSome = true)
    (e : ledger t = ledger s) : RunInv q t :=
  ⟨e ▸ h.ok, fun hn => by simp [hn] at hv⟩

/-- With no visit current nothing of one stands, so what a step drops of it is not there. -/
theorem RunInv.of_ledger {q : RunState} {s t : State} (h : RunInv q s) (e : ledger t = ledger s) (hc : VisitClear t) :
    RunInv q t :=
  ⟨e ▸ h.ok, hc⟩

theorem Inv.of {s t : State} (h : RunInv s.engine.runState t) (e : t.engine.runState = s.engine.runState) : Inv t := by
  rw [Inv, e]; exact h

/-- A step that leaves all of that and the run state as they were keeps the laws. -/
theorem Inv.same {s t : State} (h : Inv s) (e : runPart t = runPart s) (hq : t.engine.runState = s.engine.runState) :
    Inv t :=
  Inv.of (RunInv.same h e) hq

/-- A visit is current only in a RUNNING run. -/
theorem RunInv.visit_none {q : RunState} {s : State} (h : RunInv q s) (hq : q ≠ .running) : s.engine.visit = none := by
  by_contra hv
  exact hq (h.ok.inVisit (Option.isSome_iff_ne_none.2 hv))

/-- A visit is pending only in a RUNNING or ENDING run. -/
theorem RunInv.pending_nil {q : RunState} {s : State} (h : RunInv q s) (hq : q ≠ .running) (hq' : q ≠ .ending) :
    s.eval.pendingList = [] := by
  by_contra hp
  exact (h.ok.pending (by simpa [ledger] using hp)).elim hq hq'

/-! ### The store's figures -/

/-- An append that finds room under the run's label or a held one leaves at most 8 labels held. -/
theorem labels_of_appended {l : Label} {st st' : Store} (ha : AppendOk l st st') (h8 : (labelsOf st).length ≤ 8)
    (h7 : isHeld st l = false → (labelsOf st).length ≤ 7) : (labelsOf st').length ≤ 8 := by
  rw [ha.labels]
  split
  · exact h8
  · next hh =>
    have := h7 (by simpa using hh)
    simp only [List.length_append, List.length_singleton]
    omega

theorem isHeld_of_appended_held {l l' : Label} {st st' : Store} (ha : AppendOk l st st') (hh : isHeld st l = true) :
    labelsOf st' = labelsOf st ∧ isHeld st' l' = isHeld st l' := by
  have hlab : labelsOf st' = labelsOf st := by rw [ha.labels, if_pos hh]
  exact ⟨hlab, by rw [Bool.eq_iff_iff, isHeld_iff, isHeld_iff, hlab]⟩

/-- An event record is stored only where the reserve of the run still stands behind it (R156, R157). -/
theorem ok_storeEvent {q : RunState} {s : State} (h : (ledger s).Ok q) (l : Label) (c : Contents) :
    (ledger (storeEvent l c s)).Ok q := by
  unfold storeEvent
  dsimp only
  have happ : hasRoom s.store l = true → AppendOk l s.store (appendTo l s.now c s.store) := appendOk s.now c h.store
  have hreserve : (appendTo l s.now c s.store).reserve = s.store.reserve := appendTo_reserve _ _ _ _
  split
  · next r hr =>
    obtain ⟨run, hb⟩ := h.balanced r hr
    rw [show s.engine.runLabel = some run from hb.label]
    dsimp only
    split
    · next hl =>
      obtain rfl : l = run := by simpa using hl
      split
      · next hguard =>
        obtain ⟨hcap, hroom⟩ : requiredReserve s.header.visitLimit r ≤ freeCapacity (appendTo l s.now c s.store) l ∧
          hasRoom s.store l = true := by simpa using hguard
        have ha := happ hroom
        refine { h with
          store := ha.store, labels := labels_of_appended ha h.labels hb.place
          reserve := (congrArg Option.isSome hreserve).trans h.reserve
          balanced := fun r' hr' => ?_ }
        obtain rfl : r = r' := Option.some.inj ((hr.symm.trans hreserve.symm).trans hr')
        exact ⟨l, { hb with place := fun hn => by simp [ledger, ha.held] at hn, reserve := hcap }⟩
      · refine { h with reserve := ?_, balanced := fun r' hr' => ?_ }
        · rw [← h.reserve]
          simp [ledger, hr]
        · obtain rfl := Option.some.inj hr'
          exact ⟨l, { hb with }⟩
    · split
      · next hguard =>
        obtain ⟨⟨hheld, hroom⟩, hcap⟩ : (isHeld s.store l = true ∧ hasRoom s.store l = true) ∧
          requiredReserve s.header.visitLimit r ≤ freeCapacity (appendTo l s.now c s.store) run := by simpa using hguard
        have ha := happ hroom
        obtain ⟨hlab, hsame⟩ := isHeld_of_appended_held (l' := run) ha hheld
        refine { h with
          store := ha.store, labels := (congrArg List.length hlab).trans_le h.labels
          reserve := (congrArg Option.isSome hreserve).trans h.reserve
          balanced := fun r' hr' => ?_ }
        obtain rfl : r = r' := Option.some.inj ((hr.symm.trans hreserve.symm).trans hr')
        exact ⟨run, { hb with
          place := fun hn => (congrArg List.length hlab).trans_le (hb.place (hsame.symm.trans hn)), reserve := hcap }⟩
      · exact h
  · next hr =>
    split
    · next hguard =>
      obtain ⟨hheld, hroom⟩ : isHeld s.store l = true ∧ hasRoom s.store l = true := by simpa using hguard
      have ha := happ hroom
      refine { h with
        store := ha.store, labels := labels_of_appended ha h.labels (by simp [hheld])
        reserve := (congrArg Option.isSome hreserve).trans h.reserve
        balanced := fun r' hr' => ?_ }
      exact nomatch hr.symm.trans (hreserve.symm.trans hr')
    · exact h

end Sys2Proof.Proofs
end

section
/-! Each shared operation of a run keeps the laws of the run: the marks and the choice of exit, which leave the figures
as they are, and the visits and ends of a run, which move them. -/

namespace Sys2Proof.Proofs

open Sys2Proof.Machine Sys2Proof.Safety

variable {q : RunState} {s : State}

/-- A fold of operations keeps a law that each of them keeps. -/
theorem foldl_induct {α : Type} (P : State → Prop) (f : State → α → State) (hf : ∀ s a, P s → P (f s a)) (l : List α)
    (s : State) (h : P s) : P (l.foldl f s) := by
  induction l generalizing s with
  | nil => exact h
  | cons a l ih => exact ih _ (hf _ _ h)

/-! ### Records -/

theorem runInv_storeEvent (h : RunInv q s) (l : Label) (c : Contents) : RunInv q (storeEvent l c s) :=
  ⟨ok_storeEvent h.ok l c, by simpa [VisitClear] using h.clear⟩

theorem runInv_storeRunEvent (h : RunInv q s) (c : Contents) : RunInv q (storeRunEvent c s) := by
  unfold storeRunEvent
  (repeat' split)
  · exact runInv_storeEvent h _ _
  · exact h
  · exact h

theorem runInv_breakerTo (h : RunInv q s) (b : BreakerState) (t : BreakerTimer) (i : InputNo) :
    RunInv q (breakerTo b t i s) :=
  runInv_storeRunEvent (h.same (by simp [runPart])) _

theorem runInv_driveContacts (h : RunInv q s) : RunInv q (driveContacts s) := h.same (by simp [runPart])

theorem runInv_breakerOpens (h : RunInv q s) : RunInv q (breakerOpens s) :=
  runInv_driveContacts (runInv_breakerTo h _ _ _)

theorem runInv_breakerCloses (h : RunInv q s) (i : InputNo) : RunInv q (breakerCloses i s) :=
  runInv_driveContacts (runInv_breakerTo h _ _ _)

theorem runInv_tripOperate (h : RunInv q s) : RunInv q (tripOperate s) := by
  unfold tripOperate
  split
  · dsimp only
    split
    · exact runInv_breakerOpens (runInv_breakerTo h _ _ _)
    · exact runInv_breakerTo h _ _ _
  · exact runInv_breakerOpens h
  · exact h
  · exact h

theorem runInv_closeOperate (h : RunInv q s) (i : InputNo) : RunInv q (closeOperate i s) := by
  unfold closeOperate
  split
  · dsimp only
    split
    · exact runInv_breakerCloses (runInv_breakerTo h _ _ _) i
    · exact runInv_breakerTo h _ _ _
  · exact h
  · exact h
  · exact h

theorem runInv_breakerTakes (h : RunInv q s) (i : InputNo) (d : Direction) : RunInv q (breakerTakes i d s) := by
  unfold breakerTakes
  (repeat' split)
  · exact runInv_tripOperate h
  · exact runInv_closeOperate h i
  · exact h
  · exact h

/-! ### Attribution -/

theorem runInv_attributeEdge (h : RunInv q s) (i : InputNo) (e : Instant) : RunInv q (attributeEdge i e s) := by
  have hpend : RunInv q (s.modEval fun x => { x with pendingList := x.pendingList.map (attributeToEntry i e) }) :=
    h.of_ledger (by simp [ledger]) h.clear
  unfold attributeEdge
  split
  · next v w hv hw =>
    split
    · exact h.inVisit (by simp [hv]) rfl
    · exact hpend
  · exact hpend

theorem runInv_lockoutSeen (h : RunInv q s) (i : InputNo) : RunInv q (lockoutSeen i s) :=
  h.of_ledger rfl fun hn => by
    obtain ⟨hd, hm, hf, hh, hw⟩ := h.clear hn
    exact ⟨hd, hm, hf, hh, by simp [lockoutSeen, hw]⟩

theorem runInv_releaseSeen (h : RunInv q s) (i : InputNo) : RunInv q (releaseSeen i s) := by
  unfold releaseSeen
  split
  · next v hv =>
    split
    · exact h.inVisit (by simp [hv]) rfl
    · exact h
  · exact h

/-! ### Marks -/

theorem runInv_logMark (h : RunInv q s) (l : Label) (c : MarkCode) (d : Instant) (o : FrameOutcome)
    (x : Option Instant) :
    RunInv q (logMark l c d o x s) :=
  runInv_storeEvent h _ _

theorem runInv_withdrawMark (h : RunInv q s) (a : Nat) (l : Label) (c : MarkCode) (d : Instant) :
    RunInv q (withdrawMark a l c d s) := by
  unfold withdrawMark
  split
  · exact runInv_logMark (h.same (by simp [runPart])) _ _ _ _ _
  · exact h

theorem runInv_queueMark (h : RunInv q s) (c : MarkCode) (d : Instant) : RunInv q (queueMark c d s) :=
  h.same (by simp [runPart])

/-- The pending coordinated mark goes, and nothing else of the run. -/
theorem runInv_dropPendingMark (h : RunInv q s) : RunInv q (s.modEngine fun g => { g with pendingMark := none }) :=
  h.of_ledger rfl fun hn => by
    obtain ⟨hd, -, hf, hh, hw⟩ := h.clear hn
    exact ⟨hd, rfl, hf, hh, hw⟩

theorem runInv_dropPendingFallback (h : RunInv q s) :
    RunInv q (s.modEngine fun g => { g with pendingFallback := none }) :=
  h.of_ledger rfl fun hn => by
    obtain ⟨hd, hm, -, hh, hw⟩ := h.clear hn
    exact ⟨hd, hm, rfl, hh, hw⟩

theorem runInv_dropHeld (h : RunInv q s) : RunInv q (s.modEngine fun g => { g with held := [] }) :=
  h.of_ledger rfl fun hn => by
    obtain ⟨hd, hm, hf, -, hw⟩ := h.clear hn
    exact ⟨hd, hm, hf, rfl, hw⟩

theorem runInv_giveUpMark (h : RunInv q s) : RunInv q (giveUpMark s) := by
  unfold giveUpMark
  split
  · exact h
  · dsimp only
    split
    · exact runInv_withdrawMark (runInv_dropPendingMark h) _ _ _ _
    · exact runInv_dropPendingMark h

theorem runInv_withdrawRunMarks (h : RunInv q s) : RunInv q (withdrawRunMarks s) := by
  refine foldl_induct (RunInv q) _ (fun s e h => ?_) _ _ h
  (repeat' split)
  · exact runInv_withdrawMark h _ _ _ _
  · exact h
  · exact h

/-! ### The choice of exit -/

theorem runInv_decideExit (h : RunInv q s) (d : DecidedExit) {v : Visit} (hv : s.engine.visit.isSome = true)
    (f : Bool) :
    RunInv q (decideExit d v f s) := by
  have h1 : RunInv q (s.modEngine fun g => { g with decided := some d, visit := some { v with uncoordinated := f } }) :=
    h.inVisit rfl (by simp [ledger, hv])
  have h2 : RunInv q ((s.modEngine fun g =>
    { g with decided := some d, visit := some { v with uncoordinated := f } }).latch
      fun l => { l with markUncoordinated := true }) := h1.same rfl
  cases f <;> simp only [decideExit, Bool.false_eq_true, if_false, if_true] <;> (repeat' split)
  · exact h1
  · exact runInv_giveUpMark h1
  · exact h1
  · exact h2
  · exact runInv_giveUpMark h2
  · exact h2

theorem runInv_present (h : RunInv q s) (d : Decider) (t : Target) (x : Instant) (f : Bool) :
    RunInv q (present d t x f s) := by
  unfold present
  split
  · exact h
  · next v hv =>
    (repeat' split)
    · exact runInv_decideExit h _ (by simp [hv]) _
    · exact runInv_decideExit h _ (by simp [hv]) _
    · exact h

/-- A mark queued within a visit becomes its pending coordinated mark. -/
theorem runInv_queueCoordinated (h : RunInv q s) (hv : s.engine.visit.isSome = true) (c : MarkCode) (x : Instant)
    (p : PendingMark) : RunInv q (queueMark c x (s.modEngine fun g => { g with pendingMark := some p })) :=
  have h1 : RunInv q (s.modEngine fun g => { g with pendingMark := some p }) := h.inVisit hv rfl
  runInv_queueMark h1 c x

theorem runInv_coordinatedCondition (h : RunInv q s) (n : SlotNo) (c : MarkCode) (x : Instant) :
    RunInv q (coordinatedCondition n c x s) := by
  unfold coordinatedCondition
  dsimp only
  split
  · exact h
  · next hno =>
    have hv : s.engine.visit.isSome = true := by simp at hno; simp [Option.isSome_iff_ne_none, hno]
    (repeat' split)
    · exact runInv_queueCoordinated h hv _ _ _
    · exact runInv_queueCoordinated (runInv_giveUpMark h) (by simpa using hv) _ _ _
    · exact h

theorem runInv_fireSlot (h : RunInv q s) (n : SlotNo) (t : Target) (c : Option MarkCode) (x : Instant) :
    RunInv q (fireSlot n t c x s) := by
  unfold fireSlot
  split
  · exact runInv_present h _ _ _ _
  · exact runInv_coordinatedCondition h _ _ _

theorem runInv_fireSlots (h : RunInv q s) (f : Trigger → Option (Target × Option MarkCode)) (x : Instant) :
    RunInv q (fireSlots f x s) := by
  unfold fireSlots
  split
  · exact h
  · refine foldl_induct (RunInv q) _ (fun s n h => ?_) _ _ h
    split
    · exact runInv_fireSlot h _ _ _ _
    · exact h

theorem runInv_markOutcome (h : RunInv q s) (a : Nat) (l : Label) (c : MarkCode) (d : Instant) (o : FrameOutcome) :
    RunInv q (markOutcome a l c d o s) := by
  unfold markOutcome
  dsimp only
  generalize (if (o == .delivered || o == .unheard) = true then some s.now else none) = x
  have h1 := runInv_logMark h l c d o x
  split
  · next p hp =>
    have hv : (logMark l c d o x s).engine.visit.isSome = true := by
      rw [Option.isSome_iff_ne_none]
      intro hn
      rw [(h1.clear hn).2.1] at hp
      cases hp
    (repeat' split)
    · exact runInv_present (runInv_dropPendingMark h1) _ _ _ _
    · exact runInv_dropPendingMark h1
    · exact (runInv_dropPendingMark h1).inVisit hv rfl
    · exact h1
  · exact h1

/-! ### Operates -/

theorem runInv_firstOperateMark (h : RunInv q s) (i : InputNo) : RunInv q (firstOperateMark i s) := by
  unfold firstOperateMark
  (repeat' split)
  · exact h
  · refine runInv_queueMark ?_ _ _
    exact h.same rfl
  · exact h
  · exact h

theorem runInv_takeHeld (h : RunInv q s) (hs : List HeldOperate) : RunInv q (takeHeld hs s) := by
  refine foldl_induct (RunInv q) _ (fun s x h => runInv_firstOperateMark ?_ _) _ _ h
  split
  · exact runInv_attributeEdge h _ _
  · exact h

theorem runInv_resolveHeld (h : RunInv q s) : RunInv q (resolveHeld s) := runInv_takeHeld (runInv_dropHeld h) _

theorem runInv_takeOperate (h : RunInv q s) (i : InputNo) (e : Instant) : RunInv q (takeOperate i e s) := by
  unfold takeOperate
  split
  · next v hv =>
    split
    · dsimp only
      split
      · exact (runInv_attributeEdge h i e).inVisit (by simp [hv]) rfl
      · exact h.inVisit (by simp [hv]) rfl
    · exact runInv_firstOperateMark (runInv_attributeEdge h i e) i
  · exact runInv_attributeEdge h i e

/-! ### Instants of a visit -/

theorem runInv_takeTimer (h : RunInv q s) (n : SlotNo) : RunInv q (takeTimer n s) := by
  unfold takeTimer
  split
  · next v x hv hx =>
    have h1 : RunInv q (s.modEngine fun g => { g with timers := setAt g.timers n none }) := h.same rfl
    dsimp only
    split
    · exact runInv_fireSlot h1 _ _ _ _
    · exact h1
  · exact h

theorem runInv_takeBackstop (h : RunInv q s) : RunInv q (takeBackstop s) := by
  unfold takeBackstop
  split
  · refine runInv_present ?_ _ _ _ _
    exact h.same rfl
  · exact h

theorem runInv_takeFallback (h : RunInv q s) : RunInv q (takeFallback s) := by
  unfold takeFallback
  split
  · exact runInv_present (runInv_dropPendingFallback (runInv_giveUpMark h)) _ _ _ _
  · exact h

theorem runInv_contend (h : RunInv q s) (rivals : List (BitVec 7)) : RunInv q (contend rivals s) := by
  refine h.of_ledger (by simp [ledger]) fun hn => ?_
  obtain ⟨hd, hm, hf, hh, hw⟩ := h.clear (by simpa using hn)
  refine ⟨by simpa using hd, ?_, by simpa using hf, by simpa using hh, by simpa using hw⟩
  unfold contend
  (repeat' split) <;> simp [tellBegun, hm]

/-! ### The visits of a run -/

/-- What an event record leaves in the store does not depend on the evaluator, nor on the link. -/
theorem storeEvent_store_congr {s t : State} (l : Label) (c : Contents) (hst : t.store = s.store)
    (hen : t.engine = s.engine) (hh : t.header = s.header) (hn : t.now = s.now) :
    (storeEvent l c t).store = (storeEvent l c s).store := by
  simp only [storeEvent, hst, hen, hh, hn]
  (repeat' split) <;> simp_all

theorem withdrawMark_store_congr {s t : State} (a : Nat) (l : Label) (c : MarkCode) (d : Instant)
    (hst : t.store = s.store)
    (hen : t.engine = s.engine) (hl : t.link = s.link) (hh : t.header = s.header) (hn : t.now = s.now) :
    (withdrawMark a l c d t).store = (withdrawMark a l c d s).store := by
  have hw : isWaiting a t = isWaiting a s := by simp only [isWaiting, hl]
  unfold withdrawMark
  rw [hw]
  split
  · exact storeEvent_store_congr _ _ (by simp [hst]) (by simp [hen]) (by simp [hh]) (by simp [hn])
  · exact hst

theorem giveUpMark_store_congr {s t : State} (hst : t.store = s.store) (hen : t.engine = s.engine)
    (hl : t.link = s.link)
    (hh : t.header = s.header) (hn : t.now = s.now) : (giveUpMark t).store = (giveUpMark s).store := by
  have hw := fun a l c d => withdrawMark_store_congr (s := s.modEngine fun g => { g with pendingMark := none })
    (t := t.modEngine fun g => { g with pendingMark := none }) a l c d hst (by simp [hen]) hl hh hn
  unfold giveUpMark
  cases hp : s.engine.pendingMark <;> cases hlab : s.engine.runLabel <;> simp [hen, hp, hlab, hst, hw]

/-- A visit that closes goes from the engine to the evaluator's list, and its mark is given up (R45, R101). -/
theorem ledger_closeVisit {v : Visit} (hv : s.engine.visit = some v) (x : Instant) (c : ExitCause) :
    ledger (closeVisit x c s) =
      { ledger (giveUpMark s) with inVisit := false, pending := (ledger (giveUpMark s)).pending + 1 } := by
  have hst : (giveUpMark (closeWorking v x c s)).store = (giveUpMark s).store :=
    giveUpMark_store_congr (by simp) (by simp) (by simp) (by simp) (by simp)
  have hpend : (closeWorking v x c s).eval.pendingList.length = s.eval.pendingList.length + 1 := by
    simp [closeWorking]
  simp [ledger, closeVisit, hv, hst, hpend]

theorem closeVisit_clear (x : Instant) (c : ExitCause) (h : VisitClear s) :
    VisitClear (closeVisit x c s) ∧ (closeVisit x c s).engine.visit = none := by
  unfold closeVisit
  split
  · next hv => exact ⟨h, hv⟩
  · refine ⟨fun _ => ⟨rfl, ?_, rfl, rfl, ?_⟩, rfl⟩
    · simp only [State.modEngine_engine, giveUpMark]
      (repeat' split) <;> simp_all
    · simp [closeWorking]

/-- Closing the current visit keeps the laws: it is no longer current and is pending (R45, R101). -/
theorem runInv_closeVisit (h : RunInv q s) (x : Instant) (c : ExitCause) :
    RunInv q (closeVisit x c s) ∧ (closeVisit x c s).engine.visit = none := by
  obtain ⟨hclear, hnone⟩ := closeVisit_clear x c h.clear
  refine ⟨⟨?_, hclear⟩, hnone⟩
  cases hv : s.engine.visit with
  | none => simpa [closeVisit, hv] using h.ok
  | some v =>
    have h1 := (runInv_giveUpMark h).ok
    have hq : q = .running := h.ok.inVisit (by simp [ledger, hv])
    rw [ledger_closeVisit hv]
    refine { h1 with
      inVisit := nofun, pending := fun _ => .inl hq
      balanced := fun r hr => ?_ }
    obtain ⟨l, hb⟩ := h1.balanced r hr
    refine ⟨l, { hb with visits := ?_ }⟩
    have := hb.visits
    simp only [show (ledger (giveUpMark s)).inVisit = true by simp [ledger, hv], Bool.toNat_true] at this
    simp only [Bool.toNat_false]
    omega

/-- A pending visit evaluated is counted, and its record takes the place that was reserved for it (R103, R156, R158). -/
theorem runInv_evaluateHead (h : RunInv q s) : RunInv q (evaluateHead s) := by
  unfold evaluateHead
  split
  · exact h
  · next p rest hp =>
    have hq := h.ok.pending (by simp [ledger, hp])
    obtain ⟨r, hr⟩ := Option.isSome_iff_exists.1
      (h.ok.reserve.trans (by rcases hq with rfl | rfl <;> rfl : isActive q = true))
    obtain ⟨l, hb⟩ := h.ok.balanced r hr
    have hvis : r.evaluations + (rest.length + 1) + s.engine.visit.isSome.toNat = s.engine.visitCount := by
      simpa [ledger, hp] using hb.visits
    have hlim : s.engine.visitCount ≤ s.header.visitLimit := hb.limit
    have hreq : s.header.visitLimit - r.evaluations + 1 ≤ freeCapacity s.store l := hb.reserve
    have ha := appendOk s.now (evaluationOf p) h.ok.store
      (hasRoom_of_capacity (l := l) (show 0 < freeCapacity s.store l by omega))
    have hl : (s.modEval fun x => { x with pendingList := rest }).engine.runLabel = some l := hb.label
    have hres := appendTo_reserve l s.now (evaluationOf p) s.store
    have hlabels := labels_of_appended ha h.ok.labels hb.place
    refine ⟨?_, by simpa [VisitClear] using h.clear⟩
    simp only [storeEvaluation, hl]
    refine { h.ok with
      store := ha.store, labels := hlabels, pending := fun _ => hq
      reserve := ?_, balanced := fun r' hr' => ⟨l, ?_⟩ }
    · rw [← h.ok.reserve]
      simp [ledger, hres]
    · obtain rfl : r' = { r with evaluations := r.evaluations + 1 } := by
        have : (appendTo l s.now (evaluationOf p) s.store).reserve = some r := hres.trans hr
        simpa [ledger, this] using hr'.symm
      refine { label := hl, labelOk := hb.labelOk, place := fun hn => ?_, reserve := ?_, visits := ?_, limit := hlim }
      · exact absurd (ha.held.symm.trans hn) (by simp)
      · refine Nat.le_of_add_le_add_right (b := 1) (Nat.le_trans ?_ ha.capacity.ge)
        show s.header.visitLimit - (r.evaluations + 1) + 1 + 1 ≤ freeCapacity s.store l
        omega
      · show r.evaluations + 1 + rest.length + s.engine.visit.isSome.toNat = s.engine.visitCount
        omega

theorem runInv_evaluateWhileDue (h : RunInv q s) (n : Nat) : RunInv q (evaluateWhileDue n s) := by
  induction n generalizing s with
  | zero => exact h
  | succ n ih =>
    unfold evaluateWhileDue
    split
    · exact ih (runInv_evaluateHead h)
    · exact h

theorem runInv_evaluateDue (h : RunInv q s) : RunInv q (evaluateDue s) := runInv_evaluateWhileDue h _

theorem evaluateHead_pendingList (s : State) : (evaluateHead s).eval.pendingList = s.eval.pendingList.tail := by
  unfold evaluateHead
  split <;> simp_all

/-- The flush of an abort leaves no entry (R112). -/
theorem runInv_flushPending (h : RunInv q s) : RunInv q (flushPending s) ∧ (flushPending s).eval.pendingList = [] := by
  have htimes : ∀ (n : Nat) (s : State), RunInv q s → s.eval.pendingList.length = n →
      RunInv q (evaluateTimes n s) ∧ (evaluateTimes n s).eval.pendingList = [] := fun n => by
    induction n with
    | zero => exact fun s h hn => ⟨h, List.eq_nil_of_length_eq_zero hn⟩
    | succ n ih => exact fun s h hn => ih _ (runInv_evaluateHead h) (by simp [evaluateHead_pendingList, hn])
  exact htimes _ _ h rfl

/-- Entering a state opens one visit more, within the limit (R44, R56). -/
theorem runInv_enterState (h : RunInv .running s) (hv : s.engine.visit = none)
    (hlim : s.engine.visitCount < s.header.visitLimit) (st : StateNo) (b : Instant) (i : Bool) :
    RunInv .running (enterState st b i s) := by
  refine ⟨?_, fun hn => ?_⟩
  · have e : ledger (enterState st b i s) = { ledger s with inVisit := true, visits := s.engine.visitCount + 1 } := by
      unfold enterState
      dsimp only
      split <;> simp [ledger, openWorking]
    rw [e]
    refine { h.ok with inVisit := fun _ => rfl, armed := nofun, balanced := fun r hr => ?_ }
    obtain ⟨l, hb⟩ := h.ok.balanced r hr
    have hvis : r.evaluations + s.eval.pendingList.length = s.engine.visitCount := by simpa [ledger, hv] using hb.visits
    refine ⟨l, { hb with visits := ?_, limit := hlim }⟩
    show r.evaluations + s.eval.pendingList.length + 1 = s.engine.visitCount + 1
    omega
  · unfold enterState at hn
    dsimp only at hn
    split at hn <;> simp at hn

/-! ### The ends of a run -/

theorem runInv_quiesce (h : RunInv q s) : RunInv q (quiesce s) := h.same (by simp [runPart])

theorem runInv_ampRunEnded (h : RunInv q s) : RunInv q (ampRunEnded s) := h.same (by simp [runPart])

/-- The bookkeeping ends with the run: with no visit current or pending, the laws hold in any run state that is not
active. -/
theorem ok_ended {q' : RunState} (h : (ledger s).Ok q) (hv : s.engine.visit = none) (hp : s.eval.pendingList = [])
    (hq : isActive q' = false) {st : Store} (hst : StoreOk st) (hlab : (labelsOf st).length ≤ 8)
    (hres : st.reserve = none) (l : Option Label) : ({ ledger s with runLabel := l, store := st } : Ledger).Ok q' where
  store := hst
  labels := hlab
  limitPos := h.limitPos
  limitLe := h.limitLe
  plan ha := nomatch ha.symm.trans hq
  inVisit hv' := by simp [ledger, hv] at hv'
  pending hp' := by simp [ledger, hp] at hp'
  armed ha := by subst ha; cases hq
  reserve := by simp [hres, hq]
  balanced r hr := nomatch hres.symm.trans hr

/-- A run in bookkeeping ends with its RUN-SUMMARY (R59, R60, R151, R158). -/
theorem runInv_storeSummary {q' : RunState} (h : RunInv q s) (hv : s.engine.visit = none) (hp : s.eval.pendingList = [])
    (ha : isActive q = true) (hq : isActive q' = false) (c : Contents) (e : EndState) :
    RunInv q' (storeSummary c e s) := by
  refine ⟨?_, by simpa [VisitClear] using h.clear⟩
  obtain ⟨r, hr⟩ := Option.isSome_iff_exists.1 (h.ok.reserve.trans ha)
  obtain ⟨l, hb⟩ := h.ok.balanced r hr
  have hreq : s.header.visitLimit - r.evaluations + 1 ≤ freeCapacity s.store l := hb.reserve
  have happ := appendOk s.now c h.ok.store (hasRoom_of_capacity (l := l) (show 0 < freeCapacity s.store l by omega))
  have hlabels := labels_of_appended happ h.ok.labels hb.place
  simp only [storeSummary, show s.engine.runLabel = some l from hb.label]
  refine ok_ended (s := s) h.ok hv hp hq ?_ ?_ rfl _
  all_goals
    simp only [State.modStore_store]
    cases hx : findLabel (appendTo l s.now c s.store) l
  · exact happ.store
  · exact storeOk_endState happ.store hx e
  · exact hlabels
  · exact (congrArg List.length (labelsOf_setHeld _ _)).trans_le hlabels

theorem runInv_writeSummary {q' : RunState} (h : RunInv q s) (hv : s.engine.visit = none) (hp : s.eval.pendingList = [])
    (ha : isActive q = true) (hq : isActive q' = false) (e : EndState) : RunInv q' (writeSummary e s) :=
  runInv_storeSummary (s := s.modEngine fun g => { g with lastState := g.latestVisit }) (h.same rfl) hv hp ha hq _ e

/-- A run whose bookkeeping ends without a summary (R138, R158). -/
theorem runInv_endBookkeeping {q' : RunState} (h : RunInv q s) (hv : s.engine.visit = none)
    (hp : s.eval.pendingList = [])
    (hq : isActive q' = false) : RunInv q' (s.modStore fun st => { st with reserve := none }) :=
  ⟨ok_ended (s := s) h.ok hv hp hq (st := { s.store with reserve := none }) h.ok.store h.ok.labels rfl _, h.clear⟩

/-- The last pending evaluation of an ENDING run is written: it is FINISHED (R59, R111). -/
theorem inv_finishIfDone (h : Inv s) : Inv (finishIfDone s) := by
  unfold finishIfDone
  split
  · next hdone =>
    obtain ⟨hq, hp⟩ : s.engine.runState = .ending ∧ s.eval.pendingList = [] := by simpa using hdone
    have hv : s.engine.visit = none := RunInv.visit_none h (by simp [hq])
    have h1 : RunInv .finished (writeSummary .finished s) :=
      runInv_writeSummary h hv hp (by rw [hq]; rfl) rfl _
    have h2 : RunInv .finished (finishRun s) := h1.same (by
      unfold finishRun
      dsimp only
      split <;> simp [runPart])
    have hfin : (finishRun s).engine.runState = .finished := by
      unfold finishRun
      dsimp only
      split <;> simp
    rw [Inv, hfin]
    exact h2
  · exact h

/-- A RUNNING run with no visit current passes to ENDING (R59). -/
theorem inv_enterEnding (h : RunInv .running s) (hv : s.engine.visit = none) (r : EndReason) :
    Inv (enterEnding r s) := by
  obtain ⟨hd, hm, hf, -, hw⟩ := h.clear hv
  refine inv_finishIfDone (Inv.of (s := s.modEngine fun g => { g with runState := .ending, endReason := r, held := [] })
    (runInv_quiesce ⟨{ h.ok with
      plan := fun _ => h.ok.plan rfl, inVisit := fun hi => ?_, pending := fun _ => .inr rfl, armed := nofun }, ?_⟩)
    (by simp))
  · simp [ledger, hv] at hi
  · exact fun _ => ⟨hd, hm, hf, rfl, hw⟩

end Sys2Proof.Proofs
end

section
/-! Every event of a run, of the link, the inputs and the amplifiers keeps the laws of the run. -/

namespace Sys2Proof.Proofs

open Sys2Proof.Machine Sys2Proof.Safety

variable {q : RunState} {s : State}

/-! ### The exit boundary and the clock limit -/

theorem exitDue_running (h : exitDue s = true) : s.engine.runState = .running := by
  simp only [exitDue, Bool.and_eq_true, beq_iff_eq] at h
  exact h.1.1

/-- After a close and the evaluations due with it no visit is current. -/
theorem runInv_closeAndEvaluate (h : RunInv q s) (x : Instant) (c : ExitCause) :
    RunInv q (evaluateDue (closeVisit x c s)) ∧ (evaluateDue (closeVisit x c s)).engine.visit = none := by
  obtain ⟨h1, hv⟩ := runInv_closeVisit h x c
  exact ⟨runInv_evaluateDue h1, by simpa using hv⟩

theorem inv_takeExit (h : Inv s) (hq : s.engine.runState = .running) : Inv (takeExit s) := by
  unfold takeExit
  split
  · next v d hv hd =>
    obtain ⟨h1, hv1⟩ := runInv_closeAndEvaluate (hq ▸ h : RunInv .running s) d.boundary (causeOf s v d.decider)
    dsimp only
    (repeat' split)
    · exact inv_enterEnding h1 hv1 _
    · exact inv_enterEnding h1 hv1 _
    · next st _ hlim =>
      exact Inv.of (s := s) (by rw [hq]; exact runInv_takeHeld (runInv_enterState h1 hv1 hlim _ _ _) _) (by simp)
    · exact inv_enterEnding h1 hv1 _
  · exact h

theorem inv_settleBoundary (h : Inv s) : Inv (settleBoundary s) := by
  unfold settleBoundary
  (repeat' split)
  · next hdue => exact inv_takeExit h (exitDue_running (by simp at hdue; exact hdue.1))
  · exact h
  · exact h

theorem inv_takeClockLimit (h : Inv s) (hq : s.engine.runState = .running) : Inv (takeClockLimit s) := by
  obtain ⟨h1, hv1⟩ := runInv_closeAndEvaluate (hq ▸ h : RunInv .running s) Config.clockLimit .clockLimit
  exact inv_enterEnding h1 hv1 _

theorem inv_takeHorizon (h : Inv s) : Inv (takeHorizon s) :=
  inv_finishIfDone (Inv.of (runInv_evaluateHead h) (by simp))

theorem inv_takeInitialEntry (h : Inv s) (hdue : initialEntryDue s = true) : Inv (takeInitialEntry s) := by
  obtain ⟨⟨⟨hq, hv⟩, hc⟩, -⟩ : ((s.engine.runState = .running ∧ s.engine.visit = none) ∧ s.engine.visitCount = 0) ∧
    (Config.firstEntry ≤ s.now ∧ s.now < Config.clockLimit) := by simpa [initialEntryDue] using hdue
  have hpos : 1 ≤ s.header.visitLimit := h.ok.limitPos
  exact Inv.of (s := s) (by rw [hq]; exact runInv_enterState (hq ▸ h : RunInv .running s) hv (by omega) _ _ _) (by simp)

/-! ### Aborts -/

theorem abortUnderWay_runState (r : EndReason) (s : State) : (abortUnderWay r s).engine.runState = .aborted := by
  simp [abortUnderWay]

/-- An abort in RUNNING or ENDING: the visit is closed and every pending visit evaluated before the RUN-SUMMARY, while
the bookkeeping stands (R60, R112). -/
theorem inv_abortUnderWay (h : Inv s) (hu : s.runUnderWay = true) (r : EndReason) : Inv (abortUnderWay r s) := by
  have ha : isActive s.engine.runState = true := by
    simp [State.runUnderWay] at hu
    rcases hu with hu | hu <;> simp [isActive, hu]
  have h1 : RunInv s.engine.runState
    ((resolveHeld s).modEngine fun g => { g with runState := .aborted, endReason := r }) :=
    (runInv_resolveHeld h).same rfl
  obtain ⟨h2, hv⟩ := runInv_closeVisit h1
    ((resolveHeld s).modEngine fun g => { g with runState := .aborted, endReason := r }).now .abort
  obtain ⟨h3, hp⟩ := runInv_flushPending (runInv_quiesce (runInv_withdrawRunMarks h2))
  rw [Inv, abortUnderWay_runState]
  exact runInv_ampRunEnded (runInv_writeSummary h3 (by simpa using hv) hp ha rfl _)

theorem runInv_pollerOff (h : RunInv q s) : RunInv q (pollerOff s) := h.same (by simp [runPart])

theorem abortArmed_runState (r : EndReason) (s : State) : (abortArmed r s).engine.runState = .aborted := by
  unfold abortArmed
  dsimp only
  split <;> simp

theorem inv_abortArmed (h : Inv s) (hq : s.engine.runState = .armed) (r : EndReason) : Inv (abortArmed r s) := by
  have hq' : RunInv .armed s := hq ▸ h
  have hv := hq'.visit_none nofun
  have hp := hq'.pending_nil nofun nofun
  have h1 : RunInv .armed (s.modEngine fun g => { g with runState := .aborted, endReason := r }) := hq'.same rfl
  rw [Inv, abortArmed_runState]
  unfold abortArmed
  dsimp only
  split
  · exact runInv_pollerOff (runInv_storeSummary h1 hv hp rfl rfl _ _)
  · exact runInv_pollerOff (runInv_endBookkeeping h1 hv hp rfl)

theorem inv_abortRun (h : Inv s) (r : EndReason) : Inv (abortRun r s) := by
  unfold abortRun
  (repeat' split)
  · next hu => exact inv_abortUnderWay h hu r
  · next hq => exact inv_abortArmed h (by simpa using hq) r
  · exact h

theorem inv_queueAbort (h : Inv s) (r : EndReason) (b : Bool) : Inv (queueAbort r b s) :=
  h.same (by simp [runPart]) (by simp)

/-! ### Events at the engine -/

theorem inv_fireSlots (h : Inv s) (f : Trigger → Option (Target × Option MarkCode)) (x : Instant) :
    Inv (fireSlots f x s) :=
  Inv.of (runInv_fireSlots h f x) (by simp)

theorem inv_engineChange (h : Inv s) (i : InputNo) (d : Direction) : Inv (engineChange i d s) := by
  unfold engineChange
  split
  · exact inv_fireSlots (inv_settleBoundary h) _ _
  · exact h

theorem inv_engineMark (h : Inv s) (o : StationNo) (c : Byte) : Inv (engineMark o c s) := by
  unfold engineMark
  split
  · exact inv_fireSlots (inv_settleBoundary h) _ _
  · exact h

theorem inv_engineStep (h : Inv s) : Inv (engineStep s) := by
  unfold engineStep
  split
  · exact inv_fireSlots (inv_settleBoundary h) _ _
  · exact h

theorem inv_engineStop (h : Inv s) : Inv (engineStop s) := by
  unfold engineStop
  split
  · next hq =>
    have hq : s.engine.runState = .running := by simpa using hq
    split
    · next hv => exact inv_enterEnding (hq ▸ h) hv _
    · next v hv =>
      have hstop : ∀ d, Inv (s.modEngine fun g => { g with decided := some d }) := fun d =>
        Inv.of (s := s) (h.inVisit (by simp [hv]) rfl) rfl
      dsimp only
      (repeat' split)
      · exact hstop _
      · exact hstop _
      · exact h
      · exact h
  · exact h

/-- The epoch: an ARMED run with no visit becomes RUNNING (R134). -/
theorem inv_takeEpoch (h : Inv s) (hq : s.engine.runState = .armed) : Inv (takeEpoch s) := by
  have h1 : RunInv .armed (takeEpoch s) := (hq ▸ h : RunInv .armed s).same (by simp [runPart])
  have hr : (takeEpoch s).engine.runState = .running := by simp [takeEpoch]
  rw [Inv, hr]
  refine ⟨{ h1.ok with
    plan := fun _ => h1.ok.plan rfl, inVisit := fun _ => rfl, pending := fun _ => .inl rfl, armed := nofun }, h1.clear⟩

theorem inv_startNotReady (h : Inv s) (hq : s.engine.runState = .armed) : Inv (startNotReady s) :=
  have h1 : Inv (s.latch fun l => { l with notReady := true }) := h.same rfl rfl
  inv_queueAbort (inv_abortArmed h1 hq _) _ _

theorem inv_engineStart (h : Inv s) (l : Label) : Inv (engineStart l s) := by
  unfold engineStart
  split
  · next hc =>
    have hq : s.engine.runState = .armed := by simp at hc; exact hc.1
    split
    · exact inv_takeEpoch h hq
    · exact inv_startNotReady h hq
  · exact h

theorem inv_enginePeerAbort (h : Inv s) (l : Label) : Inv (enginePeerAbort l s) := by
  unfold enginePeerAbort
  (repeat' split)
  · next hq => exact inv_abortUnderWay h (by simp at hq; simp [State.runUnderWay, hq]) _
  · next hq => exact inv_abortArmed h (by simpa using hq) _
  · exact h
  · exact h

/-! ### Inputs -/

theorem runInv_deliverChange (h : RunInv q s) (i : InputNo) (t : Nat) (a : Bool) :
    RunInv q (deliverChange i t a s) := by
  unfold deliverChange
  dsimp only
  split
  · exact runInv_breakerTakes (runInv_takeOperate (runInv_storeRunEvent h _) _ _) _ _
  · exact runInv_breakerTakes (runInv_storeRunEvent h _) _ _

theorem runInv_deliverLockout (h : RunInv q s) (i : InputNo) (b : Bool) : RunInv q (deliverLockout i b s) :=
  runInv_lockoutSeen (runInv_storeRunEvent h _) _

theorem inv_modCond (h : Inv s) (f : Conditioner → Conditioner) : Inv (s.modCond f) := h.same rfl rfl

theorem inv_modInput (h : Inv s) (i : InputNo) (f : InputState → InputState) : Inv (s.modInput i f) := inv_modCond h _

theorem inv_acceptChange (h : Inv s) (i : InputNo) (t : Nat) (a : Bool) : Inv (acceptChange i t a s) := by
  have hd : ∀ {s}, Inv s → Inv (deliverChange i t a s) := fun h => Inv.of (runInv_deliverChange h i t a) (by simp)
  unfold acceptChange
  dsimp only
  split
  · exact inv_engineChange (Inv.of (runInv_deliverLockout (hd (inv_modInput h i _)) i _) (by simp)) i _
  · exact inv_engineChange (hd (inv_modInput h i _)) i _

theorem inv_releaseInput (h : Inv s) (i : InputNo) : Inv (releaseInput i s) := by
  have h1 := inv_modInput h i fun x => { x with lockout := none, history := [] }
  have h2 := Inv.of (runInv_releaseSeen (runInv_storeRunEvent h1 (.inputRelease i (s.input i).raw)) i) (by simp)
  unfold releaseInput
  dsimp only
  split
  · exact h2
  · exact inv_acceptChange h2 _ _ _

theorem inv_settleCandidate (h : Inv s) (i : InputNo) : Inv (settleCandidate i s) := by
  unfold settleCandidate
  split
  · exact inv_acceptChange h _ _ _
  · exact h

theorem inv_settleRelease (h : Inv s) (i : InputNo) : Inv (settleRelease i s) := by
  unfold settleRelease
  split
  · exact inv_releaseInput h _
  · exact h

theorem inv_settleInput (h : Inv s) (i : InputNo) : Inv (settleInput i s) :=
  inv_settleRelease (inv_settleCandidate h i) i

theorem inv_rawTransition (h : Inv s) (i : InputNo) : Inv (rawTransition i s) :=
  inv_settleCandidate (inv_modInput (inv_settleInput h i) i _) i

theorem inv_applySetup (h : Inv s) (i : InputNo) : Inv (applySetup i s) := inv_settleInput (inv_modInput h i _) i

theorem inv_applySetups (h : Inv s) : Inv (applySetups s) := foldl_induct Inv _ (fun _ i h => inv_applySetup h i) _ _ h

/-! ### Amplifiers and the supply -/

theorem inv_takeOverload (h : Inv s) (line : OverloadLine) : Inv (takeOverload line s) := by
  have h1 : ∀ f : Amplifier → Amplifier, Inv (s.modAmp f) := fun f => h.same rfl rfl
  have h2 : ∀ {s}, Inv s → Inv (ampFault s) := fun h => h.same (by simp [runPart]) (by simp)
  have h3 : ∀ {s}, Inv s → Inv (pollerCheck s) := fun h => h.same (by simp [runPart]) (by simp)
  unfold takeOverload
  dsimp only
  (repeat' split)
  · next hq => exact inv_queueAbort (inv_abortUnderWay (h2 (h1 _))
      (by simpa [State.runUnderWay] using .inl (by simpa using hq)) _) _ _
  · exact h3 (h2 (h1 _))
  · exact h3 (h2 (h1 _))
  · exact h3 (h2 (h1 _))
  · exact h1 _
  · exact h1 _

theorem inv_lineDeasserted (h : Inv s) (line : OverloadLine) : Inv (lineDeasserted line s) := by
  have h1 : ∀ {s} (f : Amplifier → Amplifier), Inv s → Inv (s.modAmp f) := fun f h => h.same rfl rfl
  unfold lineDeasserted
  dsimp only
  (repeat' split)
  · exact h
  · exact h1 _ (inv_takeOverload h line)
  · exact h1 _ h

theorem inv_supplyFails (h : Inv s) : Inv (supplyFails s) := by
  have h1 : Inv (outputsToRest (s.withSupplyFail true)) := h.same (by simp [runPart]) (by simp)
  have h2 : ∀ {s}, Inv s → Inv (ampSupplyFail s) := fun h => h.same (by simp [runPart]) (by simp)
  unfold supplyFails
  dsimp only
  (repeat' split)
  · exact h
  · exact h2 (inv_queueAbort (inv_abortRun h1 _) _ _)
  · exact h2 h1

/-! ### Group frames -/

theorem armRefusal_none {l : Label} (h : armRefusal l s = none) :
    s.runActive = false ∧ s.plan.state = .valid ∧ isHeld s.store l = false ∧ s.store.heldLabels.length < 8 ∧
      s.header.visitLimit + 1 ≤ (freeBlocks s.store).length * 8 := by
  unfold armRefusal at h
  (repeat' split at h) <;> try cases h
  next h1 h2 h3 h4 h5 _ =>
    simp [Config.labelCapacity, Config.blockRecords] at h1 h2 h3 h4 h5
    exact ⟨by simpa using h1.1, h2, by simpa using h3, h4, h5⟩

/-- An accepted ARM opens the bookkeeping of a run of no visit, with a place for its label and the whole reserve (R136,
R158). -/
theorem inv_armAccept (h : Inv s) {l : Label} (hl : labelOk l = true) (hr : armRefusal l s = none) :
    Inv (armAccept l s) := by
  obtain ⟨hact, hplan, hheld, hlen, hfree⟩ := armRefusal_none hr
  have hidle : isActive s.engine.runState = false := hact
  have hv := RunInv.visit_none h fun hq => by simp [hq, isActive] at hidle
  have hp := RunInv.pending_nil h (fun hq => by simp [hq, isActive] at hidle) fun hq => by simp [hq, isActive] at hidle
  obtain ⟨-, -, -, hh, hw⟩ := h.clear hv
  have e : ledger (armAccept l s) =
      { ledger s with
        runLabel := some l, visits := 0, inVisit := false
        store := { s.store with reserve := some { evaluations := 0, dropped := 0 } } } := by
    simp [ledger, armAccept]
  have hq : (armAccept l s).engine.runState = .armed := by simp [armAccept]
  rw [Inv, hq]
  refine ⟨?_, fun _ => by simp [armAccept, hh, hw]⟩
  rw [e]
  refine { h.ok with
    plan := fun _ => hplan, inVisit := nofun, pending := fun hne => absurd (by simp [ledger, hp]) hne
    armed := fun _ => rfl
    reserve := rfl, balanced := fun r hr' => ?_ }
  obtain rfl := Option.some.inj hr'
  refine ⟨l, rfl, hl, fun _ => by simpa [labelsOf] using Nat.le_of_lt_succ hlen, ?_, by simp [ledger, hp],
    Nat.zero_le _⟩
  show s.header.visitLimit - 0 + 1 ≤ (freeBlocks s.store).length * 8 + tailRoom s.store l
  omega

theorem inv_coordArm (h : Inv s) {l : Label} (hl : labelOk l = true) : Inv (coordArm l s) := by
  unfold coordArm
  (repeat' split)
  · exact h
  · exact h.same rfl rfl
  · next hr => exact inv_armAccept h hl hr

theorem inv_coordDisarm (h : Inv s) (l : Label) : Inv (coordDisarm l s) := by
  unfold coordDisarm
  split
  · next ha =>
    have hq : s.engine.runState = .armed := by simp [armedWith] at ha; exact ha.1
    have hq' : RunInv .armed s := hq ▸ h
    have h1 : RunInv .idle ((s.modEngine fun g => { g with runState := .idle, runLabel := none }).modStore fun st =>
        { st with reserve := none }) :=
      ⟨ok_ended (s := s) (st := { s.store with reserve := none }) hq'.ok (hq'.visit_none nofun)
        (hq'.pending_nil nofun nofun)
        rfl h.ok.store h.ok.labels rfl none, h.clear⟩
    have hidle : Inv ((s.modEngine fun g => { g with runState := .idle, runLabel := none }).modStore fun st =>
        { st with reserve := none }) := h1
    exact hidle.same (by simp [runPart]) (by simp)
  · exact h

theorem inv_coordMark (h : Inv s) (o : StationNo) (l : Label) (c : Byte) (d : Instant) : Inv (coordMark o l c d s) := by
  unfold coordMark
  split
  · exact inv_engineMark (Inv.of (runInv_storeRunEvent h _) (by simp)) _ _
  · exact h

theorem inv_coordStop (h : Inv s) (l : Label) : Inv (coordStop l s) := by
  unfold coordStop
  split
  · exact inv_engineStop h
  · exact h

theorem inv_coordStep (h : Inv s) (l : Label) : Inv (coordStep l s) := by
  unfold coordStep
  split
  · exact inv_engineStep h
  · exact h

end Sys2Proof.Proofs
end

section
/-! Notices, frames and requests keep the laws of the run, and so does every step. -/

namespace Sys2Proof.Proofs

open Sys2Proof.Machine Sys2Proof.Safety

variable {s t : State}

/-! ### Notices (R118, R123, R130) -/

theorem inv_react (h : Inv s) (e : TxEntry) (o : FrameOutcome) : Inv (react e o s) := by
  unfold react
  split
  · exact Inv.of (runInv_markOutcome h _ _ _ _ _) (by simp)
  · split
    · exact h.same (by simp [runPart]) (by simp)
    · exact h
  · (repeat' split)
    · exact h.same rfl rfl
    · exact h.same (by simp [runPart]) (by simp)
    · exact h
  · exact h.same (by simp [runPart]) (by simp)
  · exact h
  · exact h

theorem inv_settleFor (h : Inv s) (n : Nat) : Inv (settleFor n s) := by
  induction n generalizing s with
  | zero => exact h.same rfl rfl
  | succ n ih =>
    unfold settleFor
    split
    · exact h
    · refine ih (inv_react ?_ _ _)
      exact h.same rfl rfl

theorem inv_settle (h : Inv s) : Inv (settle s) := inv_settleFor h _

/-- A step that ends by telling the owners keeps the laws of the run, notices included. -/
theorem runInvariant_settle (h : Inv s) : RunInvariant (settle s) :=
  (runInvariant_iff _).2 ⟨settle_notices s, inv_settle h⟩

/-- A step that leaves what the laws read as it was, and raises no notice. -/
theorem runInvariant_same (h : RunInvariant s) (e : runPart t = runPart s) (hq : t.engine.runState = s.engine.runState)
    (hn : t.link.notices = s.link.notices) : RunInvariant t := by
  obtain ⟨hquiet, hinv⟩ := (runInvariant_iff s).1 h
  exact (runInvariant_iff t).2 ⟨hn.trans hquiet, hinv.same e hq⟩

theorem inv_readSilent (h : Inv s) : Inv (readSilent s) := h.same (by simp [runPart]) (by simp)

theorem inv_dropEntry (h : Inv s) (e : TxEntry) : Inv (dropEntry e s) := h.same (by simp [runPart]) (by simp)

theorem inv_modLink (h : Inv s) (f : Link → Link) : Inv (s.modLink f) := h.same rfl rfl

theorem inv_dropAll (h : Inv s) : Inv (dropAll s) := by
  have h1 : ∀ q : List TxEntry, Inv
    (settle (q.foldl (fun s e => dropEntry e s) (s.modLink fun l => { l with tx := [] }))) :=
    fun q => inv_settle (foldl_induct Inv _ (fun _ e h => inv_dropEntry h e) q _ (inv_modLink h _))
  unfold dropAll endOutstanding
  dsimp only
  split
  · exact inv_settle (inv_readSilent (h1 _))
  · exact h1 _

theorem inv_mute (h : Inv s) : Inv (mute s) := inv_settle (inv_abortRun (inv_dropAll (inv_modLink h _)) _)

/-! ### Frames -/

theorem inv_muteIfDuplicate (h : Inv s) (f : RxFrame) : Inv (muteIfDuplicate f s) := by
  unfold muteIfDuplicate
  split
  · exact inv_mute h
  · exact h

/-- A received frame keeps the laws when what it does once it is accepted keeps them. -/
theorem runInvariant_receive (h : RunInvariant s) (f : RxFrame) {act : State → State}
    (hact : ∀ s, Inv s → Inv (act s)) :
    RunInvariant (receive f act s) := by
  unfold receive
  (repeat' split)
  · exact h
  · exact runInvariant_same h rfl rfl rfl
  · exact runInvariant_settle (hact _ (inv_modLink (inv_muteIfDuplicate ((runInvariant_iff s).1 h).2 f) _))
  · exact h

theorem runInvariant_receiveGroup {α : Type} (h : RunInvariant s) (k : Nat) (g : List Byte → Option α)
    {act : α → State → State}
    (f : RxFrame) (hact : ∀ p x s, g p = some x → Inv s → Inv (act x s)) : RunInvariant (receiveGroup k g act f s) := by
  refine runInvariant_receive h f fun s hs => ?_
  (repeat' split)
  · next hx => exact hact _ _ _ hx hs
  · exact hs
  · exact hs

theorem labelPayload_ok {p : List Byte} {l : Label} (h : labelPayload p = some l) : labelOk l = true := by
  unfold labelPayload at h
  (repeat' split at h) <;> cases h
  assumption

theorem inv_frameEnded (h : Inv s) (e : TxEntry) (o : FrameOutcome) (a : BitVec 16) : Inv (frameEnded e o a s) := by
  unfold frameEnded
  split
  · next l c d _ =>
    have h1 : Inv (markOutcome e.age l c d o s) := Inv.of (runInv_markOutcome h e.age l c d o) (by simp)
    dsimp only
    split
    · exact inv_engineMark h1 _ _
    · exact h1
  · next l _ =>
    have h1 := inv_engineStart h l
    dsimp only
    split
    · exact h1.same (by simp [runPart]) (by simp)
    · exact h1
  · exact inv_enginePeerAbort h _
  · (repeat' split)
    · exact h.same (by simp [runPart]) (by simp)
    · exact h.same (by simp [runPart]) (by simp)
    · exact h
  · exact h.same (by simp [runPart]) (by simp)
  · exact h

theorem inv_removeEntry (h : Inv s) (a : Nat) : Inv (removeEntry a s) := inv_modLink h _

theorem runInvariant_takeFrameOutcome (h : RunInvariant s) (ack busy : Bool) (a : BitVec 16) :
    RunInvariant (takeFrameOutcome ack busy a s) := by
  unfold takeFrameOutcome
  split
  · exact h
  · exact runInvariant_settle (inv_frameEnded (inv_modLink (inv_removeEntry ((runInvariant_iff s).1 h).2 _) _) _ _ _)

theorem runInvariant_takeFrameCorrupt (h : RunInvariant s) : RunInvariant (takeFrameCorrupt s) := by
  unfold takeFrameCorrupt
  split
  · exact h
  · exact runInvariant_settle (inv_react (inv_removeEntry ((runInvariant_iff s).1 h).2 _) _ _)

theorem runInvariant_contend (h : RunInvariant s) (rivals : List (BitVec 7)) : RunInvariant (contend rivals s) := by
  obtain ⟨hquiet, hinv⟩ := (runInvariant_iff s).1 h
  exact (runInvariant_iff _).2 ⟨by simpa [Quiet] using hquiet, Inv.of (runInv_contend hinv rivals) (by simp)⟩

theorem runInvariant_comeOnline (h : RunInvariant s) (rivals : List (BitVec 7)) :
    RunInvariant (comeOnline rivals s) := by
  unfold comeOnline
  split
  · refine runInvariant_contend ?_ _
    exact runInvariant_same h rfl rfl rfl
  · exact h

theorem runInvariant_resynchronize (h : RunInvariant s) (rivals : List (BitVec 7)) :
    RunInvariant (resynchronize rivals s) := by
  unfold resynchronize
  split
  · refine runInvariant_contend ?_ _
    exact runInvariant_same h rfl rfl rfl
  · exact h

/-! ### Requests -/

theorem inv_refuse (h : Inv s) (r : Request) (c : RefusalCode) (i : Nat) : Inv (refuse r c i s) :=
  h.same (by simp [runPart]) (by simp)

theorem inv_answer (h : Inv s) (r : Request) (k : Nat) (p : List Byte) : Inv (answer r k p s) :=
  h.same (by simp [runPart]) (by simp)

/-- A request in hand is refused, or its fields are in their ranges and it is judged (R182). -/
theorem judged_induct (P : State → Prop) {r : Request} {n : Nat} {checks : List (Nat × Bool)} {k : State → State}
    {s : State}
    (hrefuse : ∀ c i, P (refuse r c i s)) (hk : r.payload.length = n → firstBad checks = none → P (k s)) :
    P (judged r n checks k s) := by
  unfold judged
  split
  · next hn =>
    split
    · exact hrefuse _ _
    · next hc => exact hk hn hc
  · exact hrefuse _ _

theorem runInvariant_serve (h : RunInvariant s) (isKind : Nat → Bool) {judge : Request → State → State}
    (hj : ∀ r s, Inv s → Inv (judge r s)) : RunInvariant (serve isKind judge s) := by
  unfold serve
  (repeat' split)
  · exact runInvariant_settle (hj _ _ ((runInvariant_iff s).1 h).2)
  · exact h
  · exact h
  · exact h

/-- The plan may change while no run holds it (R17). -/
theorem inv_modPlan (h : Inv s) (ha : s.runActive = false) (f : PlanMemory → PlanMemory)
    (hl : 1 ≤ (f s.plan).items.header.visitLimit ∧ (f s.plan).items.header.visitLimit ≤ 64) : Inv (s.modPlan f) := by
  have ha' : isActive s.engine.runState = false := ha
  refine Inv.of (s := s) ⟨{ h.ok with
    limitPos := hl.1, limitLe := hl.2, plan := fun hq => (nomatch hq.symm.trans ha'), balanced := fun r hr => ?_ },
      h.clear⟩ rfl
  exact nomatch ((congrArg Option.isSome hr).symm.trans h.ok.reserve).trans ha'

theorem inv_limit (h : Inv s) : 1 ≤ s.plan.items.header.visitLimit ∧ s.plan.items.header.visitLimit ≤ 64 :=
  ⟨h.ok.limitPos, h.ok.limitLe⟩

/-- An active run's plan is VALID, so no check runs and it is neither EDITING, INVALID nor EMPTY (R17). -/
theorem inv_not_active (h : Inv s) (hp : s.plan.state ≠ .valid) : s.runActive = false := by
  by_contra ha
  exact hp (h.ok.plan (by simpa using ha : s.runActive = true))

theorem inv_judgeRead (h : Inv s) (r : Request) : Inv (judgeRead r s) := by
  refine judged_induct Inv (inv_refuse h r) fun _ _ => ?_
  split
  · exact inv_refuse h _ _ _
  · exact inv_answer h _ _ _

theorem inv_judgeCommit (h : Inv s) (r : Request) : Inv (judgeCommit r s) := by
  have hbegin : s.plan.state ≠ .valid → Inv (beginCheck r s) := fun hp =>
    (inv_modPlan h (inv_not_active h hp) (fun p =>
      { p with state := .checking, committer := some (r.origin, r.tag), checkBegan := some s.clock.elapsed })
      (inv_limit h)).same (by simp [beginCheck, runPart]) (by simp [beginCheck])
  refine judged_induct Inv (inv_refuse h r) fun _ _ => ?_
  split
  · exact inv_refuse h _ _ _
  · exact inv_refuse h _ _ _
  · exact inv_answer h _ _ _
  · next hp => exact hbegin (by simp [hp])
  · next hp => exact hbegin (by simp [hp])

theorem inv_outputsToRest (h : Inv s) : Inv (outputsToRest s) := h.same (by simp [runPart]) (by simp)

theorem inv_emptyPlan (h : Inv s) (ha : s.runActive = false) : Inv (emptyPlan s) :=
  inv_applySetups (inv_modPlan h ha _ (by decide))

theorem inv_judgeClear (h : Inv s) (r : Request) : Inv (judgeClear r s) := by
  refine judged_induct Inv (inv_refuse h r) fun _ _ => ?_
  (repeat' split)
  · exact inv_refuse h _ _ _
  · exact inv_refuse h _ _ _
  · next ha _ => exact inv_answer (inv_outputsToRest (inv_emptyPlan h (by simpa using ha))) _ _ _

theorem inv_place (h : Inv s) (f : TxFrame) (b : Bool) : Inv (place f b s) := h.same (by simp [runPart]) (by simp)

/-- The state as the outcome of a commit check leaves it (R15, R16, R185), its PLAN-RESULT not yet queued. -/
def checkedState (s : State) : State :=
  let s' := s.modPlan fun p => { p with
    state := if commitCheck s.plan.items = .none then .valid else .invalid
    firstError := commitCheck s.plan.items, committer := none, checkBegan := none }
  if commitCheck s.plan.items = .none then s' else s'.latch fun l => { l with planInvalid := true }

/-- The PLAN-RESULT of a commit check (R185, R190). -/
def planResult (st : StationNo) (tag : Byte) (s : State) : TxFrame :=
  { dest := some st
    tag := tag
    body := .reply 20 (planResultPayload (commitCheck s.plan.items) s.plan.clampCount)
    owner := .planMemory }

theorem endCommitCheck_of_not_checking (h : s.plan.state ≠ .checking) : endCommitCheck s = s := by
  simp [endCommitCheck, h]

theorem endCommitCheck_no_committer (h : s.plan.state = .checking) (hc : s.plan.committer = none) :
    endCommitCheck s = checkedState s := by
  simp [endCommitCheck, h, hc, checkedState]

theorem endCommitCheck_committer (h : s.plan.state = .checking) {st : StationNo} {tag : Byte}
    (hc : s.plan.committer = some (st, tag)) :
    endCommitCheck s = settle (place (planResult st tag s) false (checkedState s)) := by
  have hcount : (checkedState s).plan.clampCount = s.plan.clampCount := by
    unfold checkedState
    dsimp only
    split <;> rfl
  simp only [endCommitCheck, h, hc, beq_self_eq_true, if_true, planResult, ← hcount]
  rfl

theorem runInvariant_checkedState (h : RunInvariant s) (hc : s.plan.state = .checking) :
    RunInvariant (checkedState s) := by
  obtain ⟨hquiet, hinv⟩ := (runInvariant_iff s).1 h
  have h1 : ∀ q, RunInvariant (s.modPlan fun p => { p with
      state := q, firstError := commitCheck s.plan.items, committer := none, checkBegan := none }) := fun q =>
    (runInvariant_iff _).2 ⟨hquiet,
      inv_modPlan hinv (inv_not_active hinv fun hv => by simp [hv] at hc) _ (inv_limit hinv)⟩
  unfold checkedState
  dsimp only
  split
  · exact h1 _
  · exact runInvariant_same (h1 _) rfl rfl rfl

theorem runInvariant_endCommitCheck (h : RunInvariant s) : RunInvariant (endCommitCheck s) := by
  by_cases hc : s.plan.state = .checking
  · have h1 := runInvariant_checkedState h hc
    cases hk : s.plan.committer with
    | none => rwa [endCommitCheck_no_committer hc hk]
    | some k =>
      rw [endCommitCheck_committer (st := k.1) (tag := k.2) hc hk]
      exact runInvariant_settle (inv_place ((runInvariant_iff _).1 h1).2 _ _)
  · rwa [endCommitCheck_of_not_checking hc]

theorem inv_judgeRecordRead (h : Inv s) (r : Request) : Inv (judgeRecordRead r s) := by
  refine judged_induct Inv (inv_refuse h r) fun _ _ => ?_
  dsimp only
  split <;> exact inv_answer h _ _ _

/-- A released label is none of an active run, whose reserve only grows by it (R150, R161). -/
theorem inv_releaseLabel (h : Inv s) {x : HeldLabel} (hx : x ∈ s.store.heldLabels)
    (hl : s.runActive = true → s.engine.runLabel ≠ some x.label) : Inv (s.modStore (releaseLabel x)) := by
  have hlab := labelsOf_release x s.store
  have hlen : (labelsOf (releaseLabel x s.store)).length ≤ (labelsOf s.store).length := by
    rw [hlab]
    exact List.length_filter_le _ _
  refine Inv.of (s := s) ⟨{ h.ok with
    store := storeOk_release h.ok.store hx, labels := hlen.trans h.ok.labels, reserve := h.ok.reserve
    balanced := fun r hr => ?_ }, h.clear⟩ rfl
  have hr' : s.store.reserve = some r := hr
  have ha : s.runActive = true := h.ok.reserve.symm.trans (congrArg Option.isSome hr')
  obtain ⟨l, hb⟩ := h.ok.balanced r hr'
  have hne : l ≠ x.label := fun e => hl ha (e ▸ hb.label)
  refine ⟨l, { hb with
    place := fun hn => hlen.trans (hb.place ?_), reserve := hb.reserve.trans (freeCapacity_release h.ok.store hx hne) }⟩
  rw [Bool.eq_false_iff] at hn ⊢
  refine fun hh => hn ?_
  rw [isHeld_iff] at hh ⊢
  rw [show labelsOf (ledger (s.modStore (releaseLabel x))).store = labelsOf (releaseLabel x s.store) from rfl, hlab]
  exact List.mem_filter.2 ⟨hh, by simpa using hne⟩

theorem inv_judgeRelease (h : Inv s) (r : Request) : Inv (judgeRelease r s) := by
  refine judged_induct Inv (inv_refuse h r) fun _ _ => ?_
  dsimp only
  (repeat' split)
  · exact inv_refuse h _ _ _
  · exact inv_refuse h _ _ _
  · next hno _ x hx =>
    obtain ⟨hm, hl⟩ := findLabel_mem hx
    refine inv_answer (inv_releaseLabel h hm fun ha hlabel => hno ?_) _ _ _
    rw [hl] at hlabel
    simp [ha, hlabel]

theorem inv_judgeGather (h : Inv s) (r : Request) : Inv (judgeGather r s) := by
  refine judged_induct Inv (inv_refuse h r) fun _ _ => ?_
  dsimp only
  (repeat' split)
  · exact inv_refuse h _ _ _
  · exact inv_refuse h _ _ _
  · exact h.same (by simp [runPart]) (by simp)

theorem inv_judgeReportRead (h : Inv s) (r : Request) : Inv (judgeReportRead r s) := by
  refine judged_induct Inv (inv_refuse h r) fun _ _ => ?_
  (repeat' split)
  · exact inv_refuse h _ _ _
  · exact inv_refuse h _ _ _
  · exact inv_answer h _ _ _

theorem inv_judgeStatusRead (h : Inv s) (r : Request) : Inv (judgeStatusRead r s) := by
  refine judged_induct Inv (inv_refuse h r) fun _ _ => ?_
  dsimp only
  (repeat' split) <;> exact h.same (by simp [runPart]) (by simp)

/-! ### Station reset (R187) -/

theorem inv_resetRun (h : Inv s) : Inv (resetRun s).1 := by
  unfold resetRun
  split
  · exact inv_queueAbort (inv_abortRun h _) _ _
  · exact h

theorem abortRun_not_active (h : s.runActive = true) (r : EndReason) : (abortRun r s).runActive = false := by
  have hq : ∀ t : State, t.engine.runState = .aborted → t.runActive = false := fun t ht => by simp [State.runActive, ht]
  unfold abortRun
  (repeat' split)
  · exact hq _ (abortUnderWay_runState r s)
  · exact hq _ (abortArmed_runState r s)
  · next hu ha => simp_all [State.runActive, State.runUnderWay]

theorem resetRun_not_active (s : State) : (resetRun s).1.runActive = false := by
  unfold resetRun
  split
  · next ha => simpa using abortRun_not_active ha .stationReset
  · next ha => simpa using ha

theorem inv_logRemoved (h : Inv s) (e : TxEntry) : Inv (logRemoved e s) := by
  unfold logRemoved
  split
  · exact Inv.of (runInv_logMark h _ _ _ _ _) (by simp)
  all_goals exact h

theorem inv_resetTx (h : Inv s) (a : Option Nat) : Inv (resetTx a s) :=
  foldl_induct Inv _ (fun _ e h => inv_logRemoved h e) _ _ (inv_modLink h _)

theorem inv_stationReset (h : Inv s) (r : Request) : Inv (stationReset r s) := by
  have h1 : Inv (emptyPlan (settle (resetRun s).1)) :=
    inv_emptyPlan (inv_settle (inv_resetRun h)) (by simpa using resetRun_not_active s)
  have h2 : Inv (gatherReset (resetBreaker
    (ampReset (synthReset (outputsToRest (emptyPlan (settle (resetRun s).1))))))) :=
    h1.same (by simp [runPart]) (by simp)
  have h3 := inv_resetTx h2 (resetRun s).2
  have h4 := h3.same (t := serviceOver (acceptNow r (pollerOff (clearLatch ((resetTx (resetRun s).2 (gatherReset
    (resetBreaker (ampReset (synthReset (outputsToRest (emptyPlan (settle (resetRun s).1)))))))).modLink
      fun l => { l with requests := [] }))))) (by simp [runPart]) (by simp)
  unfold stationReset
  dsimp only
  split
  · exact h4.same (by simp [runPart]) (by simp)
  · exact h4

theorem inv_judgeReset (h : Inv s) (r : Request) : Inv (judgeReset r s) :=
  judged_induct Inv (inv_refuse h r) fun _ _ => inv_stationReset h r

end Sys2Proof.Proofs
end

section
/-! Plan items as bytes: what each kind of item reads back as, and that the ranges of R4 to R12 are what a reading that
is not refused stores. -/

namespace Sys2Proof.Proofs

open Sys2Proof.Machine Sys2Proof.Safety Sys2Proof.Claims

/-! ### Bytes and numbers -/

@[simp] theorem byte_toNat (n : Nat) : (byte n).toNat = n % 256 := BitVec.toNat_ofNat _ _

theorem byteAt_lt (p : List Byte) (i : Nat) : byteAt p i < 256 := (p.getD i 0).isLt

@[simp] theorem byteAt_cons_zero (b : Byte) (p : List Byte) : byteAt (b :: p) 0 = b.toNat := rfl

@[simp] theorem byteAt_cons_succ (b : Byte) (p : List Byte) (i : Nat) : byteAt (b :: p) (i + 1) = byteAt p i := rfl

theorem num2_lt (p : List Byte) (i : Nat) : num2 p i < 65536 := by
  have h1 := byteAt_lt p i
  have h2 := byteAt_lt p (i + 1)
  unfold num2
  omega

theorem num2_bytes2 (n : Nat) : (n / 256 % 256) * 256 + n % 256 = n % 65536 := by omega

theorem snum2_bounds (p : List Byte) (i : Nat) : -32768 ≤ snum2 p i ∧ snum2 p i ≤ 32767 := by
  have h1 := BitVec.le_toInt (BitVec.ofNat 16 (num2 p i))
  have h2 := BitVec.toInt_lt (x := BitVec.ofNat 16 (num2 p i))
  unfold snum2
  omega

/-! ### Checks and fields (R3, R182, R189) -/

theorem firstBad_eq_none (cs : List (Nat × Bool)) : firstBad cs = none ↔ ∀ c ∈ cs, c.2 = true := by
  simp [firstBad]

theorem firstBad_append (cs ds : List (Nat × Bool)) :
    firstBad (cs ++ ds) = none ↔ firstBad cs = none ∧ firstBad ds = none := by
  simp only [firstBad_eq_none, List.mem_append, or_imp, forall_and]

@[simp] theorem firstBad_cons (i : Nat) (b : Bool) (cs : List (Nat × Bool)) :
    firstBad ((i, b) :: cs) = none ↔ b = true ∧ firstBad cs = none := by
  simp [firstBad_eq_none]

@[simp] theorem firstBad_nil : firstBad [] = none := rfl

theorem clamped_clampNat {lo hi : Nat} (h : lo ≤ hi) (v : Nat) : Clamped lo hi v (clampNat lo hi v) := by
  unfold Clamped clampNat
  omega

theorem clampNat_bounds {lo hi : Nat} (h : lo ≤ hi) (v : Nat) : lo ≤ clampNat lo hi v ∧ clampNat lo hi v ≤ hi := by
  unfold clampNat
  omega

theorem clampNat_eq {lo hi v : Nat} (h1 : lo ≤ v) (h2 : v ≤ hi) : clampNat lo hi v = v := by
  unfold clampNat
  omega

theorem changed_eq (v w : Nat) : changed v w = differing [(v, w)] := by
  by_cases h : v = w <;> simp [changed, differing, h]

theorem differing_cons (z : Nat × Nat) (zs : List (Nat × Nat)) :
    differing (z :: zs) = changed z.1 z.2 + differing zs := by
  by_cases h : z.1 = z.2 <;> simp [changed, differing, h, Nat.add_comm]

theorem differing_nil : differing [] = 0 := rfl

theorem okOrNone_iff (n v : Nat) : okOrNone n v = true ↔ NamedOrNone n v := by
  simp [okOrNone, NamedOrNone]

theorem storedAs_indexOrNone {n : Nat} [NeZero n] (h : n ≤ 255) (v : Nat) : StoredAs v (indexOrNone n v) := by
  refine ⟨fun hv => by simp [indexOrNone, hv], fun hv => ?_⟩
  have : v ≠ 255 := by omega
  simp [indexOrNone, this, Nat.mod_eq_of_lt hv]

theorem targetAs_targetOf (v : Nat) : TargetAs v (targetOf v) := by
  refine ⟨fun hv => by simp [targetOf, hv], fun hv => ⟨Fin.ofNat 24 v, ?_, Nat.mod_eq_of_lt hv⟩⟩
  have : v ≠ 255 := by omega
  simp [targetOf, this]

theorem codeOk_iff (v : Nat) : codeOk v = true ↔ 1 ≤ v ∧ v ≤ 63 := by simp [codeOk]

theorem codeOrNoneOk_iff (v : Nat) : codeOrNoneOk v = true ↔ CodeOrNone v := by
  simp [codeOrNoneOk, codeOk_iff, CodeOrNone]

theorem codeAs_codeOrNone (v : Nat) : CodeAs v (codeOrNone v) := by
  refine ⟨fun hv => by simp [codeOrNone, hv], fun hv => ?_⟩
  have h1 : v ≠ 255 := by omega
  have h2 : v % 256 = v := by omega
  simp [codeOrNone, h1, byte_toNat, h2]

theorem bitFlags_get (n v : Nat) (i : Fin n) : (bitFlags n v).get i = v.testBit i.val := tabulate_get _ _

/-! ### The ranges of the nine kinds of item (R4 to R12) -/

theorem selectorChecks_iff (p : List Byte) (i : Nat) : firstBad (selectorChecks p i) = none ↔ SelectorInRange p i := by
  have hpar : ∀ e v, parameterOk e v = true ↔
      (e = 1 → v < 24) ∧ (e = 2 ∨ e = 3 → v < 8) ∧ (e = 4 → 1 ≤ v ∧ v ≤ 63) := fun e v => by
    unfold parameterOk
    split <;> simp_all [codeOk_iff]
  simp only [selectorChecks, firstBad_cons, firstBad_nil, decide_eq_true_eq, hpar, SelectorInRange]
  tauto

theorem selectorAs_selectorAt (p : List Byte) (i : Nat) : SelectorAs p i (selectorAt p i) := by
  refine ⟨Nat.mod_eq_of_lt, fun h hv => ?_, fun h hv => ?_, fun h hv => ?_, fun h => ?_, fun h => ?_, rfl⟩ <;>
    simp only [selectorAt, eventOf, h]
  · exact ⟨_, rfl, Nat.mod_eq_of_lt hv⟩
  · exact ⟨_, rfl, Nat.mod_eq_of_lt hv⟩
  · exact ⟨_, rfl, Nat.mod_eq_of_lt hv⟩
  · exact ⟨_, rfl, by rw [byte_toNat, Nat.mod_eq_of_lt (byteAt_lt _ _)]⟩

theorem dcModeOf_off_iff (v : Nat) : dcModeOf v = .off ↔ v = 0 := by
  rcases v with _ | _ | v <;> simp [dcModeOf]

theorem dcModeOf_fixed_iff (v : Nat) : dcModeOf v = .fixed ↔ v = 1 := by
  rcases v with _ | _ | v <;> simp [dcModeOf]

theorem setupRanges : SetupRanges := by
  refine ⟨fun p => ?_, fun bi p => ?_, fun p => ?_⟩
  · refine ⟨?_, rfl, _, rfl, rfl, Nat.mod_eq_of_lt, bitFlags_get _ _, ?_, storedAs_indexOrNone (by decide) _,
      bitFlags_get _ _, bitFlags_get _ _⟩
    · simp only [readItem, readHeader, firstBad_cons, firstBad_nil, decide_eq_true_eq, okOrNone_iff]
      tauto
    · by_cases h : byteAt p 7 = 0 <;> simp [h]
  · refine ⟨?_, _, rfl, ?_, clamped_clampNat (by decide) _, fun h => ?_, fun h => ?_, clamped_clampNat (by decide) _,
      clamped_clampNat (by decide) _, ?_⟩
    · simp [readItem, readInputSetup, firstBad_cons, firstBad_nil]
    · simp
    · simp [chatterLimitOf, h]
    · simpa [chatterLimitOf, h] using clamped_clampNat (by decide) _
    · simp only [differing_cons, differing_nil, readItem, readInputSetup]
      omega
  · refine ⟨?_, _, rfl, by simp, Nat.mod_eq_of_lt, storedAs_indexOrNone (by decide) _, clamped_clampNat (by decide) _,
      clamped_clampNat (by decide) _, storedAs_indexOrNone (by decide) _, storedAs_indexOrNone (by decide) _, ?_⟩
    · simp only [readItem, readBreakerSetup, firstBad_cons, firstBad_nil, decide_eq_true_eq, okOrNone_iff, and_true]
    · simp only [differing_cons, differing_nil, readItem, readBreakerSetup, Nat.add_zero]

theorem termAndStateRanges : TermAndStateRanges := by
  refine ⟨fun k p => ?_, fun st p => ?_, fun st ch p => ?_⟩
  · refine ⟨?_, rfl, _, rfl, by simp, rfl, rfl, selectorAs_selectorAt p 4, selectorAs_selectorAt p 8⟩
    simp only [readItem, readReportTerm, firstBad_cons, List.cons_append, firstBad_append, selectorChecks_iff,
      firstBad_nil,
      decide_eq_true_eq]
    tauto
  · refine ⟨?_, _, rfl, clamped_clampNat (by decide) _, clamped_clampNat (by decide) _, targetAs_targetOf _,
      bitFlags_get _ _, fun o => ?_, codeAs_codeOrNone _, ?_⟩
    · simp only [readItem, readStateControl, firstBad_cons, firstBad_nil, decide_eq_true_eq, okOrNone_iff,
        codeOrNoneOk_iff,
        and_true]
    · rw [tabulate_get]
      exact clamped_clampNat (by decide) _
    · simp only [show List.finRange 4 = [0, 1, 2, 3] from rfl, List.map_cons, List.map_nil, List.cons_append,
        List.nil_append,
        differing_cons, differing_nil, tabulate_get]
      show changed _ _ + changed _ _ + changed _ _ + changed _ _ + changed _ _ + changed _ _ = _
      simp only [Nat.add_assoc]
      rfl
  · obtain ⟨hlo, hhi⟩ := snum2_bounds p 15
    refine ⟨?_, _, rfl, clamped_clampNat (Nat.zero_le _) _, rfl, rfl, fun h => by simp [h], fun h => ?_, ?_, ?_,
      fun h => by simp [h], fun h => ?_, rfl, ?_⟩
    · simp only [readItem, readStateChannel, firstBad_cons, firstBad_nil, decide_eq_true_eq, and_true]
    · simpa [h] using clamped_clampNat (by decide) _
    · exact dcModeOf_off_iff _
    · exact dcModeOf_fixed_iff _
    · simp only [h, beq_self_eq_true, if_true]
      split <;> omega
    · have hdc : (if ((byteAt p 14 == 1) && decide
        (snum2 p 15 ≠ if (byteAt p 14 == 1) = true then max (-32767) (snum2 p 15) else 0)) = true
          then 1 else 0) = if byteAt p 14 = 1 ∧ snum2 p 15 = -32768 then 1 else 0 := by
        refine if_congr ?_ rfl rfl
        by_cases h : byteAt p 14 = 1
        · simp only [h, beq_self_eq_true, if_true, Bool.true_and, decide_eq_true_eq, true_and]
          omega
        · simp [h]
      simp only [readItem, readStateChannel, differing_cons, differing_nil, Nat.add_zero, hdc]

theorem triggerRanges : TriggerRanges := by
  refine ⟨fun st n p => ?_, fun st bi p => ?_, fun st p => ?_⟩
  · have hedge : (if byteAt p 9 = 1 then Direction.operate else .reset) = .operate ↔ byteAt p 9 = 1 := by
      by_cases h : byteAt p 9 = 1 <;> simp [h]
    dsimp only
    rcases h : byteAt p 3 with _ | _ | _ | _ | _ | k <;>
      simp only [readItem, readStateTrigger, h, firstBad_cons, firstBad_nil, decide_eq_true_eq, okOrNone_iff,
        codeOrNoneOk_iff, codeOk_iff, beq_iff_eq]
    · exact ⟨by simp, _, rfl, by simp⟩
    · exact ⟨by simp, _, rfl, by simp,
        fun _ => ⟨_, _, _, rfl, clamped_clampNat (by decide) _, targetAs_targetOf _, codeAs_codeOrNone _,
          changed_eq _ _⟩,
        by simp⟩
    · exact ⟨by simp, _, rfl, by simp, by simp,
        fun _ => ⟨_, _, _, _, rfl, Nat.mod_eq_of_lt, hedge, targetAs_targetOf _, codeAs_codeOrNone _, trivial⟩, by simp⟩
    · exact ⟨by simp [and_assoc], _, rfl, by simp, by simp, by simp,
        fun _ => ⟨_, _, _, rfl, by rw [byte_toNat, Nat.mod_eq_of_lt (byteAt_lt _ _)],
          storedAs_indexOrNone (by decide) _,
          targetAs_targetOf _, trivial⟩, by simp⟩
    · exact ⟨by simp, _, rfl, by simp, by simp, by simp, by simp, fun _ => ⟨_, rfl, targetAs_targetOf _, trivial⟩⟩
    · exact ⟨by simp, _, rfl, by simp⟩
  · dsimp only
    rcases h : byteAt p 3 with _ | _ | _ | k <;>
      simp only [readItem, readStateWindow, h, firstBad_cons, firstBad_nil, decide_eq_true_eq]
    · exact ⟨by simp, _, rfl, by simp⟩
    · exact ⟨by simp [clampNat], _, rfl, by simp, by simp, fun _ => ⟨_, _, rfl, clamped_clampNat (by decide) _,
        clamped_clampNat (by decide) _, by simp only [differing_cons, differing_nil, Nat.add_zero]⟩⟩
    · exact ⟨by simp, _, rfl, by simp⟩
    · exact ⟨by simp, _, rfl, by simp⟩
  · refine ⟨?_, rfl, _, rfl, fun i => ?_⟩
    · simp only [readItem, readStateMarks, firstBad_eq_none, List.forall_mem_map, List.mem_range, codeOrNoneOk_iff]
      exact ⟨fun h i => h i.val i.isLt, fun h i hi => h ⟨i, hi⟩⟩
    · rw [tabulate_get]
      exact codeAs_codeOrNone _

end Sys2Proof.Proofs
end

section
/-! Every command and the passing of time keep the laws of the run. -/

namespace Sys2Proof.Proofs

open Sys2Proof.Machine Sys2Proof.Safety

variable {s t : State}

/-! ### PLAN-WRITE (R2, R3, R17) -/

theorem readItem_id (id : ItemId) (p : List Byte) : (readItem id p).item.id = id := by
  cases id with
  | stateTrigger st n =>
    simp only [readItem, readStateTrigger]
    split <;> rfl
  | stateWindow st bi =>
    simp only [readItem, readStateWindow]
    split <;> rfl
  | _ => rfl

/-- A HEADER that is not refused names a visit limit of 1..64 (R4); no other item touches it. -/
theorem storeItem_limit {id : ItemId} {p : List Byte} (hok : firstBad (readItem id p).checks = none) {m : PlanItems}
    (hm : 1 ≤ m.header.visitLimit ∧ m.header.visitLimit ≤ 64) :
    1 ≤ (storeItem (readItem id p).item m).header.visitLimit ∧
      (storeItem (readItem id p).item m).header.visitLimit ≤ 64 := by
  have hid := readItem_id id p
  cases hx : (readItem id p).item with
  | header h =>
    obtain rfl : id = .header := by rw [hx] at hid; exact hid.symm
    obtain ⟨hrange, -, h', hh', hlim, -⟩ := setupRanges.1 p
    obtain rfl : h' = h := by rw [hh'] at hx; exact PlanItem.header.inj hx
    obtain ⟨hlo, hhi, -⟩ := hrange.1 hok
    exact ⟨hlim ▸ hlo, hlim ▸ hhi⟩
  | _ => exact hm

theorem inv_writePlan (h : Inv s) (ha : s.runActive = false) (r : Request) (x : Reading)
    (hl : 1 ≤ (storeItem x.item s.plan.items).header.visitLimit ∧
      (storeItem x.item s.plan.items).header.visitLimit ≤ 64) :
    Inv (writePlan r x s) := by
  have h1 := inv_modPlan h ha (fun p =>
    { p with
      items := storeItem x.item p.items
      state := .editing
      clampCount := satAdd Config.countLimit p.clampCount x.clamped }) hl
  refine inv_answer ?_ _ _ _
  split
  · exact inv_outputsToRest h1
  · exact inv_applySetup h1 _
  · exact h1

theorem inv_judgeWrite (h : Inv s) (r : Request) : Inv (judgeWrite r s) := by
  unfold judgeWrite
  split
  · exact inv_refuse h _ _ _
  · split
    · exact inv_refuse h _ _ _
    · refine judged_induct Inv (inv_refuse h r) fun _ hok => ?_
      split
      · exact inv_refuse h _ _ _
      · next ha =>
        split
        · exact inv_refuse h _ _ _
        · exact inv_writePlan h (by simpa using ha) r _
            (storeItem_limit ((firstBad_append _ _).1 hok).2 (inv_limit h))

/-! ### The passing of time, and reset -/

theorem runInvariant_tick (h : RunInvariant s) : RunInvariant (tick s) := by
  have h1 := runInvariant_settle (Inv.of (runInv_resolveHeld ((runInvariant_iff s).1 h).2) (by simp))
  exact runInvariant_same h1 rfl rfl rfl

/-- The state after a power-on or pin reset: an empty store, no run, and the default visit limit of 64 (R18, R64, R163).
-/
theorem runInvariant_afterPowerOn (p : PinSample) (q : List Instr) : RunInvariant (State.afterPowerOn p q) := by
  refine (runInvariant_iff _).2 ⟨rfl, ?_, fun _ => ⟨rfl, rfl, rfl, rfl, rfl⟩⟩
  have hfree : ∀ b, (Store.initial.blocks.get b) = StoreBlock.free := fun b => by
    simp [Store.initial, Vector.get]
  exact
    { store := ⟨nofun, .nil, .nil, fun b => by simp [State.afterPowerOn, ledger, StoreBlock.free, Store.initial],
      fun b _ => hfree b⟩
      labels := Nat.zero_le _, limitPos := show 1 ≤ 64 by decide, limitLe := Nat.le_refl 64, plan := nofun
      inVisit := nofun
      pending := fun h => absurd rfl h, armed := nofun, reserve := rfl, balanced := nofun }

/-! ### Every command -/

/-- What a command answers, as the state: every command answers a next state, and this one keeps the laws. -/
theorem runInvariant_of_next {o : Host.Outcome State Fault Refusal} {u : State} (ho : o = .next u) (hu : RunInvariant u)
    (h : o = .next t) : RunInvariant t := by
  obtain rfl : u = t := Host.Outcome.next.inj (ho.symm.trans h)
  exact hu

/-- A step that keeps the laws in the run state as it was, and raises no notice. -/
theorem runInvariant_run (h : RunInvariant s) (hi : RunInv s.engine.runState t)
    (hq : t.engine.runState = s.engine.runState)
    (hn : t.link.notices = s.link.notices) : RunInvariant t :=
  (runInvariant_iff t).2 ⟨hn.trans ((runInvariant_iff s).1 h).1, Inv.of hi hq⟩

/-- An event that is due is taken and its outcomes told; one that is not leaves the part as it stands. -/
theorem runInvariant_ite {b : Bool} (h : RunInvariant s) {u : State} (hu : b = true → RunInvariant u) :
    RunInvariant (if b = true then u else s) := by
  split
  · exact hu ‹_›
  · exact h

theorem runInvariant_exec (c : Instr) (h : RunInvariant s) (ht : exec c s = .next t) : RunInvariant t := by
  have hi := ((runInvariant_iff s).1 h).2
  cases c <;> refine runInvariant_of_next rfl ?_ ht
  case powerOnReset p => exact runInvariant_afterPowerOn p _
  case supplyFailAsserted => exact runInvariant_settle (inv_supplyFails hi)
  case supplyFailDeasserted => exact runInvariant_same h rfl rfl rfl
  case cableIdle r => exact runInvariant_contend h r
  case frameCorrupt => exact runInvariant_takeFrameCorrupt h
  case frameOutcome a b x => exact runInvariant_takeFrameOutcome h a b x
  case linkOnline r => exact runInvariant_comeOnline h r
  case overlengthFrameResync r => exact runInvariant_resynchronize h r
  case duplicateOriginFrame f => exact runInvariant_receive h f fun _ hs => hs
  case requestArrival f =>
    refine runInvariant_receive h f fun s hs => ?_
    split
    · exact hs
    · exact hs.same (by simp [runPart]) (by simp)
  case replyReceived f =>
    refine runInvariant_receive h f fun s hs => ?_
    split
    · exact hs.same (by simp [runPart]) (by simp)
    · exact hs
  case arm f => exact runInvariant_receiveGroup h _ _ f fun _ _ _ hx hs => inv_coordArm hs (labelPayload_ok hx)
  case disarm f => exact runInvariant_receiveGroup h _ _ f fun _ l _ _ hs => inv_coordDisarm hs l
  case start f => exact runInvariant_receiveGroup h _ _ f fun _ l _ _ hs => inv_engineStart hs l
  case stop f => exact runInvariant_receiveGroup h _ _ f fun _ l _ _ hs => inv_coordStop hs l
  case step f => exact runInvariant_receiveGroup h _ _ f fun _ l _ _ hs => inv_coordStep hs l
  case abort f => exact runInvariant_receiveGroup h _ _ f fun _ l _ _ hs => inv_enginePeerAbort hs l
  case mark f => exact runInvariant_receiveGroup h _ _ f fun _ _ _ _ hs => inv_coordMark hs _ _ _ _
  case rollcall f => exact runInvariant_receiveGroup h _ _ f fun _ _ _ _ hs => hs
  case planWrite => exact runInvariant_serve h _ fun r _ hs => inv_judgeWrite hs r
  case planRead => exact runInvariant_serve h _ fun r _ hs => inv_judgeRead hs r
  case planCommit => exact runInvariant_serve h _ fun r _ hs => inv_judgeCommit hs r
  case planClear => exact runInvariant_serve h _ fun r _ hs => inv_judgeClear hs r
  case recordRead => exact runInvariant_serve h _ fun r _ hs => inv_judgeRecordRead hs r
  case release => exact runInvariant_serve h _ fun r _ hs => inv_judgeRelease hs r
  case gather => exact runInvariant_serve h _ fun r _ hs => inv_judgeGather hs r
  case reportRead => exact runInvariant_serve h _ fun r _ hs => inv_judgeReportRead hs r
  case statusRead => exact runInvariant_serve h _ fun r _ hs => inv_judgeStatusRead hs r
  case resetStation => exact runInvariant_serve h _ fun r _ hs => inv_judgeReset hs r
  case unknownKindRequest => exact runInvariant_serve h _ fun r _ hs => inv_refuse hs r _ _
  case commitCheckEnd => exact runInvariant_endCommitCheck h
  case initialStateEntry => exact runInvariant_ite h fun hd => runInvariant_settle (inv_takeInitialEntry hi hd)
  case timerExpiry n => exact runInvariant_ite h fun _ => runInvariant_settle (Inv.of (runInv_takeTimer hi n) (by simp))
  case backstopExpiry =>
    exact runInvariant_ite h fun _ => runInvariant_settle (Inv.of (runInv_takeBackstop hi) (by simp))
  case exitBoundary => exact runInvariant_ite h fun hd => runInvariant_settle (inv_takeExit hi (exitDue_running hd))
  case fallbackDeadline =>
    exact runInvariant_ite h fun _ => runInvariant_settle (Inv.of (runInv_takeFallback hi) (by simp))
  case clockLimit =>
    refine runInvariant_ite h fun hd => runInvariant_settle (inv_takeClockLimit hi ?_)
    simp only [clockLimitDue, Bool.and_eq_true, beq_iff_eq] at hd
    exact hd.1
  case boDelayExpiry o => exact runInvariant_ite h fun _ => runInvariant_same h (by simp [runPart]) (by simp) (by simp)
  case sampleBoundary => exact runInvariant_ite h fun _ => runInvariant_same h (by simp [runPart]) (by simp) (by simp)
  case rawTransition i => exact runInvariant_settle (inv_rawTransition hi i)
  case debounceDeadline i => exact runInvariant_settle (inv_settleCandidate hi i)
  case lockoutRelease i => exact runInvariant_settle (inv_settleRelease hi i)
  case openTimerExpiry =>
    exact runInvariant_ite h fun _ => runInvariant_run h (runInv_breakerOpens hi) (by simp) (by simp)
  case closeTimerExpiry =>
    refine runInvariant_ite h fun _ => ?_
    split
    · next i _ => exact runInvariant_run h (runInv_breakerCloses hi i) (by simp) (by simp)
    · exact h
  case warmUpExpiry => exact runInvariant_ite h fun _ => runInvariant_settle (hi.same (by simp [runPart]) (by simp))
  case idleTimerExpiry => exact runInvariant_ite h fun _ => runInvariant_same h (by simp [runPart]) (by simp) (by simp)
  case overloadLineAsserted line => exact runInvariant_same h (by simp [runPart]) (by simp) (by simp)
  case overloadLineDeasserted line => exact runInvariant_settle (inv_lineDeasserted hi line)
  case overloadReport line => exact runInvariant_ite h fun _ => runInvariant_settle (inv_takeOverload hi line)
  case settleHorizon => exact runInvariant_ite h fun _ => runInvariant_settle (inv_takeHorizon hi)
  case pollInstant => exact runInvariant_ite h fun _ => runInvariant_settle (hi.same (by simp [runPart]) (by simp))
  case gatherReplyDeadline => exact runInvariant_ite h fun _ => runInvariant_settle (inv_readSilent hi)
  case gatherRepeatInstant =>
    exact runInvariant_ite h fun _ => runInvariant_settle (hi.same (by simp [runPart]) (by simp))
  case gatherOnFinish => exact runInvariant_ite h fun _ => runInvariant_settle (hi.same (by simp [runPart]) (by simp))
  case requestServiceEnd =>
    unfold endService
    split
    · exact runInvariant_settle (hi.same (by simp [runPart]) (by simp))
    · exact h
    · exact h

/-- Settles O56: the laws of a run and of the store are kept by every command, and by the passing of time. -/
theorem stepKeepsTheRunInvariant : Obligations.StepKeepsTheRunInvariant := by
  intro s t h ht
  unfold step at ht
  split at ht
  · next c rest _ =>
    have h1 : RunInvariant (s.withPending rest) := runInvariant_same h rfl rfl rfl
    exact runInvariant_exec c h1 ht
  · split at ht
    · exact runInvariant_exec _ h ht
    · exact runInvariant_of_next rfl (runInvariant_tick h) ht

end Sys2Proof.Proofs
end

section
/-! Every item in its ranges reads back from its own payload as it stands (R2, R14), and what a reading stores is in its
ranges (R3 to R12). -/

namespace Sys2Proof.Proofs

open Sys2Proof.Machine Sys2Proof.Safety Sys2Proof.Claims

/-! ### Flags as numbers -/

theorem numOfBits_reverse_cons (b : Bool) (bs : List Bool) :
    numOfBits (b :: bs).reverse = 2 * numOfBits bs.reverse + b.toNat := by
  simp [numOfBits, List.foldl_append]

theorem numOfBits_reverse_lt (bs : List Bool) : numOfBits bs.reverse < 2 ^ bs.length := by
  induction bs with
  | nil => simp [numOfBits]
  | cons b bs ih =>
    rw [numOfBits_reverse_cons, List.length_cons, Nat.pow_succ]
    have := Bool.toNat_lt b
    omega

theorem numOfBits_reverse_testBit (bs : List Bool) (i : Nat) : (numOfBits bs.reverse).testBit i = bs.getD i false := by
  induction bs generalizing i with
  | nil => simp [numOfBits]
  | cons b bs ih =>
    rw [numOfBits_reverse_cons]
    cases i with
    | zero => cases b <;> simp [Nat.testBit_zero]
    | succ i =>
      rw [Nat.testBit_succ, List.getD_cons_succ, ← ih]
      have := Bool.toNat_lt b
      congr 1
      omega

theorem flagBits_lt {n : Nat} (v : Vector Bool n) : flagBits v < 2 ^ n := by
  simpa [flagBits] using numOfBits_reverse_lt v.toList

theorem bitFlags_flagBits {n : Nat} (v : Vector Bool n) : bitFlags n (flagBits v) = v := by
  refine Vector.ext fun i hi => ?_
  have h := bitFlags_get n (flagBits v) ⟨i, hi⟩
  rw [show (bitFlags n (flagBits v))[i] = (bitFlags n (flagBits v)).get ⟨i, hi⟩ from rfl, h, flagBits,
    numOfBits_reverse_testBit]
  simp [List.getD_eq_getElem?_getD, hi]

/-! ### Fields that read back -/

theorem orNone_mod {n : Nat} (h : n ≤ 255) (o : Option (Fin n)) :
    orNone (o.map (·.val)) % 256 = orNone (o.map (·.val)) := by
  cases o with
  | none => rfl
  | some x => exact Nat.mod_eq_of_lt (by have := x.isLt; show x.val < 256; omega)

theorem okOrNone_orNone {n : Nat} (o : Option (Fin n)) : okOrNone n (orNone (o.map (·.val))) = true := by
  cases o <;> simp [okOrNone, orNone]

theorem indexOrNone_orNone {n : Nat} [NeZero n] (h : n ≤ 255) (o : Option (Fin n)) :
    indexOrNone n (orNone (o.map (·.val))) = o := by
  cases o with
  | none => rfl
  | some x =>
    have := x.isLt
    have hne : x.val ≠ 255 := by omega
    simp [indexOrNone, orNone, hne]

theorem target_mod (t : Target) : t.code % 256 = t.code := by
  cases t with
  | endRun => rfl
  | state st => exact Nat.mod_eq_of_lt (by have := st.isLt; show st.val < 256; omega)

theorem okOrNone_target (t : Target) : okOrNone 24 t.code = true := by
  cases t <;> simp [okOrNone, Target.code]

theorem targetOf_code (t : Target) : targetOf t.code = t := by
  cases t with
  | endRun => rfl
  | state st =>
    have := st.isLt
    have hne : st.val ≠ 255 := by omega
    simp [targetOf, Target.code, hne]

theorem byte_toNat_self (b : Byte) : byte b.toNat = b := by simp [byte]

/-- A mark code, where one is named, is 1..63. -/
def CodeIn (c : Option MarkCode) : Prop := ∀ x, c = some x → 1 ≤ x.toNat ∧ x.toNat ≤ 63

theorem codeOrNoneOk_markByte {c : Option MarkCode} (h : CodeIn c) : codeOrNoneOk (markByte c).toNat = true := by
  cases c with
  | none => decide
  | some x => exact (codeOrNoneOk_iff _).2 (.inl (h x rfl))

theorem codeOrNone_markByte {c : Option MarkCode} (h : CodeIn c) : codeOrNone (markByte c).toNat = c := by
  cases c with
  | none => decide
  | some x =>
    have hne : x.toNat ≠ 255 := by have := h x rfl; omega
    simp [codeOrNone, markByte, hne, byte_toNat_self]

theorem codeIn_codeOrNone {v : Nat} (h : codeOrNoneOk v = true) : CodeIn (codeOrNone v) := by
  rintro x hx
  rcases (codeOrNoneOk_iff v).1 h with hv | rfl
  · have hne : v ≠ 255 := by omega
    simp only [codeOrNone, hne, if_false, Option.some.injEq] at hx
    rw [← hx, byte_toNat, Nat.mod_eq_of_lt (by omega)]
    exact hv
  · simp [codeOrNone] at hx

theorem changed_self (v : Nat) : changed v v = 0 := by simp [changed]

/-- A signed number in two's complement reads back (R189). -/
theorem ofNat_ofInt_toInt {w : Nat} (i : Int) (h : -2 ^ (w - 1) ≤ i ∧ i < 2 ^ (w - 1)) (hw : 0 < w) :
    (BitVec.ofNat w (BitVec.ofInt w i).toNat).toInt = i := by
  rw [BitVec.ofNat_toNat, BitVec.setWidth_eq, BitVec.toInt_ofInt_eq_self hw h.1 h.2]

/-! ### Addresses (R191) -/

theorem codes_lt (id : ItemId) : id.codes.1 < 256 ∧ id.codes.2.1 < 256 ∧ id.codes.2.2 < 256 := by
  cases id <;> simp only [ItemId.codes] <;> omega

theorem byteAt_address (id : ItemId) (q : List Byte) : byteAt (id.bytes ++ q) 0 = id.codes.1 ∧
    byteAt (id.bytes ++ q) 1 = id.codes.2.1 ∧ byteAt (id.bytes ++ q) 2 = id.codes.2.2 := by
  obtain ⟨h1, h2, h3⟩ := codes_lt id
  simp only [ItemId.bytes, List.cons_append, byteAt_cons_zero, byteAt_cons_succ, byte_toNat, Nat.mod_eq_of_lt h1,
    Nat.mod_eq_of_lt h2, Nat.mod_eq_of_lt h3, and_self]

/-- An item's address bytes are in their ranges and name the item. -/
theorem address_ok (id : ItemId) (q : List Byte) :
    firstBad (addressChecks (id.bytes ++ q)) = none ∧ itemIdOf (id.bytes ++ q) = id := by
  obtain ⟨h0, h1, h2⟩ := byteAt_address id q
  simp only [addressChecks, itemIdOf, h0, h1, h2, firstBad_cons, firstBad_nil]
  cases id <;> simp [ItemId.codes, indexRanges, writeLength]

theorem bytes2_length (n : Nat) : (bytes2 n).length = 2 := rfl

theorem bytes4_length (n : Nat) : (bytes4 n).length = 4 := rfl

theorem trigger_fields_length (t : Trigger) : t.fields.length = 11 := by cases t <;> rfl

theorem window_fields_length (w : Window) : w.fields.length = 9 := by cases w <;> rfl

/-- The length of an item's payload is the one of its kind. -/
theorem writeLength_payload (it : PlanItem) : writeLength (byteAt it.payload 0) = some it.payload.length := by
  rw [PlanItem.payload, (byteAt_address it.id it.fields).1]
  cases it <;>
    simp [PlanItem.id, ItemId.codes, writeLength, ItemId.bytes, PlanItem.fields, bytes2_length, bytes4_length, sbytes2,
      sbytes4,
      Selector.bytes, trigger_fields_length, window_fields_length]

/-! ### The items in their ranges (R4 to R12) -/

/-- The item reads back from its own fields as it stands, with nothing refused and nothing clamped. -/
def ReadsBack (it : PlanItem) : Prop :=
  firstBad (readItem it.id it.payload).checks = none ∧ (readItem it.id it.payload).item = it ∧
    (readItem it.id it.payload).clamped = 0

theorem itemOk_iff (it : PlanItem) : ItemOk it ↔ ReadsBack it := by
  obtain ⟨haddr, hid⟩ := address_ok it.id it.fields
  refine ⟨fun ⟨hok, _, hitem, hcl, _⟩ => ⟨((firstBad_append _ _).1 hok).2, hitem, hcl⟩,
    fun ⟨hok, hitem, hcl⟩ => ⟨(firstBad_append _ _).2 ⟨haddr, hok⟩, hid, hitem, hcl, writeLength_payload it⟩⟩

theorem flagBits_mod (n : Nat) (v : Vector Bool n) (h : 2 ^ n ≤ 65536) : flagBits v % 65536 = flagBits v :=
  Nat.mod_eq_of_lt (by have := flagBits_lt v; omega)

theorem readsBack_header {h : Header} (hr : 1 ≤ h.visitLimit ∧ h.visitLimit ≤ 64) : ReadsBack (.header h) := by
  have hv : h.visitLimit % 256 = h.visitLimit := by omega
  have hi : h.initialState.val % 256 = h.initialState.val := by omega
  have ho := flagBits_lt h.boRest
  have ho' : flagBits h.boRest % 256 = flagBits h.boRest := by omega
  have hm : h.rounding = .nearestEven ∨ h.rounding = .towardZero := by cases h.rounding <;> simp
  simp [ReadsBack, PlanItem.payload, PlanItem.id, ItemId.bytes, PlanItem.fields, bytes2, num2, readItem, readHeader, hv,
    hi, ho', num2_bytes2, flagBits_mod 16 _ (by decide), bitFlags_flagBits, orNone_mod (n := 16) (by decide),
    okOrNone_orNone, indexOrNone_orNone, hr]
  rcases hm with hm | hm <;> simp [hm] <;> cases h <;> simp_all

theorem readsBack_inputSetup (bi : InputNo) {u : InputSetup} (hd : u.debounce ≤ 250)
    (hc : u.chatterLimit = 0 ∨ 3 ≤ u.chatterLimit ∧ u.chatterLimit ≤ 15)
      (hw : 10 ≤ u.chatterWindow ∧ u.chatterWindow ≤ 1000)
    (hq : 10 ≤ u.quietGap ∧ u.quietGap ≤ 2000) : ReadsBack (.inputSetup bi u) := by
  have h1 : u.debounce % 256 = u.debounce := by omega
  have h2 : u.chatterLimit % 256 = u.chatterLimit := by omega
  have h3 : u.chatterWindow % 65536 = u.chatterWindow := by omega
  have h4 : u.quietGap % 65536 = u.quietGap := by omega
  have h5 : chatterLimitOf u.chatterLimit = u.chatterLimit := by
    unfold chatterLimitOf clampNat
    split <;> omega
  simp [ReadsBack, PlanItem.payload, PlanItem.id, ItemId.bytes, PlanItem.fields, bytes2, num2, readItem, readInputSetup,
    h1,
    h2, num2_bytes2, h3, h4, h5, clampNat_eq, changed_self, hd, hw, hq]
  cases u with
  | mk a => cases a <;> simp

theorem readsBack_breakerSetup {b : BreakerSetup} (ho : b.openTime ≤ 500) (hc : b.closeTime ≤ 500) :
    ReadsBack (.breakerSetup b) := by
  have h1 : b.tripInput.val % 256 = b.tripInput.val := by omega
  have h2 : b.openTime % 65536 = b.openTime := by omega
  have h3 : b.closeTime % 65536 = b.closeTime := by omega
  simp [ReadsBack, PlanItem.payload, PlanItem.id, ItemId.bytes, PlanItem.fields, bytes2, num2, readItem,
    readBreakerSetup,
    h1, num2_bytes2, h2, h3, clampNat_eq, changed_self, ho, hc, orNone_mod (n := 8) (by decide),
    orNone_mod (n := 4) (by decide), okOrNone_orNone, indexOrNone_orNone]
  cases b with
  | mk a => cases a <;> simp

/-- A selector's parameter and occurrence are in their ranges (R7). -/
def SelectorIn (x : Selector) : Prop :=
  1 ≤ x.occurrence ∧ x.occurrence ≤ 4 ∧ ∀ c, x.event = .markSent c → 1 ≤ c.toNat ∧ c.toNat ≤ 63

/-- A selector in its ranges reads back from its four bytes, wherever in a payload they stand. -/
theorem selector_reads {x : Selector} (hx : SelectorIn x) {a b c d : Byte} (e : x.bytes = [a, b, c, d]) {p : List Byte}
    {i : Nat}
    (h0 : byteAt p i = a.toNat) (h1 : byteAt p (i + 1) = b.toNat) (h2 : byteAt p (i + 2) = c.toNat)
    (h3 : byteAt p (i + 3) = d.toNat) : firstBad (selectorChecks p i) = none ∧ selectorAt p i = x := by
  obtain ⟨hlo, hhi, hcode⟩ := hx
  have ho : x.occurrence % 256 = x.occurrence := by omega
  have hs : x.station.val % 256 = x.station.val := by omega
  simp only [selectorChecks, selectorAt, h0, h1, h2, h3]
  simp only [Selector.bytes, List.cons.injEq] at e
  obtain ⟨rfl, rfl, rfl, rfl, -⟩ := e
  obtain ⟨st, ev, oc⟩ := x
  dsimp only at hlo hhi hcode ho hs
  cases ev with
  | stateEntry u => simp [parameterOk, eventOf, hs, ho, hlo, hhi, Nat.mod_eq_of_lt (show u.val < 256 by omega)]
  | inputOperate u => simp [parameterOk, eventOf, hs, ho, hlo, hhi, Nat.mod_eq_of_lt (show u.val < 256 by omega)]
  | inputReset u => simp [parameterOk, eventOf, hs, ho, hlo, hhi, Nat.mod_eq_of_lt (show u.val < 256 by omega)]
  | markSent m => simp [parameterOk, eventOf, hs, ho, hlo, hhi, codeOk_iff, hcode m rfl, byte_toNat_self]
  | breakerOpen => simp [parameterOk, eventOf, hs, ho, hlo, hhi]

theorem selector_bytes (x : Selector) : ∃ a b c d, x.bytes = [a, b, c, d] := ⟨_, _, _, _, rfl⟩

theorem num2_of_bytes2 {n : Nat} (h : n < 65536) (q : List Byte) : num2 (bytes2 n ++ q) 0 = n := by
  simp [num2, bytes2]
  omega

theorem num4_of_bytes4 {n : Nat} (h : n < 4294967296) (q : List Byte) : num4 (bytes4 n ++ q) 0 = n := by
  simp [num4, num2, bytes4]
  omega

/-- Signed numbers read back. -/
theorem snum4_of_sbytes4 {i : Int} (h : -2147483648 ≤ i ∧ i < 2147483648) {p : List Byte} {k : Nat} {q : List Byte}
    (e : num4 p k = num4 (sbytes4 i ++ q) 0) : snum4 p k = i := by
  rw [snum4, e, sbytes4, num4_of_bytes4 (BitVec.ofInt 32 i).isLt]
  exact ofNat_ofInt_toInt i h (by decide)

theorem snum2_of_sbytes2 {i : Int} (h : -32768 ≤ i ∧ i < 32768) {p : List Byte} {k : Nat} {q : List Byte}
    (e : num2 p k = num2 (sbytes2 i ++ q) 0) : snum2 p k = i := by
  rw [snum2, e, sbytes2, num2_of_bytes2 (BitVec.ofInt 16 i).isLt]
  exact ofNat_ofInt_toInt i h (by decide)

theorem readsBack_reportTerm (k : TermNo) {r : ReportTerm} (ha : SelectorIn r.selA) (hb : SelectorIn r.selB)
    (h1 : -2147483648 ≤ r.bandMin) (h2 : r.bandMin ≤ r.bandMax) (h3 : r.bandMax < 2147483648) :
    ReadsBack (.reportTerm k r) := by
  obtain ⟨a0, a1, a2, a3, ea⟩ := selector_bytes r.selA
  obtain ⟨b0, b1, b2, b3, eb⟩ := selector_bytes r.selB
  have e : (PlanItem.reportTerm k r).payload = byte 4 :: byte k.val :: byte 0 :: (if r.enabled then 1 else 0) ::
      a0 :: a1 :: a2 :: a3 :: b0 :: b1 :: b2 :: b3 :: (sbytes4 r.bandMin ++ sbytes4 r.bandMax) := by
    simp [PlanItem.payload, PlanItem.id, ItemId.bytes, ItemId.codes, PlanItem.fields, ea, eb]
  obtain ⟨hca, hsa⟩ := selector_reads ha ea (p := (PlanItem.reportTerm k r).payload) (i := 4) (by rw [e]; rfl)
    (by rw [e]; rfl)
    (by rw [e]; rfl) (by rw [e]; rfl)
  obtain ⟨hcb, hsb⟩ := selector_reads hb eb (p := (PlanItem.reportTerm k r).payload) (i := 8) (by rw [e]; rfl)
    (by rw [e]; rfl)
    (by rw [e]; rfl) (by rw [e]; rfl)
  have hmin : snum4 (PlanItem.reportTerm k r).payload 12 = r.bandMin :=
    snum4_of_sbytes4 (q := sbytes4 r.bandMax) ⟨h1, by omega⟩ (by rw [e]; rfl)
  have hmax : snum4 (PlanItem.reportTerm k r).payload 16 = r.bandMax :=
    snum4_of_sbytes4 (q := []) ⟨by omega, h3⟩ (by rw [e]; rfl)
  have hen : byteAt (PlanItem.reportTerm k r).payload 3 = if r.enabled then 1 else 0 := by
    rw [e]; cases r.enabled <;> rfl
  simp only [ReadsBack, PlanItem.id, readItem, readReportTerm, firstBad_cons, firstBad_append, List.cons_append, hca,
    hcb, hsa,
    hsb, hmin, hmax, hen, h2]
  cases r with
  | mk a => cases a <;> simp

theorem tabulate_eq {α : Type} {n : Nat} {f : Fin n → α} {v : Vector α n} (h : ∀ i, f i = v.get i) : tabulate f = v :=
  Vector.ext fun i hi => (tabulate_get f ⟨i, hi⟩).trans (h ⟨i, hi⟩)

theorem toList_four {α : Type} (v : Vector α 4) : v.toList = [v.get 0, v.get 1, v.get 2, v.get 3] := by
  obtain ⟨⟨l⟩, hl⟩ := v
  obtain ⟨a, b, c, d, rfl⟩ := List.length_eq_four.1 hl
  rfl

/-- A number laid out after a prefix of a payload reads back from its place. -/
theorem num4_at {p : List Byte} {n : Nat} (h : n < 4294967296) {a q : List Byte} (e : p = a ++ (bytes4 n ++ q)) :
    num4 p a.length = n := by
  subst e
  induction a with
  | nil => exact num4_of_bytes4 h q
  | cons x a ih => simpa only [num4, num2, List.cons_append, List.length_cons, byteAt_cons_succ, Nat.add_right_comm _ 1]
      using ih

theorem num2_at {p : List Byte} {n : Nat} (h : n < 65536) {a q : List Byte} (e : p = a ++ (bytes2 n ++ q)) :
    num2 p a.length = n := by
  subst e
  induction a with
  | nil => exact num2_of_bytes2 h q
  | cons x a ih => simpa only [num2, List.cons_append, List.length_cons, byteAt_cons_succ, Nat.add_right_comm _ 1]
      using ih

theorem readsBack_stateControl (st : StateNo) {c : StateControl} (hf : 15000 ≤ c.frequency ∧ c.frequency ≤ 75000)
    (hb : 1 ≤ c.backstop ∧ c.backstop ≤ 3600000) (hd : ∀ o, c.boDelays.get o ≤ 1000) (hm : CodeIn c.entryMark) :
    ReadsBack (.stateControl st c) := by
  have hl : flagBits c.boLevels < 16 := flagBits_lt c.boLevels
  have h0 : c.backstop ≠ 0 := by omega
  have e : (PlanItem.stateControl st c).payload = byte 5 :: byte st.val :: byte 0 :: (bytes4 c.frequency ++
      (bytes4 c.backstop ++ (byte c.backstopTarget.code :: byte (flagBits c.boLevels) :: (bytes2 (c.boDelays.get 0) ++
      (bytes2 (c.boDelays.get 1) ++ (bytes2 (c.boDelays.get 2) ++ (bytes2 (c.boDelays.get 3) ++
      [markByte c.entryMark]))))))) := by
    simp [PlanItem.payload, PlanItem.id, ItemId.bytes, ItemId.codes, PlanItem.fields, toList_four]
  have hfr : num4 (PlanItem.stateControl st c).payload 3 = c.frequency := by
    rw [e]; exact num4_at (a := [_, _, _]) (by omega) rfl
  have hbs : num4 (PlanItem.stateControl st c).payload 7 = c.backstop := by
    rw [e]; exact num4_at (a := [_, _, _, _, _, _, _]) (by omega) rfl
  have hd0 : num2 (PlanItem.stateControl st c).payload 13 = c.boDelays.get 0 := by
    rw [e]; exact num2_of_bytes2 (q :=
      bytes2 (c.boDelays.get 1) ++ (bytes2 (c.boDelays.get 2) ++ (bytes2 (c.boDelays.get 3) ++
      [markByte c.entryMark]))) (by have := hd 0; omega)
  have hd1 : num2 (PlanItem.stateControl st c).payload 15 = c.boDelays.get 1 := by
    rw [e]; exact num2_of_bytes2 (q := bytes2 (c.boDelays.get 2) ++ (bytes2 (c.boDelays.get 3) ++
      [markByte c.entryMark])) (by have := hd 1; omega)
  have hd2 : num2 (PlanItem.stateControl st c).payload 17 = c.boDelays.get 2 := by
    rw [e]; exact num2_of_bytes2 (q := bytes2 (c.boDelays.get 3) ++ [markByte c.entryMark]) (by have := hd 2; omega)
  have hd3 : num2 (PlanItem.stateControl st c).payload 19 = c.boDelays.get 3 := by
    rw [e]; exact num2_of_bytes2 (q := [markByte c.entryMark]) (by have := hd 3; omega)
  have hbo : ∀ o : Fin 4, num2 (PlanItem.stateControl st c).payload (13 + 2 * o.val) = c.boDelays.get o
    | 0 => hd0 | 1 => hd1 | 2 => hd2 | 3 => hd3
  have ht : byteAt (PlanItem.stateControl st c).payload 11 = c.backstopTarget.code := by
    rw [e]; exact (byte_toNat _).trans (target_mod _)
  have hlv : byteAt (PlanItem.stateControl st c).payload 12 = flagBits c.boLevels := by
    rw [e]; exact (byte_toNat _).trans (by omega)
  have hem : byteAt (PlanItem.stateControl st c).payload 21 = (markByte c.entryMark).toNat := by rw [e]; rfl
  have hcl : ∀ o, clampNat 0 1000 (c.boDelays.get o) = c.boDelays.get o := fun o => clampNat_eq (Nat.zero_le _) (hd o)
  simp [ReadsBack, PlanItem.id, readItem, readStateControl, hfr, hbs, hbo, hd0, hd1, hd2, hd3, ht, hlv, hem, hcl, hf,
    hb, h0, hl, changed_self,
    clampNat_eq, okOrNone_target, codeOrNoneOk_markByte hm, codeOrNone_markByte hm, targetOf_code, bitFlags_flagBits,
    tabulate_eq (v := c.boDelays) fun i => rfl]

theorem readsBack_stateChannel (st : StateNo) (ch : ChannelNo) {c : ChannelItem} (hm : c.magnitude ≤ magnitudeLimit ch)
    (ha : c.angle < 36000)
    (hh : c.harmonicOrder = 0 ∧ c.harmonicMagnitude = 0 ∧ c.harmonicAngle = 0 ∨
      2 ≤ c.harmonicOrder ∧ c.harmonicOrder ≤ 25 ∧ c.harmonicMagnitude ≤ 1000 ∧ c.harmonicAngle < 36000)
    (hd : c.dcMode = .fixed ∧ -32767 ≤ c.dcInitial ∧ c.dcInitial ≤ 32767 ∨ c.dcMode ≠ .fixed ∧ c.dcInitial = 0)
    (hk : c.kd < 65536) : ReadsBack (.stateChannel st ch c) := by
  have hlim : magnitudeLimit ch ≤ 300000 := by unfold magnitudeLimit; split <;> omega
  have e : (PlanItem.stateChannel st ch c).payload = byte 6 :: byte st.val :: byte ch.val :: (bytes4 c.magnitude ++
      (bytes2 c.angle ++ (byte c.harmonicOrder :: (bytes2 c.harmonicMagnitude ++ (bytes2 c.harmonicAngle ++
      (byte c.dcMode.code :: (sbytes2 c.dcInitial ++ bytes2 c.kd))))))) := by
    simp [PlanItem.payload, PlanItem.id, ItemId.bytes, ItemId.codes, PlanItem.fields]
  have h3 : num4 (PlanItem.stateChannel st ch c).payload 3 = c.magnitude := by
    rw [e]; exact num4_at (a := [_, _, _]) (by omega) rfl
  have h7 : num2 (PlanItem.stateChannel st ch c).payload 7 = c.angle := by
    rw [e]; exact num2_at (a := [_, _, _, _, _, _, _]) (by omega) rfl
  have h9 : byteAt (PlanItem.stateChannel st ch c).payload 9 = c.harmonicOrder := by
    rw [e]; exact (byte_toNat _).trans (Nat.mod_eq_of_lt (by omega))
  have h10 : num2 (PlanItem.stateChannel st ch c).payload 10 = c.harmonicMagnitude := by
    rw [e]; exact num2_at (a := [_, _, _, _, _, _, _, _, _, _]) (by omega) rfl
  have h12 : num2 (PlanItem.stateChannel st ch c).payload 12 = c.harmonicAngle := by
    rw [e]; exact num2_at (a := [_, _, _, _, _, _, _, _, _, _, _, _]) (by omega) rfl
  have h14 : byteAt (PlanItem.stateChannel st ch c).payload 14 = c.dcMode.code := by
    rw [e]; exact (byte_toNat _).trans (by cases c.dcMode <;> rfl)
  have h15 : snum2 (PlanItem.stateChannel st ch c).payload 15 = c.dcInitial :=
    snum2_of_sbytes2 (q := bytes2 c.kd) (by omega) (by rw [e]; rfl)
  have h17 : num2 (PlanItem.stateChannel st ch c).payload 17 = c.kd := by
    rw [e]; exact num2_of_bytes2 (q := []) hk
  have hangle : c.angle % 36000 = c.angle := Nat.mod_eq_of_lt ha
  have horder : c.harmonicOrder = 0 ∨ 2 ≤ c.harmonicOrder ∧ c.harmonicOrder ≤ 25 := by omega
  have hhm : (if c.harmonicOrder = 0 then 0 else clampNat 0 1000 c.harmonicMagnitude) = c.harmonicMagnitude := by
    split
    · omega
    · exact clampNat_eq (by omega) (by omega)
  have hha : (if c.harmonicOrder = 0 then 0 else c.harmonicAngle % 36000) = c.harmonicAngle := by
    split <;> omega
  have hdc : (if (c.dcMode.code == 1) = true then max (-32767) c.dcInitial else 0) = c.dcInitial := by
    cases hmode : c.dcMode <;> simp [hmode, DcMode.code] at hd ⊢ <;> omega
  have hcode : c.dcMode.code < 3 ∧ dcModeOf c.dcMode.code = c.dcMode := by cases c.dcMode <;> decide
  simp only [ReadsBack, PlanItem.id, readItem, readStateChannel, h3, h7, h9, h10, h12, h14, h15, h17, hhm, hha, hdc,
    hangle,
    clampNat_eq (Nat.zero_le _) hm, changed_self, firstBad_cons, firstBad_nil, horder, hcode]
  simp

/-- What a trigger's fields may be (R10). -/
def TriggerIn : Trigger → Prop
  | .timer d _ c => 1 ≤ d ∧ d ≤ 3600000 ∧ CodeIn c
  | .input _ _ _ c => CodeIn c
  | .mark m _ _ => 1 ≤ m.toNat ∧ m.toNat ≤ 63
  | .empty | .step _ => True

theorem readsBack_stateTrigger (st : StateNo) (n : SlotNo) {t : Trigger} (h : TriggerIn t) :
    ReadsBack (.stateTrigger st n t) := by
  cases t with
  | empty => exact ⟨rfl, rfl, rfl⟩
  | timer d tg c =>
    obtain ⟨hlo, hhi, hc⟩ := h
    have hd : num4 (PlanItem.stateTrigger st n (.timer d tg c)).payload 4 = d :=
      num4_of_bytes4 (q := [0, 0, 0, 0, byte tg.code, markByte c]) (by omega)
    have ht : byteAt (PlanItem.stateTrigger st n (.timer d tg c)).payload 12 = tg.code :=
      (byte_toNat _).trans (target_mod _)
    have hm : byteAt (PlanItem.stateTrigger st n (.timer d tg c)).payload 13 = (markByte c).toNat := rfl
    have hk : byteAt (PlanItem.stateTrigger st n (.timer d tg c)).payload 3 = 1 := rfl
    have h0 : d ≠ 0 := by omega
    simp [ReadsBack, PlanItem.id, readItem, readStateTrigger, hk, hd, ht, hm, h0, okOrNone_target,
      codeOrNoneOk_markByte hc,
      codeOrNone_markByte hc, targetOf_code, clampNat_eq (Nat.zero_le _) hhi, changed_self]
  | input bi e tg c =>
    have hb : byteAt (PlanItem.stateTrigger st n (.input bi e tg c)).payload 8 = bi.val :=
      (byte_toNat _).trans (Nat.mod_eq_of_lt (by omega))
    have he : byteAt (PlanItem.stateTrigger st n (.input bi e tg c)).payload 9 = if e = .operate then 1 else 2 := by
      cases e <;> rfl
    have ht : byteAt (PlanItem.stateTrigger st n (.input bi e tg c)).payload 12 = tg.code :=
      (byte_toNat _).trans (target_mod _)
    have hm : byteAt (PlanItem.stateTrigger st n (.input bi e tg c)).payload 13 = (markByte c).toNat := rfl
    have hk : byteAt (PlanItem.stateTrigger st n (.input bi e tg c)).payload 3 = 2 := rfl
    simp [ReadsBack, PlanItem.id, readItem, readStateTrigger, hk, hb, he, ht, hm, okOrNone_target,
      codeOrNoneOk_markByte h,
      codeOrNone_markByte h, targetOf_code]
    cases e <;> simp
  | mark m o tg =>
    have hb : byteAt (PlanItem.stateTrigger st n (.mark m o tg)).payload 10 = m.toNat := rfl
    have ho : byteAt (PlanItem.stateTrigger st n (.mark m o tg)).payload 11 = orNone (o.map (·.val)) :=
      (byte_toNat _).trans (orNone_mod (by decide) o)
    have ht : byteAt (PlanItem.stateTrigger st n (.mark m o tg)).payload 12 = tg.code :=
      (byte_toNat _).trans (target_mod _)
    have hc : byteAt (PlanItem.stateTrigger st n (.mark m o tg)).payload 13 = 255 := rfl
    have hk : byteAt (PlanItem.stateTrigger st n (.mark m o tg)).payload 3 = 3 := rfl
    simp [ReadsBack, PlanItem.id, readItem, readStateTrigger, hk, hb, ho, ht, hc, okOrNone_target, targetOf_code,
      (codeOk_iff _).2 h, okOrNone_orNone, indexOrNone_orNone (n := 16) (by decide), byte_toNat_self]
  | step tg =>
    have ht : byteAt (PlanItem.stateTrigger st n (.step tg)).payload 12 = tg.code := (byte_toNat _).trans (target_mod _)
    have hc : byteAt (PlanItem.stateTrigger st n (.step tg)).payload 13 = 255 := rfl
    have hk : byteAt (PlanItem.stateTrigger st n (.step tg)).payload 3 = 4 := rfl
    simp [ReadsBack, PlanItem.id, readItem, readStateTrigger, hk, ht, hc, okOrNone_target, targetOf_code]

/-- What a window's fields may be (R11). -/
def WindowIn : Window → Prop
  | .operate lo hi => lo ≤ hi ∧ hi ≤ 600000
  | .dontCare | .noOperate => True

theorem readsBack_stateWindow (st : StateNo) (bi : InputNo) {w : Window} (h : WindowIn w) :
    ReadsBack (.stateWindow st bi w) := by
  cases w with
  | dontCare => exact ⟨rfl, rfl, rfl⟩
  | noOperate => exact ⟨rfl, rfl, rfl⟩
  | operate lo hi =>
    obtain ⟨hle, hhi⟩ := h
    have hl : num4 (PlanItem.stateWindow st bi (.operate lo hi)).payload 4 = lo :=
      num4_of_bytes4 (q := bytes4 hi) (by omega)
    have hh : num4 (PlanItem.stateWindow st bi (.operate lo hi)).payload 8 = hi := num4_of_bytes4 (q := []) (by omega)
    have hk : byteAt (PlanItem.stateWindow st bi (.operate lo hi)).payload 3 = 1 := rfl
    simp [ReadsBack, PlanItem.id, readItem, readStateWindow, hk, hl, hh, clampNat_eq (Nat.zero_le _) hhi,
      clampNat_eq (Nat.zero_le _) (hle.trans hhi), changed_self, hle]

theorem readsBack_stateMarks (st : StateNo) {m : Vector (Option MarkCode) 8} (h : ∀ i, CodeIn (m.get i)) :
    ReadsBack (.stateMarks st m) := by
  have hb : ∀ i : Fin 8, byteAt (PlanItem.stateMarks st m).payload (3 + i.val) = (markByte (m.get i)).toNat := by
    intro i
    simp [PlanItem.payload, PlanItem.id, ItemId.bytes, PlanItem.fields, byteAt, Nat.add_comm 3,
      List.getD_eq_getElem?_getD,
      Vector.get_eq_getElem]
  refine ⟨?_, ?_, rfl⟩
  · refine (firstBad_eq_none _).2 fun x hx => ?_
    obtain ⟨i, hi, rfl⟩ := List.mem_map.1 hx
    exact (congrArg codeOrNoneOk (hb ⟨i, List.mem_range.1 hi⟩)).trans (codeOrNoneOk_markByte (h _))
  · exact congrArg (PlanItem.stateMarks st) (tabulate_eq fun i => by rw [hb i, codeOrNone_markByte (h i)])

/-- The fields of an item are in their ranges (R4 to R12). -/
def InRange : PlanItem → Prop
  | .header h => 1 ≤ h.visitLimit ∧ h.visitLimit ≤ 64
  | .inputSetup _ u => u.debounce ≤ 250 ∧ (u.chatterLimit = 0 ∨ 3 ≤ u.chatterLimit ∧ u.chatterLimit ≤ 15) ∧
      (10 ≤ u.chatterWindow ∧ u.chatterWindow ≤ 1000) ∧ 10 ≤ u.quietGap ∧ u.quietGap ≤ 2000
  | .breakerSetup b => b.openTime ≤ 500 ∧ b.closeTime ≤ 500
  | .reportTerm _ r => SelectorIn r.selA ∧ SelectorIn r.selB ∧ -2147483648 ≤ r.bandMin ∧ r.bandMin ≤ r.bandMax ∧
      r.bandMax < 2147483648
  | .stateControl _ c => (15000 ≤ c.frequency ∧ c.frequency ≤ 75000) ∧ (1 ≤ c.backstop ∧ c.backstop ≤ 3600000) ∧
      (∀ o, c.boDelays.get o ≤ 1000) ∧ CodeIn c.entryMark
  | .stateChannel _ ch c => c.magnitude ≤ magnitudeLimit ch ∧ c.angle < 36000 ∧
      (c.harmonicOrder = 0 ∧ c.harmonicMagnitude = 0 ∧ c.harmonicAngle = 0 ∨
        2 ≤ c.harmonicOrder ∧ c.harmonicOrder ≤ 25 ∧ c.harmonicMagnitude ≤ 1000 ∧ c.harmonicAngle < 36000) ∧
      (c.dcMode = .fixed ∧ -32767 ≤ c.dcInitial ∧ c.dcInitial ≤ 32767 ∨ c.dcMode ≠ .fixed ∧ c.dcInitial = 0) ∧
        c.kd < 65536
  | .stateTrigger _ _ t => TriggerIn t
  | .stateWindow _ _ w => WindowIn w
  | .stateMarks _ m => ∀ i, CodeIn (m.get i)

/-- An item in its ranges reads back from its own fields. -/
theorem itemOk_of_inRange {it : PlanItem} (h : InRange it) : ItemOk it := by
  refine (itemOk_iff it).2 ?_
  cases it with
  | header u => exact readsBack_header h
  | inputSetup bi u =>
    obtain ⟨hd, hc, hw, hq⟩ := h
    exact readsBack_inputSetup bi hd hc hw hq
  | breakerSetup b =>
    obtain ⟨ho, hc⟩ := h
    exact readsBack_breakerSetup ho hc
  | reportTerm k r =>
    obtain ⟨ha, hb, hlo, hle, hhi⟩ := h
    exact readsBack_reportTerm k ha hb hlo hle hhi
  | stateControl st c =>
    obtain ⟨hf, hb, hd, hm⟩ := h
    exact readsBack_stateControl st hf hb hd hm
  | stateChannel st ch c =>
    obtain ⟨hm, ha, hh, hd, hk⟩ := h
    exact readsBack_stateChannel st ch hm ha hh hd hk
  | stateTrigger st n t => exact readsBack_stateTrigger st n h
  | stateWindow st bi w => exact readsBack_stateWindow st bi h
  | stateMarks st m => exact readsBack_stateMarks st h

/-! ### What a reading stores is in its ranges -/

theorem inRange_chatterLimitOf (v : Nat) : chatterLimitOf v = 0 ∨ 3 ≤ chatterLimitOf v ∧ chatterLimitOf v ≤ 15 := by
  unfold chatterLimitOf
  split
  · exact .inl rfl
  · exact .inr (clampNat_bounds (by decide) v)

theorem selectorIn_selectorAt {p : List Byte} {i : Nat} (h : firstBad (selectorChecks p i) = none) :
    SelectorIn (selectorAt p i) := by
  simp only [selectorChecks, firstBad_cons, decide_eq_true_eq] at h
  obtain ⟨-, -, hpar, ⟨hlo, hhi⟩, -⟩ := h
  refine ⟨hlo, hhi, fun c hc => ?_⟩
  simp only [selectorAt, eventOf] at hc
  split at hc <;> simp only [reduceCtorEq, SelectorEvent.markSent.injEq] at hc
  next hk =>
    rw [hk] at hpar
    rw [← hc, byte_toNat, Nat.mod_eq_of_lt (byteAt_lt p _)]
    exact (codeOk_iff _).1 hpar

theorem inRange_readStateChannel (st : StateNo) (ch : ChannelNo) {p : List Byte}
    (h : firstBad (readStateChannel st ch p).checks = none) : InRange (readStateChannel st ch p).item := by
  simp only [readStateChannel, firstBad_cons, decide_eq_true_eq] at h
  obtain ⟨horder, hmode, -⟩ := h
  have hsb := snum2_bounds p 15
  refine ⟨(clampNat_bounds (Nat.zero_le _) _).2, Nat.mod_lt _ (by decide), ?_, ?_, num2_lt _ _⟩
  · by_cases h0 : byteAt p 9 = 0
    · simp [h0]
    · have hm := clampNat_bounds (Nat.zero_le 1000) (num2 p 10)
      simp only [h0, if_false]
      omega
  · by_cases h1 : byteAt p 14 = 1
    · simp only [h1, dcModeOf, beq_self_eq_true, if_true, true_and]
      exact .inl ⟨le_max_left _ _, max_le (by decide) hsb.2⟩
    · refine .inr ⟨fun hf => h1 ((dcModeOf_fixed_iff _).1 hf), ?_⟩
      simp [h1]

theorem inRange_readStateTrigger (st : StateNo) (n : SlotNo) {p : List Byte}
    (h : firstBad (readStateTrigger st n p).checks = none) : InRange (readStateTrigger st n p).item := by
  unfold readStateTrigger at h ⊢
  split at h
  · trivial
  · obtain ⟨hne, -, hcode, -⟩ : _ ∧ _ ∧ _ ∧ _ := by simpa only [firstBad_cons, decide_eq_true_eq] using h
    refine ⟨?_, (clampNat_bounds (Nat.zero_le _) _).2, codeIn_codeOrNone hcode⟩
    simp only [clampNat]
    omega
  · obtain ⟨-, -, -, hcode, -⟩ : _ ∧ _ ∧ _ ∧ _ ∧ _ := by simpa only [firstBad_cons, decide_eq_true_eq] using h
    exact codeIn_codeOrNone hcode
  · obtain ⟨hcode, -⟩ : _ ∧ _ := by simpa only [firstBad_cons, decide_eq_true_eq] using h
    show 1 ≤ (byte _).toNat ∧ (byte _).toNat ≤ 63
    rw [byte_toNat, Nat.mod_eq_of_lt (byteAt_lt p _)]
    exact (codeOk_iff _).1 hcode
  · trivial
  · trivial

theorem inRange_readStateWindow (st : StateNo) (bi : InputNo) {p : List Byte}
    (h : firstBad (readStateWindow st bi p).checks = none) : InRange (readStateWindow st bi p).item := by
  unfold readStateWindow at h ⊢
  split at h
  · trivial
  · exact ⟨of_decide_eq_true ((firstBad_cons _ _ _).1 h).1, (clampNat_bounds (Nat.zero_le _) _).2⟩
  · trivial
  · trivial

/-- A reading with nothing refused stores an item in its ranges. -/
theorem inRange_readItem (id : ItemId) {p : List Byte} (h : firstBad (readItem id p).checks = none) :
    InRange (readItem id p).item := by
  cases id with
  | header =>
    obtain ⟨hv, -⟩ : _ ∧ _ := by simpa only [readItem, readHeader, firstBad_cons, decide_eq_true_eq] using h
    exact hv
  | inputSetup bi =>
    exact ⟨(clampNat_bounds (Nat.zero_le _) _).2, inRange_chatterLimitOf _, clampNat_bounds (by decide) _,
      clampNat_bounds (by decide) _⟩
  | breakerSetup => exact ⟨(clampNat_bounds (Nat.zero_le _) _).2, (clampNat_bounds (Nat.zero_le _) _).2⟩
  | reportTerm k =>
    obtain ⟨-, ⟨ha, hb⟩, hle, -⟩ : _ ∧ (_ ∧ _) ∧ _ ∧ _ := by
      simpa only [readItem, readReportTerm, List.cons_append, firstBad_cons, firstBad_append, decide_eq_true_eq,
        and_assoc] using h
    have hlo := BitVec.le_toInt (BitVec.ofNat 32 (num4 p 12))
    have hhi := BitVec.toInt_lt (x := BitVec.ofNat 32 (num4 p 16))
    exact ⟨selectorIn_selectorAt ha, selectorIn_selectorAt hb, hlo, hle, hhi⟩
  | stateControl st =>
    obtain ⟨hne, -, -, hcode, -⟩ : _ ∧ _ ∧ _ ∧ _ ∧ _ := by
      simpa only [readItem, readStateControl, firstBad_cons, decide_eq_true_eq] using h
    refine ⟨clampNat_bounds (by decide) _, ⟨?_, (clampNat_bounds (Nat.zero_le _) _).2⟩, fun o => ?_,
      codeIn_codeOrNone hcode⟩
    · simp only [clampNat]
      omega
    · rw [show Vector.get _ o = _ from tabulate_get _ o]
      exact (clampNat_bounds (Nat.zero_le _) _).2
  | stateChannel st ch => exact inRange_readStateChannel st ch h
  | stateTrigger st n => exact inRange_readStateTrigger st n h
  | stateWindow st bi => exact inRange_readStateWindow st bi h
  | stateMarks st =>
    refine fun i => ?_
    rw [show Vector.get _ i = _ from tabulate_get _ i]
    exact codeIn_codeOrNone ((firstBad_eq_none _).1 h _ (List.mem_map.2 ⟨i.val, List.mem_range.2 i.isLt, rfl⟩))

/-! ### The items of a plan -/

theorem get_replicate {α : Type} {n : Nat} (a : α) (i : Fin n) : (Vector.replicate n a).get i = a := by
  simp [Vector.get_eq_getElem]

/-- Every default item is in its ranges (R13). -/
theorem inRange_initial (id : ItemId) : InRange (fetchItem id PlanItems.initial) := by
  cases id with
  | header => exact ⟨by decide, by decide⟩
  | inputSetup bi =>
    simp only [fetchItem, PlanItems.initial, get_replicate]
    simp [InRange, InputSetup.initial]
  | breakerSetup => exact ⟨by decide, by decide⟩
  | reportTerm k =>
    simp only [fetchItem, PlanItems.initial, get_replicate]
    simp [InRange, ReportTerm.initial, SelectorIn, Selector.initial]
  | stateControl st =>
    simp only [fetchItem, PlanItems.initial, get_replicate]
    simp [InRange, StateItems.initial, StateControl.initial, CodeIn]
  | stateChannel st ch =>
    simp only [fetchItem, PlanItems.initial, StateItems.initial, get_replicate]
    simp [InRange, ChannelItem.initial]
  | stateTrigger st n =>
    simp only [fetchItem, PlanItems.initial, StateItems.initial, get_replicate]
    trivial
  | stateWindow st bi =>
    simp only [fetchItem, PlanItems.initial, StateItems.initial, get_replicate]
    trivial
  | stateMarks st =>
    simp only [fetchItem, PlanItems.initial, StateItems.initial, get_replicate]
    intro i x hx
    simp at hx

/-- A stored item is the one its address fetches; every other address fetches what it fetched (R2, R14). -/
theorem fetchItem_storeItem (id : ItemId) (it : PlanItem) (m : PlanItems) :
    fetchItem id (storeItem it m) = if id = it.id then it else fetchItem id m := by
  cases it with
  | header | breakerSetup => cases id <;> simp [fetchItem, storeItem, PlanItem.id]
  | inputSetup | reportTerm | stateControl | stateMarks | stateChannel | stateTrigger | stateWindow =>
    cases id <;> simp only [fetchItem, storeItem, PlanItem.id, modState, modAt_get] <;> grind [setAt_get]

end Sys2Proof.Proofs
end

section
/-! What a step does to the plan: it is kept, or only its state changes while no run holds it, or an item is written, or
it is emptied (R13, R15, R17, R18). -/

namespace Sys2Proof.Proofs

open Sys2Proof.Machine Sys2Proof.Safety

variable {s t : State}

/-! ### The inputs while no run is RUNNING -/

theorem not_running_of_not_active (h : s.runActive = false) : s.engine.runState ≠ .running := fun hr => by
  simp [State.runActive, hr] at h

/-- The engine hears an accepted change in RUNNING alone (R47). -/
theorem engineChange_not_running (h : s.engine.runState ≠ .running) (i : InputNo) (d : Direction) :
    engineChange i d s = s := by
  simp [engineChange, h]

theorem acceptChange_runState (h : s.engine.runState ≠ .running) (i : InputNo) (t : Nat) (b : Bool) :
    (acceptChange i t b s).engine.runState = s.engine.runState := by
  unfold acceptChange
  dsimp only
  rw [engineChange_not_running] <;> split <;> simp [h]

theorem settleCandidate_runState (h : s.engine.runState ≠ .running) (i : InputNo) :
    (settleCandidate i s).engine.runState = s.engine.runState := by
  unfold settleCandidate
  split
  · exact acceptChange_runState h i _ _
  · rfl

theorem settleRelease_runState (h : s.engine.runState ≠ .running) (i : InputNo) :
    (settleRelease i s).engine.runState = s.engine.runState := by
  unfold settleRelease releaseInput
  dsimp only
  split
  · split
    · simp
    · rw [acceptChange_runState] <;> simp [h]
  · rfl

/-- An input whose release deadline moves with the quiet gap of its setup (R76). -/
def moveRelease (u : InputSetup) (x : InputState) : InputState :=
  { x with lockout := x.lockout.map fun k => { k with release := k.lastRaw + u.quietGap * 1000 } }

theorem applySetup_eq (i : InputNo) (s : State) :
    applySetup i s = settleInput i (s.modInput i (moveRelease (s.inputSetup i))) := rfl

theorem settleInput_runState (h : s.engine.runState ≠ .running) (i : InputNo) :
    (settleInput i s).engine.runState = s.engine.runState := by
  have hc := settleCandidate_runState h i
  exact (settleRelease_runState (hc ▸ h) i).trans hc

theorem applySetup_runState (h : s.engine.runState ≠ .running) (i : InputNo) :
    (applySetup i s).engine.runState = s.engine.runState :=
  settleInput_runState (s := s.modInput i (moveRelease (s.inputSetup i))) h i

theorem applySetups_runState (h : s.engine.runState ≠ .running) :
    (applySetups s).engine.runState = s.engine.runState := by
  unfold applySetups
  exact foldl_induct (fun t => t.engine.runState = s.engine.runState) (fun s i => applySetup i s)
    (fun t i ht => (applySetup_runState (ht ▸ h) i).trans ht) _ s rfl

theorem emptyPlan_not_active (h : s.runActive = false) : (emptyPlan s).runActive = false := by
  have hr := applySetups_runState (s := s.modPlan fun _ => .emptied) (not_running_of_not_active h)
  simpa [State.runActive, emptyPlan, hr] using h

theorem stationReset_not_active (r : Request) (s : State) : (stationReset r s).runActive = false := by
  have h1 : (emptyPlan (settle (resetRun s).1)).runActive = false :=
    emptyPlan_not_active (by simpa using resetRun_not_active s)
  unfold stationReset
  dsimp only
  split <;> simpa [State.runActive] using h1

theorem stationReset_items (r : Request) (s : State) : (stationReset r s).plan.items = PlanItems.initial := by
  unfold stationReset
  dsimp only
  split <;> simp [emptyPlan, PlanMemory.emptied]

/-! ### What a command does to the plan -/

/-- What a step from `s` to `t` does to the plan. -/
inductive PlanStep (s t : State) : Prop
  | kept (h : t.plan = s.plan)
  | checked (hs : s.plan.state ≠ .valid) (h : t.plan.items = s.plan.items)
  | written (it : PlanItem) (hit : ItemOk it) (ha : s.runActive = false) (h : t.plan.items = storeItem it s.plan.items)
  | emptied (ha : s.runActive = false ∨ t.runActive = false) (h : t.plan.items = PlanItems.initial)

theorem PlanStep.settle (h : PlanStep s t) : PlanStep s (settle t) := by
  cases h with
  | kept h => exact .kept (by simpa using h)
  | checked hs h => exact .checked hs (by simpa using h)
  | written it hit ha h => exact .written it hit ha (by simpa using h)
  | emptied ha h => exact .emptied (by simpa using ha) (by simpa using h)

theorem planStep_refuse (r : Request) (c : RefusalCode) (i : Nat) (s : State) : PlanStep s (refuse r c i s) :=
  .kept (by simp)

theorem planStep_judgeWrite (r : Request) (s : State) : PlanStep s (judgeWrite r s) := by
  unfold judgeWrite
  split
  · exact planStep_refuse _ _ _ _
  · split
    · exact planStep_refuse _ _ _ _
    · refine judged_induct (PlanStep s) (fun _ _ => planStep_refuse _ _ _ _) fun _ hok => ?_
      have hitem := itemOk_of_inRange (inRange_readItem _ ((firstBad_append _ _).1 hok).2)
      split
      · exact planStep_refuse _ _ _ _
      · next ha =>
        split
        · exact planStep_refuse _ _ _ _
        · refine .written _ hitem (by simpa using ha) ?_
          unfold writePlan
          (repeat' split) <;> simp

theorem planStep_judgeCommit (r : Request) (s : State) : PlanStep s (judgeCommit r s) := by
  refine judged_induct (PlanStep s) (fun _ _ => planStep_refuse _ _ _ _) fun _ _ => ?_
  split
  · exact planStep_refuse _ _ _ _
  · exact planStep_refuse _ _ _ _
  · exact .kept (by simp)
  · next hp => exact .checked (by simp [hp]) (by simp)
  · next hp => exact .checked (by simp [hp]) (by simp)

theorem planStep_judgeClear (r : Request) (s : State) : PlanStep s (judgeClear r s) := by
  refine judged_induct (PlanStep s) (fun _ _ => planStep_refuse _ _ _ _) fun _ _ => ?_
  split
  · exact planStep_refuse _ _ _ _
  · next ha =>
    split
    · exact planStep_refuse _ _ _ _
    · exact .emptied (.inl (by simpa using ha)) (by simp [emptyPlan, PlanMemory.emptied])

theorem planStep_judgeReset (r : Request) (s : State) : PlanStep s (judgeReset r s) :=
  judged_induct (PlanStep s) (fun _ _ => planStep_refuse _ _ _ _) fun _ _ =>
    .emptied (.inr (stationReset_not_active r s)) (stationReset_items r s)

theorem planStep_serve (isKind : Nat → Bool) {judge : Request → State → State} (hj : ∀ r, PlanStep s (judge r s)) :
    PlanStep s (serve isKind judge s) := by
  unfold serve
  (repeat' split)
  · exact (hj _).settle
  · exact .kept rfl
  · exact .kept rfl
  · exact .kept rfl

/-- A judgement that leaves the plan. -/
theorem plan_serve (isKind : Nat → Bool) {judge : Request → State → State} (hj : ∀ r, (judge r s).plan = s.plan) :
    PlanStep s (serve isKind judge s) := planStep_serve isKind fun r => .kept (hj r)

theorem judged_plan {r : Request} {n : Nat} {checks : List (Nat × Bool)} {k : State → State}
    (hk : (k s).plan = s.plan) :
    (judged r n checks k s).plan = s.plan :=
  judged_induct (fun u => u.plan = s.plan) (by simp) fun _ _ => hk

theorem planStep_endCommitCheck (s : State) : PlanStep s (endCommitCheck s) := by
  by_cases h : s.plan.state = .checking
  · exact .checked (by simp [h]) (by simp)
  · exact .kept (by rw [endCommitCheck_of_not_checking h])

theorem receive_plan (f : RxFrame) {act : State → State} (hact : ∀ s, (act s).plan = s.plan) (s : State) :
    (receive f act s).plan = s.plan := by
  unfold receive
  (repeat' split) <;> simp [hact]

theorem receiveGroup_plan {α : Type} (k : Nat) (g : List Byte → Option α) {act : α → State → State}
    (hact : ∀ x s, (act x s).plan = s.plan) (f : RxFrame) (s : State) : (receiveGroup k g act f s).plan = s.plan := by
  refine receive_plan f (fun s => ?_) s
  (repeat' split)
  · exact hact _ _
  · rfl
  · rfl

theorem planStep_of_next {o : Host.Outcome State Fault Refusal} {u : State} (ho : o = .next u) (hu : PlanStep s u)
    (h : o = .next t) : PlanStep s t := by
  obtain rfl : u = t := Host.Outcome.next.inj (ho.symm.trans h)
  exact hu

/-- An event that is due leaves the plan; one that is not leaves everything. -/
theorem plan_ite {b : Bool} {u : State} (h : u.plan = s.plan) : PlanStep s (if b = true then u else s) := by
  split
  · exact .kept h
  · exact .kept rfl

theorem planStep_exec (c : Instr) (ht : exec c s = .next t) : PlanStep s t := by
  cases c <;> refine planStep_of_next rfl ?_ ht
  case powerOnReset p => exact .emptied (.inr rfl) rfl
  case duplicateOriginFrame f => exact .kept (receive_plan f (fun _ => rfl) s)
  case requestArrival f => exact .kept (receive_plan f (fun _ => by split <;> simp) s)
  case replyReceived f => exact .kept (receive_plan f (fun _ => by split <;> simp) s)
  case arm f => exact .kept (receiveGroup_plan _ _ (by simp) f s)
  case disarm f => exact .kept (receiveGroup_plan _ _ (by simp) f s)
  case start f => exact .kept (receiveGroup_plan _ _ (by simp) f s)
  case stop f => exact .kept (receiveGroup_plan _ _ (by simp) f s)
  case step f => exact .kept (receiveGroup_plan _ _ (by simp) f s)
  case abort f => exact .kept (receiveGroup_plan _ _ (by simp) f s)
  case mark f => exact .kept (receiveGroup_plan _ _ (by simp) f s)
  case rollcall f => exact .kept (receiveGroup_plan _ _ (fun _ _ => rfl) f s)
  case planWrite => exact planStep_serve _ fun r => planStep_judgeWrite r s
  case planCommit => exact planStep_serve _ fun r => planStep_judgeCommit r s
  case planClear => exact planStep_serve _ fun r => planStep_judgeClear r s
  case resetStation => exact planStep_serve _ fun r => planStep_judgeReset r s
  case planRead => exact plan_serve _ fun _ => judged_plan (by (repeat' split) <;> simp)
  case recordRead => exact plan_serve _ fun _ => judged_plan (by dsimp only; (repeat' split) <;> simp)
  case release => exact plan_serve _ fun _ => judged_plan (by dsimp only; (repeat' split) <;> simp)
  case gather => exact plan_serve _ fun _ => judged_plan (by dsimp only; (repeat' split) <;> simp)
  case reportRead => exact plan_serve _ fun _ => judged_plan (by (repeat' split) <;> simp)
  case statusRead => exact plan_serve _ fun _ => judged_plan (by (repeat' split) <;> simp)
  case unknownKindRequest => exact plan_serve _ fun r => by simp
  case commitCheckEnd => exact planStep_endCommitCheck s
  case closeTimerExpiry => exact plan_ite (by split <;> simp)
  case initialStateEntry | timerExpiry | backstopExpiry | exitBoundary | fallbackDeadline | clockLimit | boDelayExpiry |
      sampleBoundary | openTimerExpiry | warmUpExpiry | idleTimerExpiry | overloadReport | settleHorizon | pollInstant |
      gatherReplyDeadline | gatherRepeatInstant | gatherOnFinish => exact plan_ite (by simp)
  all_goals exact .kept (by simp)

/-- Settles O59: a written item is in its ranges and the default items are, and a step that changes an item starts or
ends without an active run. -/
theorem stepKeepsThePlan : Obligations.StepKeepsThePlan := by
  have key : ∀ {s t : State}, step s = .next t → PlanStep s t := by
    intro s t ht
    unfold step at ht
    split at ht
    · next c rest _ =>
      cases planStep_exec c ht with
      | kept h => exact .kept h
      | checked hs h => exact .checked hs h
      | written it hit ha h => exact .written it hit ha h
      | emptied ha h => exact .emptied ha h
    · split at ht
      · exact planStep_exec _ ht
      · exact planStep_of_next rfl (.kept (by simp [tick, advance, remember])) ht
  refine ⟨fun s t hs ht id => ?_, fun s t hv ha ht hb => ?_⟩
  · cases key ht with
    | kept h => exact h ▸ hs id
    | checked _ h => exact h ▸ hs id
    | written it hit _ h =>
      rw [h, fetchItem_storeItem]
      split
      · exact hit
      · exact hs id
    | emptied _ h => exact h ▸ itemOk_of_inRange (inRange_initial id)
  · cases key ht with
    | kept h => exact h
    | checked hs _ => exact absurd (hv ha) hs
    | written _ _ hn _ => simp [ha] at hn
    | emptied hn _ => simp [ha, hb] at hn

end Sys2Proof.Proofs
end

section
/-! The state after a power-on or pin reset (R18, R40, R64, R77, R90, R97, R113, R131, R149, R163, R180, R186). -/

namespace Sys2Proof.Proofs

open Sys2Proof.Machine Sys2Proof.Safety

/-! ### The blocks' reset values -/

theorem plan_initial_defined (st : StateNo) : (PlanItems.initial.states.get st).defined = false := by
  simp only [PlanItems.initial, get_replicate]
  rfl

theorem synth_initial_channel (c : ChannelNo) : Synth.initial.channels.get c = ChannelState.initial := get_replicate _ _

theorem breaker_initial_forcing (i : Fin 3) : Breaker.initial.forcing.get i = .unforced := get_replicate _ _

theorem store_initial_block (b : BlockNo) : Store.initial.blocks.get b = StoreBlock.free := get_replicate _ _

theorem input_afterPowerOn (p : PinSample) (q : List Instr) (i : InputNo) :
    (State.afterPowerOn p q).input i = InputState.atReset (p.inputs.get i) := tabulate_get _ i

theorem amp_atReset_aen (p : PinSample) : (Amplifier.atReset p).aen = false := by
  simp only [Amplifier.aen, Amplifier.atReset]
  cases p.amplifierPresent <;> rfl

theorem amp_atReset_debouncer {p : PinSample} (h : p.amplifierPresent = true) (i : Fin 2) :
    (Amplifier.atReset p).debouncers.get i = if p.overload.get i = true then .timing 0 else .clear := by
  simp [Amplifier.atReset, h]

theorem amp_atReset_absent {p : PinSample} (h : p.amplifierPresent = false) :
    (Amplifier.atReset p).debouncers = Vector.replicate 2 .clear := by
  simp only [Amplifier.atReset, h]
  exact tabulate_eq fun i => (get_replicate _ i).symm

/-- Settles O4: the reset values of the blocks, each as its chapter gives it. -/
theorem powerOnResetTakesEveryBlock : Obligations.PowerOnResetTakesEveryBlock := by
  intro p s
  refine ⟨State.afterPowerOn p s.pending, rfl, rfl, rfl, rfl, rfl, rfl, rfl, plan_initial_defined, rfl, rfl, rfl,
    synth_initial_channel, breaker_initial_forcing, rfl, rfl, input_afterPowerOn p _, rfl, rfl, rfl, rfl, rfl, rfl,
    amp_atReset_aen p, fun h => amp_atReset_debouncer h, rfl, rfl, rfl, rfl, rfl, rfl, rfl, rfl, rfl, rfl, rfl,
    store_initial_block, rfl, rfl, rfl, rfl, rfl, rfl, rfl, rfl, rfl, rfl, rfl, ?_, ?_, rfl, rfl, rfl⟩
  · exact fun i => ⟨get_replicate _ i, get_replicate _ i⟩
  · exact fun i => get_replicate _ i

/-- Settles O55: the state after reset is one with nothing queued, no run, an empty store and the default plan. -/
theorem resetMeetsEveryInvariant : Obligations.ResetMeetsEveryInvariant := by
  refine ⟨runInvariant_afterPowerOn _ _,
    ⟨Nat.zero_le _, .nil, .nil, nofun, Nat.zero_le _, fun _ => rfl, Nat.zero_le _, ?_⟩,
    ⟨Nat.zero_le _, .nil, .nil⟩, fun id => itemOk_of_inRange (inRange_initial id), fun i => ?_, nofun, rfl,
    ⟨fun _ => amp_atReset_absent rfl, nofun, nofun⟩, fun _ => rfl, rfl, fun s hs => ?_⟩
  · rintro a (h | h | h) <;> cases h
  · rw [show State.reset.synth.channels.get i = ChannelState.initial from synth_initial_channel i]
    exact ⟨Nat.zero_le _, Nat.zero_le _⟩
  · show Host.Outcome.next (State.afterPowerOn allPinsLow s.pending) = _
    rw [hs]
    rfl

end Sys2Proof.Proofs
end

section
/-! A request in hand: what its judge answers is the step's next state (R181, R182), for PLAN-COMMIT and PLAN-READ. -/

namespace Sys2Proof.Proofs

open Sys2Proof.Machine Sys2Proof.Safety Sys2Proof.Claims

variable {s : State} {r : Request} {since : Nat}

/-! ### The service of a request in hand -/

theorem answer_inHand (h : InHand r since s) (k : Nat) (p : List Byte) : answer r k p s = answered r since k p s := by
  obtain ⟨hs, -⟩ := h
  simp [answer, answered, State.modStatus, hs]

theorem refuse_inHand (h : InHand r since s) (c : RefusalCode) (i : Nat) :
    refuse r c i s = refused r since c.code i s := by
  obtain ⟨hs, -⟩ := h
  simp [refuse, answer, refused, State.modStatus, hs, satAdd, Config.countLimit]

/-- A request stays in hand when the service and the notices stand. -/
theorem inHand_same {t : State} (h : InHand r since s) (hs : t.status = s.status) (hl : t.link = s.link) :
    InHand r since t := by
  obtain ⟨hservice, hquiet⟩ := h
  exact ⟨by rw [hs, hservice], by rw [Quiet, hl]; exact hquiet⟩

/-- A request of its kind is judged, and the owners of outcomes that the judgement raised are told. -/
theorem serve_inHand (h : InHand r since s) {isKind : Nat → Bool} (hk : isKind r.kind = true)
    (judge : Request → State → State) : serve isKind judge s = settle (judge r s) := by
  obtain ⟨hs, -⟩ := h
  simp [serve, hs, hk]

theorem settle_refused (h : InHand r since s) (c : RefusalCode) (i : Nat) :
    settle (refuse r c i s) = refused r since c.code i s := by
  rw [refuse_inHand h]
  exact settle_of_quiet _ h.2

theorem settle_answered (h : InHand r since s) (k : Nat) (p : List Byte) :
    settle (answer r k p s) = answered r since k p s := by
  rw [answer_inHand h]
  exact settle_of_quiet _ h.2

theorem judged_range {n i : Nat} {checks : List (Nat × Bool)} (hn : r.payload.length = n)
    (hc : firstBad checks = some i)
    (k : State → State) (s : State) : judged r n checks k s = refuse r .range i s := by
  simp [judged, hn, hc]

theorem judged_ok {n : Nat} {checks : List (Nat × Bool)} (hn : r.payload.length = n) (hc : firstBad checks = none)
    (k : State → State) (s : State) : judged r n checks k s = k s := by
  simp [judged, hn, hc]

/-! ### PLAN-COMMIT (R15) -/

theorem takeNext_idle (s : State) : takeNext (s.modStatus fun u => { u with service := .idle }) = serviceNext s := by
  unfold takeNext serviceNext
  cases hq : s.link.requests <;> simp [State.modStatus, State.modLink, hq, satAdd, Config.countLimit]

theorem judgeCommit_eq (hp : r.payload = []) (s : State) :
    judgeCommit r s = match s.plan.state with
      | .empty => refuse r .noPlan 0 s
      | .checking => refuse r .busy 0 s
      | .valid => accept r s
      | .editing | .invalid => beginCheck r s :=
  judged_ok (by simp [hp]) rfl _ s

/-- Settles O26: the judgement by the plan's state; a check that begins ends the service. -/
theorem planCommitByPlanState : Obligations.PlanCommitByPlanState := by
  intro r since s h hk hp
  have hex : exec .planCommit s = .next (settle (judgeCommit r s)) :=
    congrArg Host.Outcome.next (serve_inHand h (by simp [hk]) _)
  have hbegin : settle (beginCheck r s) = { serviceNext s with
      plan := { s.plan with
        state := .checking, committer := some (r.origin, r.tag), checkBegan := some s.clock.elapsed } } := by
    rw [settle_of_quiet _ (by simpa using show s.link.notices = [] from h.2), beginCheck, serviceOver, takeNext_idle]
    unfold serviceNext
    dsimp only [State.modPlan]
    split <;> rfl
  rw [hex, judgeCommit_eq hp]
  refine ⟨fun hs => ?_, fun hs => ?_, fun hs => ?_, fun hs => ?_⟩
  · rw [hs]
    exact congrArg _ (settle_refused h _ _)
  · rw [hs]
    exact congrArg _ (settle_refused h _ _)
  · rw [hs]
    exact congrArg _ ((settle_answered h 16 _).trans (by rw [hk]; rfl))
  · obtain hs | hs := hs <;>
    · rw [hs]
      exact congrArg _ hbegin

/-! ### PLAN-READ (R14) -/

/-- An address whose bytes pass their checks is the one of the item it names (R191). -/
theorem codes_itemIdOf {p : List Byte} (hc : firstBad (addressChecks p) = none) :
    (itemIdOf p).codes = (byteAt p 0, byteAt p 1, byteAt p 2) := by
  simp only [addressChecks, firstBad_cons, decide_eq_true_eq] at hc
  obtain ⟨hk, ha, hb, -⟩ := hc
  unfold itemIdOf
  generalize byteAt p 0 = k at *
  unfold writeLength at hk
  split at hk <;> simp only [indexRanges, Nat.lt_one_iff, Option.isSome_none, Bool.false_eq_true] at ha hb hk <;>
    simp only [ItemId.codes, Fin.val_ofNat, ha, hb, Nat.mod_eq_of_lt]

theorem bytes_itemIdOf {p : List Byte} (hl : p.length = 3) (hc : firstBad (addressChecks p) = none) :
    (itemIdOf p).bytes = p := by
  obtain ⟨a, b, c, rfl⟩ := List.length_eq_three.1 hl
  rw [ItemId.bytes, codes_itemIdOf hc]
  simp [byte_toNat_self]

theorem planItemPayload_eq {p : List Byte} (hl : p.length = 3) (hc : firstBad (addressChecks p) = none)
    (m : PlanMemory) :
    planItemPayload (itemIdOf p) m = p ++
      [byte (m.state.code + if itemDefined (itemIdOf p) m.items = true then 8 else 0)] ++
      (fetchItem (itemIdOf p) m.items).fields := by
  rw [planItemPayload, bytes_itemIdOf hl hc, bit]

theorem planRead_answers (h : InHand r since s) (hk : r.kind = 39) (hl : r.payload.length = 3) :
    (∀ i, firstBad (addressChecks r.payload) = some i → exec .planRead s = .next (refused r since 3 i s)) ∧
      (firstBad (addressChecks r.payload) = none → s.plan.state = .checking →
        exec .planRead s = .next (refused r since 6 0 s)) ∧
      (firstBad (addressChecks r.payload) = none → s.plan.state ≠ .checking →
        exec .planRead s = .next (answered r since 19 (planItemPayload (itemIdOf r.payload) s.plan) s)) := by
  have hex : exec .planRead s = .next (settle (judgeRead r s)) :=
    congrArg Host.Outcome.next (serve_inHand h (by simp [hk]) _)
  rw [hex, judgeRead]
  refine ⟨fun i hc => ?_, fun hc hs => ?_, fun hc hs => ?_⟩
  · rw [judged_range hl hc]
    exact congrArg _ (settle_refused h _ _)
  · rw [judged_ok hl hc, if_pos (by simp [hs])]
    exact congrArg _ (settle_refused h _ _)
  · rw [judged_ok hl hc, if_neg (by simp [hs])]
    exact congrArg _ (settle_answered h _ _)

end Sys2Proof.Proofs
end

section
/-! A changed setup at the inputs while no run holds the plan (R76): each input becomes what its new setup makes of it,
and nothing else of the part changes. -/

namespace Sys2Proof.Proofs

open Sys2Proof.Machine Sys2Proof.Safety Sys2Proof.Claims

variable {s : State}

/-! ### The blocks that hear an input, while no run is active -/

/-- No run is active, and nothing of a visit stands. -/
structure Idle (s : State) : Prop where
  active : s.runActive = false
  visit : s.engine.visit = none
  working : s.eval.working = none
  pendingList : s.eval.pendingList = []

theorem idle_of_runShape (h : RunShape s) (ha : s.runActive = false) : Idle s := by
  obtain ⟨hvisit, hnone, hpending⟩ := h
  have hu : s.runUnderWay ≠ true := fun hu => by
    have := not_running_of_not_active ha
    simp_all [State.runUnderWay, State.runActive]
  have hv : s.engine.visit = none := by
    by_contra hv
    exact not_running_of_not_active ha (hvisit (Option.isSome_iff_ne_none.2 hv))
  obtain ⟨-, -, -, -, hw⟩ := hnone hv
  exact ⟨ha, hv, hw, by_contra fun hp => hu (hpending hp)⟩

theorem Idle.not_underWay (h : Idle s) : s.runUnderWay = false := by
  have := h.active
  simp_all [State.runActive, State.runUnderWay]

theorem Idle.modInput (h : Idle s) (i : InputNo) (f : InputState → InputState) : Idle (s.modInput i f) :=
  ⟨h.active, h.visit, h.working, h.pendingList⟩

theorem modEval_eq_self {f : Evaluator → Evaluator} (h : f s.eval = s.eval) : s.modEval f = s := by
  simp [State.modEval, h]

theorem storeRunEvent_idle (h : Idle s) (c : Contents) : storeRunEvent c s = s := by
  simp [storeRunEvent, h.not_underWay]

theorem attributeEdge_idle (h : Idle s) (i : InputNo) (e : Instant) : attributeEdge i e s = s := by
  unfold attributeEdge
  rw [h.visit]
  exact modEval_eq_self (by rw [h.pendingList, List.map_nil, ← h.pendingList])

theorem takeOperate_idle (h : Idle s) (i : InputNo) (e : Instant) : takeOperate i e s = s := by
  unfold takeOperate
  rw [h.visit]
  exact attributeEdge_idle h i e

theorem breakerTakes_idle (h : Idle s) (i : InputNo) (d : Direction) : breakerTakes i d s = s := by
  simp [breakerTakes, breakerActs, h.visit]

theorem deliverChange_idle (h : Idle s) (i : InputNo) (t : Nat) (b : Bool) : deliverChange i t b s = s := by
  unfold deliverChange
  dsimp only
  rw [storeRunEvent_idle h]
  split
  · rw [takeOperate_idle h, breakerTakes_idle h]
  · rw [breakerTakes_idle h]

theorem deliverLockout_idle (h : Idle s) (i : InputNo) (b : Bool) : deliverLockout i b s = s := by
  unfold deliverLockout lockoutSeen
  rw [storeRunEvent_idle h]
  exact modEval_eq_self (by rw [h.working, Option.map_none, ← h.working])

theorem releaseSeen_idle (h : Idle s) (i : InputNo) : releaseSeen i s = s := by
  simp [releaseSeen, h.visit]

/-! ### One input -/

theorem modInput_congr {i : InputNo} {f g : InputState → InputState} (h : f (s.input i) = g (s.input i)) :
    s.modInput i f = s.modInput i g := by
  simp only [State.modInput, State.modCond, modAt]
  rw [show f (s.cond.inputs.get i) = g (s.cond.inputs.get i) from h]

theorem modInput_input (i j : InputNo) (f : InputState → InputState) :
    (s.modInput i f).input j = if j = i then f (s.input i) else s.input j := modAt_get _ _ _ _

theorem setAt_setAt {α : Type} {n : Nat} (v : Vector α n) (i : Fin n) (x y : α) :
    setAt (setAt v i x) i y = setAt v i y := by
  simp [setAt]

theorem modInput_modInput (i : InputNo) (f g : InputState → InputState) :
    (s.modInput i f).modInput i g = s.modInput i fun x => g (f x) := by
  simp [State.modInput, State.modCond, modAt, setAt_setAt]

/-- An input that stands as it is. -/
theorem modInput_eq_self {i : InputNo} {f : InputState → InputState} (h : f (s.input i) = s.input i) :
    s.modInput i f = s := by
  have hv : setAt s.cond.inputs i (s.cond.inputs.get i) = s.cond.inputs := Vector.set_getElem_self _
  have h' : f (s.cond.inputs.get i) = s.cond.inputs.get i := h
  simp [State.modInput, State.modCond, modAt, h', hv]

/-- An input whose change is accepted (R69, R71, R72). -/
def acceptedAt (u : InputSetup) (n t : Nat) (x : InputState) : InputState :=
  { x with
    accepted := !x.accepted
    candidate := none
    history := trimHistory (x.history ++ [t])
    lockout :=
      if chatterTest u n (x.history ++ [t]) then
        some { held := !x.accepted, lastRaw := n, release := n + u.quietGap * 1000, began := n }
      else none }

/-- An input once a candidate whose debounce deadline has come is accepted (R69). -/
def afterCandidate (u : InputSetup) (n : Nat) (x : InputState) : InputState :=
  match x.lockout, x.candidate with
  | none, some t => if debounceDeadlineOf u t ≤ n then acceptedAt u n t x else x
  | _, _ => x

/-- A released input (R74). -/
def releasedAt (u : InputSetup) (n : Nat) (x : InputState) : InputState :=
  let y : InputState := { x with lockout := none, history := [] }
  if x.raw == x.accepted then y else acceptedAt u n n y

/-- An input once a lockout whose release deadline has come is released (R74). -/
def afterRelease (u : InputSetup) (n : Nat) (x : InputState) : InputState :=
  match x.lockout with
  | some k => if k.release ≤ n then releasedAt u n x else x
  | none => x

theorem acceptChange_idle (h : Idle s) (i : InputNo) (t : Nat) (b : Bool) :
    acceptChange i t b s = s.modInput i (acceptedAt (s.inputSetup i) s.cond.count t) := by
  have h1 := h.modInput i (acceptedAt (s.inputSetup i) s.cond.count t)
  have he : s.modInput i (acceptedAt (s.inputSetup i) s.cond.count t) = s.modInput i fun x =>
      { x with
        accepted := !x.accepted
        candidate := none
        history := trimHistory ((s.input i).history ++ [t])
        lockout :=
          if chatterTest (s.inputSetup i) s.cond.count ((s.input i).history ++ [t]) then
            some
              { held := !x.accepted, lastRaw := s.cond.count
                release := s.cond.count + (s.inputSetup i).quietGap * 1000, began := s.cond.count }
          else none } := modInput_congr rfl
  unfold acceptChange
  dsimp only
  rw [← he, deliverChange_idle h1]
  split
  · rw [deliverLockout_idle h1, engineChange_not_running (not_running_of_not_active h1.active)]
  · rw [engineChange_not_running (not_running_of_not_active h1.active)]

theorem settleCandidate_idle (h : Idle s) (i : InputNo) :
    settleCandidate i s = s.modInput i (afterCandidate (s.inputSetup i) s.cond.count) := by
  unfold settleCandidate
  split
  · next t hd =>
    rw [acceptChange_idle h]
    refine modInput_congr ?_
    simp only [dueCandidate] at hd
    split at hd
    · next hl hc =>
      split at hd
      · next hdue =>
        obtain rfl := Option.some.inj hd
        simp [afterCandidate, hl, hc, hdue]
      · cases hd
    · cases hd
  · next hd =>
    refine (modInput_eq_self ?_).symm
    simp only [dueCandidate] at hd
    unfold afterCandidate
    split
    · next hl hc => simp_all
    · rfl

theorem settleRelease_idle (h : Idle s) (i : InputNo) :
    settleRelease i s = s.modInput i (afterRelease (s.inputSetup i) s.cond.count) := by
  unfold settleRelease releaseDue
  cases hl : (s.input i).lockout with
  | none => exact (modInput_eq_self (by simp [afterRelease, hl])).symm
  | some k =>
    by_cases hk : k.release ≤ s.cond.count
    · have h1 := h.modInput i fun x => { x with lockout := none, history := [] }
      simp only [hk, decide_true, if_true, releaseInput]
      rw [storeRunEvent_idle h1, releaseSeen_idle h1]
      by_cases hr : (s.input i).raw = (s.input i).accepted
      · rw [if_pos (by simpa using hr)]
        exact modInput_congr (by simp [afterRelease, hl, hk, releasedAt, hr])
      · rw [if_neg (by simpa using hr), acceptChange_idle h1, modInput_modInput]
        refine modInput_congr ?_
        simp only [afterRelease, hl, hk, releasedAt, if_true, State.modInput_inputSetup]
        rw [if_neg (by simpa using hr)]
        rfl
    · simp only [hk, decide_false, Bool.false_eq_true, if_false]
      exact (modInput_eq_self (by simp [afterRelease, hl, hk])).symm

/-- An input under a new setup (R76). -/
def underNewSetup (u : InputSetup) (n : Nat) (x : InputState) : InputState :=
  afterRelease u n (afterCandidate u n (moveRelease u x))

theorem applySetup_idle (h : Idle s) (i : InputNo) :
    applySetup i s = s.modInput i (underNewSetup (s.inputSetup i) s.cond.count) := by
  have h1 := h.modInput i (moveRelease (s.inputSetup i))
  rw [applySetup_eq, settleInput, settleCandidate_idle h1, settleRelease_idle (h1.modInput i _), modInput_modInput,
    modInput_modInput]
  rfl

/-- A lockout that begins now is not released at once when the quiet gap is not 0. -/
theorem underSetup_underNewSetup {u : InputSetup} (hq : 1 ≤ u.quietGap) (n : Nat) (x : InputState) :
    UnderSetup u n x (underNewSetup u n x) := by
  obtain ⟨raw, acc, cand, hist, lock⟩ := x
  refine ⟨?_, ?_, ?_, ?_, ?_⟩
  · rintro rfl rfl
    rfl
  · rintro T rfl rfl hn
    have hd : ¬debounceDeadlineOf u T ≤ n := by unfold debounceDeadlineOf; omega
    simp [underNewSetup, moveRelease, afterCandidate, afterRelease, hd]
  · rintro T rfl rfl hn
    have hd : debounceDeadlineOf u T ≤ n := hn
    have hl : ¬n + u.quietGap * 1000 ≤ n := by omega
    have he : underNewSetup u n ⟨raw, acc, some T, hist, none⟩ = acceptedAt u n T ⟨raw, acc, some T, hist, none⟩ := by
      cases hc : chatterTest u n (hist ++ [T]) <;>
        simp [underNewSetup, moveRelease, afterCandidate, afterRelease, hd, acceptedAt, hc, hl]
    rw [he]
    refine ⟨rfl, rfl, rfl, fun hs => ?_, fun hs => ?_, fun hlock => ?_, fun hlock => ?_⟩
    · exact if_neg (by simp at hs ⊢; omega)
    · exact (if_pos (by simp at hs ⊢; omega)).trans (List.drop_append_of_le_length (by dsimp only at hs ⊢; omega))
    · exact if_pos (decide_eq_true hlock)
    · exact if_neg (by simpa [chatterTest, edgesInWindow] using hlock)
  · rintro k rfl hn
    have hl : ¬k.lastRaw + u.quietGap * 1000 ≤ n := Nat.not_le.2 hn
    simp [underNewSetup, moveRelease, afterCandidate, afterRelease, hl]
  · rintro k rfl hn
    refine ⟨?_, ?_⟩
    · intro he
      dsimp only at he
      simp [underNewSetup, moveRelease, afterCandidate, afterRelease, hn, releasedAt, he]
    · intro hne
      dsimp only at hne
      have hl : chatterTest u n [n] = false := by
        have : edgesInWindow u n [n] ≤ 1 := List.countP_le_length
        exact decide_eq_false (by omega)
      have ha : (!acc) = raw := (Bool.eq_not_of_ne hne).symm
      simp [underNewSetup, moveRelease, afterCandidate, afterRelease, hn, releasedAt, hne, acceptedAt, hl, trimHistory,
        ha]

/-- Every input's setup in turn: each input becomes what its own setup makes of it, and nothing else changes. -/
theorem foldl_applySetup_idle (l : List InputNo) (hl : l.Nodup) (h : Idle s) :
    let t := l.foldl (fun s i => applySetup i s) s
    t = { s with cond := t.cond } ∧ t.cond.count = s.cond.count ∧
      ∀ i, t.input i = if i ∈ l then underNewSetup (s.inputSetup i) s.cond.count (s.input i) else s.input i := by
  induction l generalizing s with
  | nil => exact ⟨rfl, rfl, fun i => by simp⟩
  | cons j l ih =>
    obtain ⟨hj, hl'⟩ := List.nodup_cons.1 hl
    obtain ⟨he, hcount, hinput⟩ := ih hl' (h.modInput j (underNewSetup (s.inputSetup j) s.cond.count))
    simp only [List.foldl_cons, applySetup_idle h]
    refine ⟨he, hcount, fun i => (hinput i).trans ?_⟩
    rw [modInput_input]
    by_cases hi : i = j
    · subst hi
      simp [hj]
    · simp only [hi, if_false, List.mem_cons, false_or]
      rfl

theorem applySetups_idle (h : Idle s) :
    applySetups s = { s with cond := (applySetups s).cond } ∧ (applySetups s).cond.count = s.cond.count ∧
      ∀ i, (applySetups s).input i = underNewSetup (s.inputSetup i) s.cond.count (s.input i) := by
  unfold applySetups
  obtain ⟨he, hcount, hinput⟩ := foldl_applySetup_idle (List.finRange 8) (List.nodup_finRange 8) h
  exact ⟨he, hcount, fun i => (hinput i).trans (if_pos (List.mem_finRange i))⟩

end Sys2Proof.Proofs
end

section
/-! What leaves the request in hand, and the conditioner's count, as they were: the frames a block places and the
outcomes it is told, and a changed setup while no run is RUNNING. -/

namespace Sys2Proof.Proofs

open Sys2Proof.Machine Sys2Proof.Safety Sys2Proof.Claims

variable {s : State}

/-! ### Frames placed -/

@[simp] theorem dropEntry_service (e : TxEntry) (s : State) : (dropEntry e s).status.service = s.status.service := rfl

@[simp] theorem place_service (t : TxFrame) (b : Bool) (s : State) :
    (place t b s).status.service = s.status.service := by
  unfold place
  dsimp only
  (repeat' split) <;> simp

@[simp] theorem queueMark_service (c : MarkCode) (x : Instant) (s : State) :
    (queueMark c x s).status.service = s.status.service := by
  unfold queueMark
  split <;> simp

@[simp] theorem firstOperateMark_service (i : InputNo) (s : State) :
    (firstOperateMark i s).status.service = s.status.service := by
  unfold firstOperateMark
  (repeat' split) <;> simp

/-! ### Outcomes told -/

@[simp] theorem decideExit_service (d : DecidedExit) (v : Visit) (b : Bool) (s : State) :
    (decideExit d v b s).status.service = s.status.service := by
  unfold decideExit
  dsimp only
  (repeat' split) <;> simp [State.latch]

@[simp] theorem present_service (d : Decider) (t : Target) (x : Instant) (b : Bool) (s : State) :
    (present d t x b s).status.service = s.status.service := by
  unfold present
  (repeat' split) <;> simp

@[simp] theorem markOutcome_service (a : Nat) (l : Label) (c : MarkCode) (x : Instant) (o : FrameOutcome) (s : State) :
    (markOutcome a l c x o s).status.service = s.status.service := by
  unfold markOutcome
  dsimp only
  (repeat' split) <;> simp

@[simp] theorem endGather_service (c : Cursor) (o : GatherOutcome) (s : State) :
    (endGather c o s).status.service = s.status.service := by
  unfold endGather sendGatherDone
  dsimp only
  split <;> simp

@[simp] theorem remoteRead_service (st : StationNo) (c : Cursor) (s : State) :
    (remoteRead st c s).status.service = s.status.service := by
  simp [remoteRead]

theorem sweepOn_service (n : Nat) (s : State) : (sweepOn n s).status.service = s.status.service := by
  induction n generalizing s with
  | zero => rfl
  | succ n ih =>
    unfold sweepOn
    (repeat' split) <;> simp [ih]

@[simp] theorem readSilent_service (s : State) : (readSilent s).status.service = s.status.service := by
  unfold readSilent
  dsimp only
  (repeat' split) <;> simp [sweepOn_service]

@[simp] theorem readOutcome_service (d : Option StationNo) (tag : Byte) (o : FrameOutcome) (s : State) :
    (readOutcome d tag o s).status.service = s.status.service := by
  unfold readOutcome
  (repeat' split) <;> simp

@[simp] theorem gatherRollLost_service (s : State) : (gatherRollLost s).status.service = s.status.service := by
  unfold gatherRollLost
  dsimp only
  split <;> simp

@[simp] theorem react_service (e : TxEntry) (o : FrameOutcome) (s : State) :
    (react e o s).status.service = s.status.service := by
  unfold react
  (repeat' split) <;> simp

theorem settleFor_service (n : Nat) (s : State) : (settleFor n s).status.service = s.status.service := by
  induction n generalizing s with
  | zero => rfl
  | succ n ih =>
    unfold settleFor
    split
    · rfl
    · simp [ih]

@[simp] theorem settle_service (s : State) : (settle s).status.service = s.status.service := settleFor_service _ s

theorem settle_answer_service (r : Request) (k : Nat) (p : List Byte) {t : State} {since : Nat}
    (h : t.status.service = .taken r since) :
    (settle (answer r k p t)).status.service = .answered r k p since := by
  simp [answer, State.modStatus, h]

/-! ### A changed setup while no run is RUNNING -/

/-- The request in hand and the conditioner's count stand. -/
def SameService (s t : State) : Prop := t.status.service = s.status.service ∧ t.cond.count = s.cond.count

theorem SameService.trans {s t u : State} (h : SameService s t) (h' : SameService t u) : SameService s u :=
  ⟨h'.1.trans h.1, h'.2.trans h.2⟩

theorem deliverChange_service (i : InputNo) (t : Nat) (b : Bool) (s : State) :
    (deliverChange i t b s).status.service = s.status.service := by
  unfold deliverChange takeOperate
  dsimp only
  (repeat' split) <;> simp

theorem acceptChange_service (h : s.engine.runState ≠ .running) (i : InputNo) (t : Nat) (b : Bool) :
    SameService s (acceptChange i t b s) := by
  unfold acceptChange
  dsimp only
  rw [engineChange_not_running]
  · constructor <;> split <;> simp [deliverChange_service, State.modInput]
  · split <;> simp [h]

theorem settleCandidate_service (h : s.engine.runState ≠ .running) (i : InputNo) :
    SameService s (settleCandidate i s) := by
  unfold settleCandidate
  split
  · exact acceptChange_service h i _ _
  · exact ⟨rfl, rfl⟩

theorem settleRelease_service (h : s.engine.runState ≠ .running) (i : InputNo) : SameService s (settleRelease i s) := by
  unfold settleRelease releaseInput
  dsimp only
  have h1 : ∀ c : Contents, SameService s
      (releaseSeen i (storeRunEvent c (s.modInput i fun x => { x with lockout := none, history := [] }))) :=
    fun c => ⟨by simp, by simp [State.modInput]⟩
  split
  · split
    · exact h1 _
    · exact (h1 _).trans (acceptChange_service (by simp [h]) i _ _)
  · exact ⟨rfl, rfl⟩

theorem applySetup_service (h : s.engine.runState ≠ .running) (i : InputNo) : SameService s (applySetup i s) := by
  have h0 : SameService s (s.modInput i (moveRelease (s.inputSetup i))) := ⟨rfl, rfl⟩
  have h1 := settleCandidate_service (s := s.modInput i (moveRelease (s.inputSetup i))) h i
  have hr := settleCandidate_runState (s := s.modInput i (moveRelease (s.inputSetup i))) h i
  exact (h0.trans h1).trans (settleRelease_service (hr.trans_ne h) i)

theorem applySetups_service (h : s.engine.runState ≠ .running) : SameService s (applySetups s) := by
  unfold applySetups
  exact (foldl_induct (fun t => SameService s t ∧ t.engine.runState ≠ .running) (fun s i => applySetup i s)
    (fun t i ht => ⟨ht.1.trans (applySetup_service ht.2 i), (applySetup_runState ht.2 i).trans_ne ht.2⟩) _ s
    ⟨⟨rfl, rfl⟩, h⟩).1

end Sys2Proof.Proofs
end

section
/-! PLAN-WRITE of a request in hand (R2, R3, R13, R17, R76). -/

namespace Sys2Proof.Proofs

open Sys2Proof.Machine Sys2Proof.Safety Sys2Proof.Claims

variable {s : State} {r : Request} {since n : Nat}

theorem exec_planWrite (h : InHand r since s) (hk : r.kind = 38) :
    exec .planWrite s = .next (settle (judgeWrite r s)) :=
  congrArg Host.Outcome.next (serve_inHand h (by simp [hk]) _)

theorem judgeWrite_eq (hw : writeLength (byteAt r.payload 0) = some n) (hl : r.payload.length = n) (s : State) :
    judgeWrite r s =
      judged r n (addressChecks r.payload ++ (readItem (itemIdOf r.payload) r.payload).checks)
        (fun s =>
          if s.runActive then refuse r .locked 0 s
          else if s.plan.state == .checking then refuse r .busy 0 s
          else writePlan r (readItem (itemIdOf r.payload) r.payload) s) s := by
  have h3 : ¬r.payload.length < 3 := by
    unfold writeLength at hw
    split at hw <;> cases hw <;> omega
  simp [judgeWrite, h3, hw]

/-- The plan with an item written (R2, R3). -/
def writtenPlan (x : Reading) (p : PlanMemory) : PlanMemory :=
  { p with
    items := storeItem x.item p.items, state := .editing
    clampCount := satAdd Config.countLimit p.clampCount x.clamped }

theorem fetch_written (id : ItemId) (p : List Byte) (m : PlanItems) :
    fetchItem id (storeItem (readItem id p).item m) = (readItem id p).item := by
  rw [fetchItem_storeItem, readItem_id, if_pos rfl]

/-- The state as a written item leaves it, its ACCEPT not yet given: a HEADER takes effect on the outputs, an
INPUT-SETUP on its input (R63, R76). -/
def afterWrite (x : Reading) (s : State) : State :=
  match x.item with
  | .header _ => outputsToRest (s.modPlan (writtenPlan x))
  | .inputSetup bi _ => applySetup bi (s.modPlan (writtenPlan x))
  | _ => s.modPlan (writtenPlan x)

theorem afterWrite_plan (x : Reading) (s : State) : (afterWrite x s).plan = writtenPlan x s.plan := by
  unfold afterWrite
  split <;> simp

/-- The reply of a PLAN-WRITE is an ACCEPT with the clamped fields and the clamp count (R190). -/
theorem writePlan_eq (x : Reading) (s : State) :
    writePlan r x s = answer r 16 ([byte r.kind, byte x.clamped] ++ bytes2 (writtenPlan x s.plan).clampCount)
      (afterWrite x s) := by
  rw [← afterWrite_plan]
  rfl

theorem afterWrite_inputSetup {x : Reading} {bi : InputNo} {u : InputSetup} (hx : x.item = .inputSetup bi u)
    (s : State) :
    afterWrite x s = applySetup bi (s.modPlan (writtenPlan x)) := by
  simp [afterWrite, hx]

theorem afterWrite_service (x : Reading) {s : State} (ha : s.runActive = false) :
    (afterWrite x s).status.service = s.status.service := by
  unfold afterWrite
  split
  · rfl
  · exact (applySetup_service (s := s.modPlan (writtenPlan x)) (not_running_of_not_active ha) _).1
  · rfl

/-- The setup of the written input is the written one. -/
theorem written_inputSetup {x : Reading} {bi : InputNo} {u : InputSetup} (hx : x.item = .inputSetup bi u) (s : State) :
    (s.modPlan (writtenPlan x)).inputSetup bi = u := by
  simp [State.inputSetup, writtenPlan, hx, storeItem]

/-- What PLAN-WRITE makes of an input alone, while nothing of a visit stands (R76). -/
theorem write_inputSetup (h : InHand r since s) (hi : Idle s) {x : Reading} {bi : InputNo} {u : InputSetup}
    (hx : x.item = .inputSetup bi u) (hq : 1 ≤ u.quietGap) (k : Nat) (p : List Byte) :
    let t := settle (answer r k p (afterWrite x s))
    t = { answered r since k p s with plan := writtenPlan x s.plan, cond := t.cond } ∧ t.cond.count = s.cond.count ∧
      (∀ i, i ≠ bi → t.input i = s.input i) ∧ UnderSetup u s.cond.count (s.input bi) (t.input bi) := by
  have hi' : Idle (s.modPlan (writtenPlan x)) := ⟨hi.active, hi.visit, hi.working, hi.pendingList⟩
  have he : settle (answer r k p (afterWrite x s)) = { answered r since k p s with
      plan := writtenPlan x s.plan
      cond := ((s.modPlan (writtenPlan x)).modInput bi (underNewSetup u s.cond.count)).cond } := by
    rw [afterWrite_inputSetup hx, applySetup_idle hi', written_inputSetup hx, settle_answered (since := since)]
    · rfl
    · exact inHand_same h rfl rfl
  rw [he]
  refine ⟨rfl, rfl, fun i hne => ?_, ?_⟩
  · exact (modInput_input bi i _).trans (if_neg hne)
  · have hin : ((s.modPlan (writtenPlan x)).modInput bi (underNewSetup u s.cond.count)).input bi =
        underNewSetup u s.cond.count (s.input bi) := (modInput_input bi bi _).trans (if_pos rfl)
    exact hin ▸ underSetup_underNewSetup hq _ _

/-- Settles O24: a reading in its ranges is stored, and takes effect by its kind. -/
theorem planWriteStoresTheItem : Obligations.PlanWriteStoresTheItem := by
  refine ⟨setupRanges, termAndStateRanges, triggerRanges, fun r since n s h hk hw hl => ?_⟩
  dsimp only
  rw [exec_planWrite h hk, judgeWrite_eq hw hl]
  refine ⟨fun i hbad => ?_, fun hok ha => ?_, fun hok ha hc => ?_, fun hok ha hc => ?_⟩
  · rw [judged_range hl hbad]
    exact congrArg _ (settle_refused h _ _)
  · rw [judged_ok hl hok, if_pos ha]
    exact congrArg _ (settle_refused h _ _)
  · rw [judged_ok hl hok, if_neg (by simp [ha]), if_pos (by simp [hc])]
    exact congrArg _ (settle_refused h _ _)
  · rw [judged_ok hl hok, if_neg (by simp [ha]), if_neg (by simp [hc]), writePlan_eq, hk]
    have hin := inRange_readItem _ ((firstBad_append _ _).1 hok).2
    have hfetch := fetch_written (itemIdOf r.payload) r.payload s.plan.items
    generalize readItem (itemIdOf r.payload) r.payload = x at *
    have hplan : (settle (answer r 16 ([byte 38, byte x.clamped] ++ bytes2 (writtenPlan x s.plan).clampCount)
        (afterWrite x s))).plan = writtenPlan x s.plan := by simp [afterWrite_plan]
    refine ⟨_, rfl, hplan, ?_, ?_, fun hni hnh => ?_, fun u hx => ?_, fun bi u hx hrun => ?_⟩
    · exact settle_answer_service r _ _ ((afterWrite_service x ha).trans h.1)
    · rw [hplan]
      exact hfetch
    · have he : afterWrite x s = s.modPlan (writtenPlan x) := by
        unfold afterWrite
        split
        · next u hx => exact absurd hx (hnh u)
        · next bi u hx => exact absurd hx (hni bi u)
        · rfl
      rw [he, settle_answered (since := since)]
      · rfl
      · exact inHand_same h rfl rfl
    · have he : afterWrite x s = outputsToRest (s.modPlan (writtenPlan x)) := by simp [afterWrite, hx]
      rw [he, settle_answered (since := since)
        (inHand_same h rfl rfl : InHand r since (outputsToRest (s.modPlan (writtenPlan x))))]
      simp [outputsToRest, State.modEngine, State.modPlan, writtenPlan, hx, storeItem, State.header, answered,
        Config.countLimit, satAdd, bytes2, byte]
    · have hq : 1 ≤ u.quietGap := by
        rw [hx] at hin
        obtain ⟨-, -, -, hlo, -⟩ := hin
        omega
      exact write_inputSetup h (idle_of_runShape hrun ha) hx hq _ _

end Sys2Proof.Proofs
end

section
/-! PLAN-CLEAR of a request in hand (R13, R17, R76). -/

namespace Sys2Proof.Proofs

open Sys2Proof.Machine Sys2Proof.Safety Sys2Proof.Claims

variable {s : State} {r : Request} {since : Nat}

theorem exec_planClear (h : InHand r since s) (hk : r.kind = 41) :
    exec .planClear s = .next (settle (judgeClear r s)) :=
  congrArg Host.Outcome.next (serve_inHand h (by simp [hk]) _)

/-- The state as PLAN-CLEAR leaves it, its ACCEPT not yet given. -/
def clearedPlan (s : State) : State := outputsToRest (emptyPlan s)

theorem judgeClear_eq (hp : r.payload = []) (s : State) :
    judgeClear r s =
      if s.runActive then refuse r .locked 0 s
      else if s.plan.state == .checking then refuse r .busy 0 s
      else answer r 16 [byte r.kind] (clearedPlan s) :=
  judged_ok (by simp [hp]) rfl _ s

theorem emptyPlan_plan (s : State) : (emptyPlan s).plan = .emptied := by simp [emptyPlan]

theorem clearedPlan_plan (s : State) : (clearedPlan s).plan = .emptied := by simp [clearedPlan, emptyPlan_plan]

theorem outputsToRest_boLevels (s : State) : (outputsToRest s).engine.boLevels = s.header.boRest := rfl

/-- The outputs take the default rest levels, 0 (R13). -/
theorem clearedPlan_boLevels (s : State) : (clearedPlan s).engine.boLevels = Vector.replicate 4 false := by
  rw [clearedPlan, outputsToRest_boLevels, State.header, emptyPlan_plan]
  rfl

theorem clearedPlan_service {s : State} (ha : s.runActive = false) : SameService s (clearedPlan s) := by
  obtain ⟨hservice, hcount⟩ := applySetups_service (s := s.modPlan fun _ => .emptied) (not_running_of_not_active ha)
  exact ⟨by simpa [clearedPlan, emptyPlan] using hservice, by simpa [clearedPlan, emptyPlan] using hcount⟩

/-- While nothing of a visit stands, the inputs alone hear of the default setups (R76). -/
theorem clearedPlan_idle (hi : Idle s) :
    (∀ i, UnderSetup InputSetup.initial s.cond.count (s.input i) ((clearedPlan s).input i)) ∧
      clearedPlan s = { s with
        plan := PlanMemory.emptied, cond := (clearedPlan s).cond
        engine := { s.engine with boLevels := Vector.replicate 4 false, boSchedule := Vector.replicate 4 none } } := by
  have hi' : Idle (s.modPlan fun _ => .emptied) := ⟨hi.active, hi.visit, hi.working, hi.pendingList⟩
  obtain ⟨he, -, hinput⟩ := applySetups_idle hi'
  rw [clearedPlan, emptyPlan]
  generalize applySetups (s.modPlan fun _ => .emptied) = w at *
  refine ⟨fun i => ?_, ?_⟩
  · have hsetup : (s.modPlan fun _ => PlanMemory.emptied).inputSetup i = InputSetup.initial := get_replicate _ i
    have hin := hinput i
    rw [hsetup] at hin
    show UnderSetup _ _ _ (w.input i)
    rw [hin]
    exact underSetup_underNewSetup (by decide) _ _
  · rw [he]
    rfl

theorem planClear_answers (h : InHand r since s) (hk : r.kind = 41) (hp : r.payload = []) (ha : s.runActive = false)
    (hc : s.plan.state ≠ .checking) : exec .planClear s = .next (settle (answer r 16 [41] (clearedPlan s))) := by
  rw [exec_planClear h hk, judgeClear_eq hp, if_neg (by simp [ha]), if_neg (by simp [hc]), hk]
  rfl

/-- Settles O25: PLAN-READ by its checks in their order; PLAN-CLEAR through the emptied plan and the default setups. -/
theorem planReadAndClear : Obligations.PlanReadAndClear := by
  refine ⟨fun r since s h hk hl => ?_, fun r since s h hk hp => ⟨fun ha => ?_, fun ha hc => ?_, fun ha hc => ?_⟩⟩
  · obtain ⟨hrange, hbusy, hread⟩ := planRead_answers h hk hl
    refine ⟨hrange, hbusy, fun hok hc => (hread hok hc).trans ?_⟩
    rw [planItemPayload_eq hl hok]
    rfl
  · rw [exec_planClear h hk, judgeClear_eq hp, if_pos ha]
    exact congrArg _ (settle_refused h _ _)
  · rw [exec_planClear h hk, judgeClear_eq hp, if_neg (by simp [ha]), if_pos (by simp [hc])]
    exact congrArg _ (settle_refused h _ _)
  · obtain ⟨hservice, hcount⟩ := clearedPlan_service ha
    have hplan : (settle (answer r 16 [41] (clearedPlan s))).plan = .emptied := by simp [clearedPlan_plan]
    refine ⟨_, planClear_answers h hk hp ha hc, hplan, by rw [hplan]; rfl, ?_, ?_, ?_, ?_, ?_, ?_, fun hrun => ?_⟩
    · simp [clearedPlan_boLevels]
    · exact settle_answer_service r 16 [41] (hservice.trans h.1)
    · simp [clearedPlan]
    · simp [clearedPlan]
    · simp [clearedPlan]
    · simp [hcount]
    · have hi := idle_of_runShape hrun ha
      obtain ⟨hunder, he⟩ := clearedPlan_idle hi
      have hset : settle (answer r 16 [41] (clearedPlan s)) = answered r since 16 [41] (clearedPlan s) := by
        refine settle_answered (inHand_same h ?_ ?_) _ _ <;> rw [he]
      rw [hset]
      generalize clearedPlan s = w at *
      exact ⟨hunder, congrArg (answered r since 16 [41]) he⟩

end Sys2Proof.Proofs
end

section
/-! COMMIT_CHECK_END: what the check finds, and the PLAN-RESULT (R15, R16, R185). -/

namespace Sys2Proof.Proofs

open Sys2Proof.Machine Sys2Proof.Safety Sys2Proof.Claims

variable {s : State}

/-! ### What the check finds (R16) -/

/-- A target ends the run or names a defined state. -/
def TargetGoes (m : PlanItems) (t : Target) : Prop := t = .endRun ∨ ∃ u, t = .state u ∧ (m.states.get u).defined = true

/-- A selector does not take the entry of an undefined state. -/
def EntryKnown (m : PlanItems) (x : Selector) : Prop := ∀ u, x.event = .stateEntry u → (m.states.get u).defined = true

theorem dangles_eq_false (m : PlanItems) (t : Target) : dangles m t = false ↔ TargetGoes m t := by
  cases t <;> simp [dangles, TargetGoes, isDefined]

theorem triggerDangles_eq_false (m : PlanItems) (t : Trigger) :
    triggerDangles m t = false ↔ t = .empty ∨ TargetGoes m (triggerTarget t) := by
  cases t <;> simp [triggerDangles, triggerTarget, dangles_eq_false]

theorem danglingPlace_eq_none (m : PlanItems) (u : StateNo) :
    danglingPlace m u = none ↔ TargetGoes m (m.states.get u).control.backstopTarget ∧
      ∀ n, (m.states.get u).triggers.get n = .empty ∨
        TargetGoes m (triggerTarget ((m.states.get u).triggers.get n)) := by
  simp only [← triggerDangles_eq_false]
  rw [← dangles_eq_false]
  unfold danglingPlace
  dsimp only
  split
  · next n hn =>
    have := List.find?_some hn
    simp only [reduceCtorEq, false_iff, not_and, not_forall]
    exact fun _ => ⟨n, by simp [this]⟩
  · next hn =>
    have hall : ∀ n, triggerDangles m ((m.states.get u).triggers.get n) = false := by simpa using hn
    cases dangles m (m.states.get u).control.backstopTarget <;> simp [hall]

theorem firstDangling_eq_none (m : PlanItems) :
    firstDangling m = none ↔ ∀ u, (m.states.get u).defined = true → danglingPlace m u = none := by
  simp only [firstDangling, isDefined, List.findSome?_eq_none_iff, List.mem_finRange, true_implies]
  refine forall_congr' fun u => ?_
  by_cases hd : (m.states.get u).defined = true <;> simp [hd]

theorem selectorUndefined_eq_false (m : PlanItems) (x : Selector) : selectorUndefined m x = false ↔ EntryKnown m x := by
  unfold selectorUndefined EntryKnown
  cases x.event <;> simp [isDefined]

theorem firstBadTerm_eq_none (m : PlanItems) :
    firstBadTerm m = none ↔ ∀ k, (m.terms.get k).enabled = true →
      EntryKnown m (m.terms.get k).selA ∧ EntryKnown m (m.terms.get k).selB := by
  simp only [firstBadTerm, List.findSome?_eq_none_iff, List.mem_finRange, true_implies, ← selectorUndefined_eq_false]
  refine forall_congr' fun k => ?_
  cases (m.terms.get k).enabled <;> cases selectorUndefined m (m.terms.get k).selA <;> simp

theorem breakerConflicts_eq_false (b : BreakerSetup) :
    breakerConflicts b = false ↔
      (b.enabled = true → b.closeInput ≠ some b.tripInput ∧ (b.out52a = none ∨ b.out52a ≠ b.out52b)) := by
  unfold breakerConflicts
  cases b.enabled <;> cases b.out52a <;> simp

theorem gatherSetMissing_eq_false (h : Header) :
    gatherSetMissing h = false ↔ (h.gatherStation ≠ none → ∃ i, h.gatherSet.get i = true) := by
  have hany : h.gatherSet.toList.any id = true ↔ ∃ i, h.gatherSet.get i = true := by
    rw [List.any_eq_true]
    simp [Vector.mem_iff_getElem, Fin.exists_iff, Vector.get_eq_getElem]
  rw [← hany]
  unfold gatherSetMissing
  cases h.gatherStation <;> simp

/-- The plan has none of the errors of R16. -/
def Sound (m : PlanItems) : Prop :=
  (m.states.get m.header.initialState).defined = true ∧
    (∀ u, (m.states.get u).defined = true →
      TargetGoes m (m.states.get u).control.backstopTarget ∧
        ∀ n, (m.states.get u).triggers.get n = .empty ∨
          TargetGoes m (triggerTarget ((m.states.get u).triggers.get n))) ∧
    (m.breaker.enabled = true →
      m.breaker.closeInput ≠ some m.breaker.tripInput ∧
        (m.breaker.out52a = none ∨ m.breaker.out52a ≠ m.breaker.out52b)) ∧
    (∀ k, (m.terms.get k).enabled = true → EntryKnown m (m.terms.get k).selA ∧ EntryKnown m (m.terms.get k).selB) ∧
    (m.header.gatherStation ≠ none → ∃ i, m.header.gatherSet.get i = true)

theorem commitCheck_eq_none (m : PlanItems) : commitCheck m = .none ↔ Sound m := by
  simp only [Sound, ← danglingPlace_eq_none, ← firstDangling_eq_none, ← breakerConflicts_eq_false,
    ← firstBadTerm_eq_none,
    ← gatherSetMissing_eq_false]
  unfold commitCheck isDefined
  cases (m.states.get m.header.initialState).defined <;> cases firstDangling m <;> cases breakerConflicts m.breaker <;>
    cases firstBadTerm m <;> cases gatherSetMissing m.header <;> simp

/-! ### The PLAN-RESULT -/

/-- In a queue with room a frame stands behind the entries of its own or a higher priority (R124, R125). -/
theorem place_room (h : Room s) (t : TxFrame) :
    place t false s = s.modLink fun l =>
      { l with nextAge := l.nextAge + 1, tx := insertByPriority (newEntry t s) l.tx } := by
  obtain ⟨hmuted, hlen⟩ := h
  simp [place, hmuted, hlen, Config.txCapacity]
  rfl

theorem inserted_insertByPriority (e : TxEntry) (q : List TxEntry) : Inserted e q (insertByPriority e q) :=
  insertByPriority_split e q

/-- The state a commit check ends in, its PLAN-RESULT queued. -/
theorem endCommitCheck_room (h : s.plan.state = .checking) {st : StationNo} {tag : Byte}
    (hc : s.plan.committer = some (st, tag)) (hq : Quiet s) (hr : Room s) :
    endCommitCheck s = (checkedState s).modLink fun l =>
      { l with nextAge := l.nextAge + 1, tx := insertByPriority (newEntry (planResult st tag s) s) l.tx } := by
  have hlink : (checkedState s).link = s.link := by
    unfold checkedState
    dsimp only
    split <;> rfl
  have hroom : Room (checkedState s) := by rwa [Room, hlink]
  have hnew : newEntry (planResult st tag s) (checkedState s) = newEntry (planResult st tag s) s := by
    rw [newEntry, hlink, newEntry]
  rw [endCommitCheck_committer h hc, place_room hroom, hnew]
  refine settle_of_quiet _ ?_
  show (checkedState s).link.notices = []
  rw [hlink]
  exact hq

theorem checkedState_eq (s : State) : checkedState s = { s with
    plan := { s.plan with
      state := if commitCheck s.plan.items = .none then .valid else .invalid
      firstError := commitCheck s.plan.items, committer := none, checkBegan := none }
    status := { s.status with latch := { s.status.latch with
      planInvalid := if commitCheck s.plan.items = .none then s.status.latch.planInvalid else true } } } := by
  unfold checkedState
  split <;> simp [State.modPlan, State.latch, State.modStatus, *]

/-- Settles O27: the check's finding is the conjunction of R16, and the outcome is queued for the committer. -/
theorem commitCheckDecidesThePlan : Obligations.CommitCheckDecidesThePlan := by
  refine ⟨fun s h => congrArg _ (endCommitCheck_of_not_checking h), fun st tag s h hc hq hr => ?_⟩
  refine ⟨_, rfl, commitCheck_eq_none _, ?_, ?_, ?_, ?_⟩ <;> rw [endCommitCheck_room h hc hq hr, checkedState_eq]
  · rfl
  · rfl
  · exact inserted_insertByPriority _ _
  · rfl

end Sys2Proof.Proofs
end

section
/-! The shapes of the blocks (Laws 1 and 10; R80, R92, R94, R95, R164) as one predicate `Shaped q` of a state and of a
run state `q`. It reads `q` in the place of the engine's own run state, so that it also holds within an abort, where the
run is already called ABORTED while its breaker still stands. What the synthesizer, the supervisor and the gather do
keeps it. -/

namespace Sys2Proof.Proofs

open Sys2Proof.Machine Sys2Proof.Safety

/-- What the shapes of the blocks are read from, the run state apart. -/
structure BlockPart where
  synth : Synth
  now : Instant
  gather : GatherState × Option Cursor
  amp : Amplifier
  breaker : Breaker

def blockPart (s : State) : BlockPart where
  synth := s.synth
  now := s.now
  gather := (s.gather.state, s.gather.cursor)
  amp := s.amp
  breaker := s.breaker

/-- The shapes of the blocks in the run state `q`. -/
structure Shaped (q : RunState) (s : State) : Prop where
  codes : CodesBounded s
  clock : q = .running → s.now ≤ Config.clockLimit
  gather : GatherShape s
  amp : AmplifierShape s
  breaker : q ≠ .running → s.breaker = Breaker.initial

/-- The shapes of the blocks in the engine's own run state. -/
def WellShaped (s : State) : Prop := Shaped s.engine.runState s

variable {q : RunState} {s t : State}

theorem wellShaped_iff (s : State) : WellShaped s ↔
    CodesBounded s ∧ ClockBounded s ∧ GatherShape s ∧ AmplifierShape s ∧ BreakerShape s :=
  ⟨fun ⟨hc, hk, hg, ha, hb⟩ => ⟨hc, hk, hg, ha, hb⟩, fun ⟨hc, hk, hg, ha, hb⟩ => ⟨hc, hk, hg, ha, hb⟩⟩

/-- A step that leaves all that the shapes read as it was keeps them. -/
theorem Shaped.same (h : Shaped q s) (e : blockPart t = blockPart s) : Shaped q t := by
  simp only [blockPart, BlockPart.mk.injEq, Prod.mk.injEq] at e
  obtain ⟨hsynth, hnow, ⟨hstate, hcursor⟩, hamp, hbreaker⟩ := e
  obtain ⟨hc, hk, hg, ha, hb⟩ := h
  constructor
  · rwa [CodesBounded, hsynth]
  · rwa [hnow]
  · rwa [GatherShape, gatherBusy, hstate, hcursor]
  · rwa [AmplifierShape, hamp]
  · rwa [hbreaker]

theorem WellShaped.of (h : Shaped s.engine.runState t) (e : t.engine.runState = s.engine.runState) : WellShaped t := by
  rw [WellShaped, e]
  exact h

theorem WellShaped.same (h : WellShaped s) (e : blockPart t = blockPart s)
    (hq : t.engine.runState = s.engine.runState) : WellShaped t :=
  .of (Shaped.same h e) hq

/-- From one run state that is not RUNNING to another the shapes stand. -/
theorem Shaped.not_running {q' : RunState} (h : Shaped q s) (hq : q ≠ .running) (hq' : q' ≠ .running) : Shaped q' s :=
  { h with clock := fun e => absurd e hq', breaker := fun _ => h.breaker hq }

/-! ### The synthesizer's codes (R29, R31) -/

/-- A code within −32767..32767 (R29). -/
def CodeOk (y : Int) : Prop := y.natAbs ≤ 32767

theorem codeOk_clampTo (y : Int) : CodeOk (clampTo Config.codeLimit y) := by
  simp only [CodeOk, clampTo, Config.codeLimit]
  omega

theorem codeOk_zero : CodeOk 0 := Nat.zero_le _

/-- Both codes of a channel are bounded. -/
def ChannelOk (c : ChannelState) : Prop := CodeOk c.lastEmitted ∧ CodeOk c.lastComputed

/-- A synthesizer whose channels are made one by one from bounded ones has bounded codes. -/
theorem Shaped.modSynth (h : Shaped q s) {f : Synth → Synth}
    (hf : ∀ i, ChannelOk (s.synth.channels.get i) → ChannelOk ((f s.synth).channels.get i)) :
    Shaped q (s.modSynth f) :=
  { h with codes := fun i => hf i (h.codes i) }

theorem takeUpChannel_codes (θ : BitVec 32) (n : ChannelNo) (it : ChannelItem) (y : Int) (c : ChannelState) :
    (takeUpChannel θ n it y c).lastEmitted = c.lastEmitted ∧ (takeUpChannel θ n it y c).lastComputed = c.lastComputed :=
  ⟨rfl, rfl⟩

theorem shaped_synthEnter (h : Shaped q s) (it : StateItems) (initial : Bool) :
    Shaped q (s.modSynth (synthEnter it initial)) := by
  refine h.modSynth fun i ⟨he, hc⟩ => ?_
  simp only [synthEnter, tabulate_get, ChannelOk, takeUpChannel_codes]
  split
  · exact ⟨he, codeOk_zero⟩
  · exact ⟨he, hc⟩

theorem synthDiscard_codes (y : Synth) (i : ChannelNo) :
    ((synthDiscard y).channels.get i).lastEmitted = (y.channels.get i).lastEmitted ∧
      ((synthDiscard y).channels.get i).lastComputed = (y.channels.get i).lastComputed := by
  simp [synthDiscard]

theorem shaped_synthDiscard (h : Shaped q s) : Shaped q (s.modSynth synthDiscard) :=
  h.modSynth fun i hi => by simpa only [ChannelOk, synthDiscard_codes] using hi

theorem shaped_synthReset (h : Shaped q s) : Shaped q (synthReset s) :=
  h.modSynth fun i ⟨_, hc⟩ => by
    simpa only [ChannelOk, tabulate_get, synthDiscard_codes] using ⟨codeOk_zero, hc⟩

theorem shaped_sampleZero (h : Shaped q s) : Shaped q (sampleZero s) :=
  h.modSynth fun i ⟨_, hc⟩ => by simpa only [ChannelOk, tabulate_get] using ⟨codeOk_zero, hc⟩

/-- A computed code is clamped, and an emitted one is that code or 0 (R29, R31). -/
theorem channelOk_sampleChannel (θ : BitVec 32) (forced : Bool) (c : ChannelState) :
    ChannelOk (sampleChannel θ forced c) := by
  refine ⟨?_, codeOk_clampTo _⟩
  simp only [sampleChannel]
  split
  · exact codeOk_zero
  · exact codeOk_clampTo _

/-- With the contacts closed no channel is watched or forced (R37). -/
theorem forcingAfter_initial (h : s.breaker = Breaker.initial) : forcingAfter s = Breaker.initial.forcing :=
  tabulate_eq fun i => by
    rw [h]
    exact (get_replicate Forcing.unforced i).symm

theorem shaped_sampleVisit (h : Shaped q s) : Shaped q (sampleVisit s) where
  codes i := by
    simp only [sampleVisit, State.modBreaker_synth, State.modSynth_synth, tabulate_get]
    exact channelOk_sampleChannel _ _ _
  clock := h.clock
  gather := h.gather
  amp := h.amp
  breaker hq := by
    have hb := h.breaker hq
    simp only [sampleVisit, State.modBreaker_breaker, State.modSynth_breaker, forcingAfter_initial hb, hb]

theorem shaped_takeSample (h : Shaped q s) : Shaped q (takeSample s) := by
  unfold takeSample
  dsimp only
  split
  · exact (shaped_sampleVisit h).same rfl
  · exact (shaped_sampleZero h).same rfl

/-! ### The supervisor's timers (R92 to R97) -/

theorem Shaped.modAmp (h : Shaped q s) {f : Amplifier → Amplifier} (hf : AmplifierShape (s.modAmp f)) :
    Shaped q (s.modAmp f) :=
  { h with amp := hf }

theorem shaped_ampFault (h : Shaped q s) : Shaped q (ampFault s) :=
  (h.same (t := s.latch fun l => { l with ampFault := true }) rfl).modAmp ⟨nofun, nofun, nofun⟩

theorem shaped_ampStandby (h : Shaped q s) : Shaped q (ampStandby s) := by
  unfold ampStandby
  split
  · exact shaped_ampFault h
  · exact h.modAmp ⟨nofun, nofun, nofun⟩

theorem shaped_ampWarm (h : Shaped q s) : Shaped q (ampWarm s) := by
  unfold ampWarm
  split
  · exact shaped_ampFault h
  · exact h.modAmp ⟨nofun, fun _ => rfl, nofun⟩

/-- An idle timer that starts in READY stands in its state (R95). -/
theorem shaped_idle (h : Shaped q s) (hr : s.amp.state = .ready) (f : Amplifier → Option Nat) :
    Shaped q (s.modAmp fun a => { a with idle := f a }) :=
  h.modAmp ⟨h.amp.1, h.amp.2.1, fun _ => hr⟩

theorem shaped_ampArm (h : Shaped q s) : Shaped q (ampArm s) := by
  unfold ampArm
  split
  · split
    · exact h
    · exact shaped_ampWarm h
  · (repeat' split)
    · exact shaped_ampStandby h
    · exact shaped_ampWarm h
    · exact h
  · next hr => exact shaped_idle h hr fun a => some (a.count + Config.idlePeriod)
  · exact h
  · exact h

theorem shaped_ampDisarm (h : Shaped q s) : Shaped q (ampDisarm s) := by
  unfold ampDisarm
  split
  · exact shaped_ampStandby h
  · exact h

theorem shaped_ampReset (h : Shaped q s) : Shaped q (ampReset s) := by
  unfold ampReset
  split
  · exact shaped_ampStandby h
  · exact shaped_ampStandby h
  · split
    · exact shaped_ampStandby h
    · exact h
  · exact h
  · exact h

theorem shaped_ampSupplyFail (h : Shaped q s) : Shaped q (ampSupplyFail s) := by
  unfold ampSupplyFail
  split
  · exact shaped_ampStandby h
  · exact shaped_ampStandby h
  · exact shaped_ampStandby h
  · exact h
  · exact h

theorem shaped_ampRunEnded (h : Shaped q s) : Shaped q (ampRunEnded s) := by
  unfold ampRunEnded
  split
  · next hr => exact shaped_idle h (by simpa using hr) fun a => some (a.count + Config.idlePeriod)
  · exact h

theorem shaped_takeWarmUp (h : Shaped q s) : Shaped q (takeWarmUp s) :=
  (h.modAmp (f := fun a => { a with
    state := .ready, warmUp := none, idle := if s.runUnderWay then none else some (a.count + Config.idlePeriod) })
    ⟨nofun, nofun, fun _ => rfl⟩).same (by simp [takeWarmUp, blockPart])

theorem shaped_takeIdle (h : Shaped q s) : Shaped q (takeIdle s) :=
  (shaped_ampStandby h).same (by simp [takeIdle, blockPart])

/-- A debouncer of a supervisor that is not ABSENT may stand anywhere (R92). -/
theorem shaped_debouncers (h : Shaped q s) (ha : s.amp.state ≠ .absent) (v : Vector Debouncer 2) :
    Shaped q (s.modAmp fun a => { a with debouncers := v }) := by
  obtain ⟨-, hwarm, hidle⟩ := h.amp
  exact h.modAmp ⟨fun e => absurd e ha, hwarm, hidle⟩

/-- The debouncers of an ABSENT supervisor are CLEAR, so none is due (R92). -/
theorem not_absent_of_overloadDue (h : AmplifierShape s) {line : OverloadLine} (hd : overloadDue line s = true) :
    s.amp.state ≠ .absent := fun ha => by
  obtain ⟨hclear, -, -⟩ := h
  rw [overloadDue, hclear ha, get_replicate] at hd
  exact nomatch hd

theorem shaped_lineAsserted (h : Shaped q s) (line : OverloadLine) : Shaped q (lineAsserted line s) := by
  unfold lineAsserted
  split
  · exact h
  · next ha =>
    split
    · exact shaped_debouncers h (by simpa using ha) _
    · exact h
    · exact h

/-! ### The gather's cursor (R164) -/

theorem Shaped.modGather (h : Shaped q s) {f : GatherEngine → GatherEngine} (hf : GatherShape (s.modGather f)) :
    Shaped q (s.modGather f) :=
  { h with gather := hf }

/-- A change within a gather in progress leaves it in progress. -/
theorem shaped_inGather (h : Shaped q s) {c : Cursor} (hc : s.gather.cursor = some c)
    {f : GatherEngine → GatherEngine}
    (hstate : (f s.gather).state = s.gather.state) (hcursor : (f s.gather).cursor.isSome = true) :
    Shaped q (s.modGather f) :=
  h.modGather <| by
    have hg := h.gather
    rw [GatherShape, hc, gatherBusy] at hg
    rw [GatherShape, gatherBusy, State.modGather_gather, hstate, hcursor]
    exact hg

theorem shaped_sendGatherDone (h : Shaped q s) (l : Label) (r : Option (StationNo × Byte)) :
    Shaped q (sendGatherDone l r s) :=
  h.same (by simp [blockPart])

theorem shaped_endGather (h : Shaped q s) (c : Cursor) (o : GatherOutcome) : Shaped q (endGather c o s) :=
  shaped_sendGatherDone (h.modGather (by exact rfl)) _ _

theorem shaped_closeStation (h : Shaped q s) {c₀ : Cursor} (hc : s.gather.cursor = some c₀) (st : StationNo)
    (x : StationStatus) (c : Cursor) : Shaped q (closeStation st x c s) :=
  shaped_inGather h hc rfl rfl

theorem shaped_takeAnswer (h : Shaped q s) {c₀ : Cursor} (hc : s.gather.cursor = some c₀) (st : StationNo)
    (a : SweepAnswer) (c : Cursor) : Shaped q (takeAnswer st a c s) := by
  unfold takeAnswer
  split
  · exact shaped_inGather h hc rfl rfl
  · exact shaped_closeStation h hc _ _ _
  · unfold takeNotYet
    dsimp only
    (repeat' split)
    · exact shaped_closeStation h hc _ _ _
    · exact shaped_inGather h hc rfl rfl
    · exact shaped_closeStation h hc _ _ _

theorem shaped_remoteRead (h : Shaped q s) {c₀ : Cursor} (hc : s.gather.cursor = some c₀) (st : StationNo)
    (c : Cursor) : Shaped q (remoteRead st c s) :=
  (shaped_inGather (f := fun g => { g with
    tagCounter := s.gather.tagCounter + 1
    cursor := some { c with readTag := some s.gather.tagCounter, deadline := none, repeatAt := none } }) h hc rfl
    rfl).same (by simp [remoteRead, blockPart])

theorem shaped_sweepOn (h : Shaped q s) (n : Nat) : Shaped q (sweepOn n s) := by
  induction n generalizing s with
  | zero => exact h
  | succ n ih =>
    unfold sweepOn
    split
    · exact h
    · next c hc =>
      (repeat' split)
      · exact shaped_endGather h _ _
      · exact h
      · exact ih (shaped_takeAnswer h hc _ _ _)
      · exact shaped_remoteRead h hc _ _

theorem shaped_clearOutstanding (h : Shaped q s) : Shaped q (clearOutstanding s) := h.same rfl

theorem shaped_readSilent (h : Shaped q s) : Shaped q (readSilent s) := by
  unfold readSilent
  split
  · exact h
  · next c hc =>
    split
    · exact h
    · have h1 := shaped_closeStation (shaped_clearOutstanding h) hc
      dsimp only
      split
      · exact shaped_endGather (h1 _ _ _) _ _
      · exact shaped_sweepOn (h1 _ _ _) _

/-- A change of a cursor that may stand. -/
theorem shaped_mapCursor (h : Shaped q s) (f : GatherEngine → Cursor → Cursor) :
    Shaped q (s.modGather fun g => { g with cursor := g.cursor.map (f g) }) :=
  h.modGather (by simpa only [GatherShape, gatherBusy, State.modGather_gather, Option.isSome_map] using h.gather)

theorem shaped_readOutcome (h : Shaped q s) (d : Option StationNo) (tag : Byte) (o : FrameOutcome) :
    Shaped q (readOutcome d tag o s) := by
  unfold readOutcome
  (repeat' split)
  · exact shaped_mapCursor h fun g c => { c with deadline := some (g.count + Config.replyWait) }
  · exact shaped_readSilent h
  · exact h

theorem shaped_replyAccepted (h : Shaped q s) (r : Reply) : Shaped q (replyAccepted r s) := by
  unfold replyAccepted
  split
  · have h1 := shaped_clearOutstanding h
    unfold takeReply
    split
    · exact h1
    · next c hc =>
      (repeat' split)
      · exact h1
      · exact shaped_sweepOn (shaped_takeAnswer h1 hc _ _ _) _
      · exact shaped_readSilent h1
  · exact h

theorem shaped_takeRepeat (h : Shaped q s) : Shaped q (takeRepeat s) :=
  shaped_sweepOn (shaped_mapCursor h fun _ c => { c with repeatAt := none }) _

theorem shaped_beginSweep (h : Shaped q s) (v : Vector Bool 16) (c : Cursor) : Shaped q (beginSweep v c s) :=
  shaped_sweepOn (h.modGather (by exact rfl)) _

theorem shaped_beginGather (h : Shaped q s) (x : GatherRequest) (r : Option (StationNo × Byte)) :
    Shaped q (beginGather x r s) := by
  have h1 : Shaped q (s.modGather fun g => { g with report := prepareReport x g.report }) := h.same rfl
  unfold beginGather
  dsimp only
  split
  · exact shaped_beginSweep h1 _ _
  · exact shaped_beginSweep h1 _ _
  · exact (h1.modGather (f := fun g => { g with state := .rolling, cursor := some (x.cursor r) }) rfl).same
      (by simp [blockPart])

theorem shaped_gatherMap (h : Shaped q s) (a : BitVec 16) : Shaped q (gatherMap a s) := by
  unfold gatherMap
  dsimp only
  split
  · refine shaped_beginSweep ?_ _ _
    split <;> exact h.same rfl
  · exact h.same rfl

theorem shaped_gatherRollLost (h : Shaped q s) : Shaped q (gatherRollLost s) := by
  unfold gatherRollLost
  dsimp only
  split
  · refine shaped_endGather ?_ _ _
    exact h.same rfl
  · exact h.same rfl

theorem shaped_takeOnFinish (h : Shaped q s) : Shaped q (takeOnFinish s) := by
  unfold takeOnFinish
  split
  · dsimp only
    split
    · refine shaped_beginGather ?_ _ _
      exact h.same rfl
    · exact h.same rfl
  · exact h

theorem shaped_gatherReset (h : Shaped q s) : Shaped q (gatherReset s) := by
  unfold gatherReset
  dsimp only
  split
  · exact h.same rfl
  · exact (h.same (t := (clearOutstanding (s.modGather fun g => { g with onFinish := none })).modCoord fun u =>
      { u with gatherRoll := none }) rfl).modGather rfl

end Sys2Proof.Proofs
end

section
/-! Every event of a run, of the link, the inputs and the amplifiers keeps the shapes of the blocks. -/

namespace Sys2Proof.Proofs

open Sys2Proof.Machine Sys2Proof.Safety

variable {q : RunState} {s : State}

/-! ### Visits -/

theorem shaped_enterState (h : Shaped q s) (st : StateNo) (b : Instant) (i : Bool) : Shaped q (enterState st b i s) :=
  (shaped_synthEnter h (s.stateItems st) i).same <| by
    unfold enterState
    dsimp only
    split <;> simp [blockPart]

theorem shaped_takeHeld (h : Shaped q s) (hs : List HeldOperate) : Shaped q (takeHeld hs s) :=
  h.same (by simp [blockPart])

theorem shaped_closeAndEvaluate (h : Shaped q s) (x : Instant) (c : ExitCause) :
    Shaped q (evaluateDue (closeVisit x c s)) := h.same (by simp [blockPart])

theorem wellShaped_takeInitialEntry (h : WellShaped s) : WellShaped (takeInitialEntry s) :=
  .of (shaped_enterState h _ _ _) (by simp)

/-! ### The ends of a run -/

/-- With the breaker reset the run may be in any run state but RUNNING (R80). -/
theorem shaped_quiesce {q' : RunState} (h : Shaped q s) (hq' : q' ≠ .running) : Shaped q' (quiesce s) :=
  have h1 : Shaped q' (resetBreaker (outputsToRest s)) :=
    { h with clock := fun e => absurd e hq', breaker := fun _ => rfl }
  shaped_synthDiscard h1

theorem wellShaped_finishIfDone (h : WellShaped s) : WellShaped (finishIfDone s) := by
  unfold finishIfDone
  split
  · next hdone =>
    obtain ⟨hq, -⟩ : s.engine.runState = .ending ∧ s.eval.pendingList = [] := by simpa using hdone
    have h1 : Shaped .finished ((writeSummary .finished s).modEngine fun g => { g with runState := .finished }) :=
      (Shaped.not_running (q' := .finished) h (by simp [hq]) nofun).same (by simp [blockPart])
    have h2 := shaped_ampRunEnded h1
    have hfin : (finishRun s).engine.runState = .finished := by
      unfold finishRun
      dsimp only
      split <;> simp
    rw [WellShaped, hfin]
    unfold finishRun
    dsimp only
    split
    · exact h2.same rfl
    · exact h2
  · exact h

theorem wellShaped_enterEnding (h : Shaped q s) (r : EndReason) : WellShaped (enterEnding r s) := by
  refine wellShaped_finishIfDone ?_
  have h1 : Shaped .ending
      (quiesce (s.modEngine fun g => { g with runState := .ending, endReason := r, held := [] })) :=
    shaped_quiesce (q := q) (h.same rfl) nofun
  rw [WellShaped, show (quiesce _).engine.runState = .ending by simp]
  exact h1

theorem wellShaped_takeExit (h : WellShaped s) : WellShaped (takeExit s) := by
  unfold takeExit
  split
  · next v d hv hd =>
    have h1 := shaped_closeAndEvaluate h d.boundary (causeOf s v d.decider)
    dsimp only
    (repeat' split)
    · exact wellShaped_enterEnding h1 _
    · exact wellShaped_enterEnding h1 _
    · exact .of (s := s) (shaped_takeHeld (shaped_enterState h1 _ _ _) _) (by simp)
    · exact wellShaped_enterEnding h1 _
  · exact h

theorem wellShaped_settleBoundary (h : WellShaped s) : WellShaped (settleBoundary s) := by
  unfold settleBoundary
  (repeat' split)
  · exact wellShaped_takeExit h
  · exact h
  · exact h

theorem wellShaped_takeClockLimit (h : WellShaped s) : WellShaped (takeClockLimit s) :=
  wellShaped_enterEnding (shaped_closeAndEvaluate h _ _) _

theorem wellShaped_takeHorizon (h : WellShaped s) : WellShaped (takeHorizon s) :=
  wellShaped_finishIfDone (h.same (by simp [blockPart]) (by simp))

/-! ### Aborts -/

theorem shaped_writeSummary (h : Shaped q s) (e : EndState) : Shaped q (writeSummary e s) :=
  h.same (by simp [blockPart])

theorem shaped_flushPending (h : Shaped q s) : Shaped q (flushPending s) := h.same (by simp [blockPart])

theorem wellShaped_abortUnderWay (h : WellShaped s) (r : EndReason) : WellShaped (abortUnderWay r s) := by
  rw [WellShaped, abortUnderWay_runState]
  refine shaped_ampRunEnded (shaped_writeSummary (shaped_flushPending
    (shaped_quiesce (q := s.engine.runState) ?_ ?_)) _)
  · exact Shaped.same h (by simp [blockPart])
  · nofun

theorem wellShaped_abortArmed (h : WellShaped s) (hq : s.engine.runState ≠ .running) (r : EndReason) :
    WellShaped (abortArmed r s) := by
  rw [WellShaped, abortArmed_runState]
  exact (Shaped.not_running (q' := .aborted) h hq nofun).same (by simp [blockPart])

theorem wellShaped_abortRun (h : WellShaped s) (r : EndReason) : WellShaped (abortRun r s) := by
  unfold abortRun
  (repeat' split)
  · exact wellShaped_abortUnderWay h r
  · next hq => exact wellShaped_abortArmed h (by rw [beq_iff_eq.1 hq]; nofun) r
  · exact h

theorem wellShaped_queueAbort (h : WellShaped s) (r : EndReason) (b : Bool) : WellShaped (queueAbort r b s) :=
  h.same (by simp [blockPart]) (by simp)

/-! ### Events at the engine -/

theorem wellShaped_fireSlots (h : WellShaped s) (f : Trigger → Option (Target × Option MarkCode)) (x : Instant) :
    WellShaped (fireSlots f x s) :=
  h.same (by simp [blockPart]) (by simp)

theorem wellShaped_engineChange (h : WellShaped s) (i : InputNo) (d : Direction) : WellShaped (engineChange i d s) := by
  unfold engineChange
  split
  · exact wellShaped_fireSlots (wellShaped_settleBoundary h) _ _
  · exact h

theorem wellShaped_engineMark (h : WellShaped s) (o : StationNo) (c : Byte) : WellShaped (engineMark o c s) := by
  unfold engineMark
  split
  · exact wellShaped_fireSlots (wellShaped_settleBoundary h) _ _
  · exact h

theorem wellShaped_engineStep (h : WellShaped s) : WellShaped (engineStep s) := by
  unfold engineStep
  split
  · exact wellShaped_fireSlots (wellShaped_settleBoundary h) _ _
  · exact h

theorem wellShaped_engineStop (h : WellShaped s) : WellShaped (engineStop s) := by
  unfold engineStop
  dsimp only
  (repeat' split)
  · exact wellShaped_enterEnding h _
  · exact h.same rfl rfl
  · exact h.same rfl rfl
  · exact h
  · exact h
  · exact h

/-- The test clock takes the strapped compensation, at most 15 µs (R131, R133). -/
theorem takeEpoch_now (s : State) : (takeEpoch s).now ≤ Config.clockLimit := by
  have hdelay := s.link.straps.cableDelay.isLt
  have hnow : (takeEpoch s).now = s.link.straps.cableDelay.val := by
    simp only [State.now, takeEpoch, State.modAmp_clock, driveContacts_frame, resetBreaker_frame,
      State.modEngine_clock, State.modClock_clock, pollerOff_frame, BitVec.toNat_ofNat]
    exact Nat.mod_eq_of_lt (Nat.lt_of_lt_of_le hdelay (by decide))
  rw [hnow]
  exact Nat.le_of_lt (Nat.lt_of_lt_of_le hdelay (by decide))

/-- The epoch: the run becomes RUNNING, and no idle timer stands (R134). -/
theorem wellShaped_takeEpoch (h : Shaped q s) : WellShaped (takeEpoch s) := by
  have hrun : (takeEpoch s).engine.runState = .running := by simp [takeEpoch]
  have ha : (takeEpoch s).amp = { s.amp with idle := none } := by simp [takeEpoch]
  rw [WellShaped, hrun]
  obtain ⟨habsent, hwarm, -⟩ := h.amp
  refine ⟨?_, fun _ => takeEpoch_now s, ?_, ?_, fun hq => absurd rfl hq⟩
  · simpa only [CodesBounded, takeEpoch_frame] using h.codes
  · simpa only [GatherShape, gatherBusy, takeEpoch_frame] using h.gather
  · rw [AmplifierShape, ha]
    exact ⟨habsent, hwarm, nofun⟩

theorem wellShaped_engineStart (h : WellShaped s) (l : Label) : WellShaped (engineStart l s) := by
  unfold engineStart
  split
  · next hc =>
    have hq : s.engine.runState = .armed := by simp at hc; exact hc.1
    split
    · exact wellShaped_takeEpoch h
    · have h1 : WellShaped (s.latch fun l => { l with notReady := true }) := h.same rfl rfl
      exact wellShaped_queueAbort (wellShaped_abortArmed h1 (show s.engine.runState ≠ _ by rw [hq]; nofun) _) _ _
  · exact h

theorem wellShaped_enginePeerAbort (h : WellShaped s) (l : Label) : WellShaped (enginePeerAbort l s) := by
  unfold enginePeerAbort
  (repeat' split)
  · exact wellShaped_abortUnderWay h _
  · next hq => exact wellShaped_abortArmed h (by rw [beq_iff_eq.1 hq]; nofun) _
  · exact h
  · exact h

/-! ### The breaker and the inputs -/

/-- The breaker moves in RUNNING alone (R79). -/
theorem shaped_breakerMoves {t : State} (h : WellShaped s) (hq : s.engine.runState = .running)
    (he : { blockPart t with breaker := s.breaker } = blockPart s)
    (hr : t.engine.runState = s.engine.runState) : WellShaped t := by
  have h1 : Shaped .running { t with breaker := s.breaker } := (hq ▸ h : Shaped .running s).same he
  rw [WellShaped, hr, hq]
  exact { h1 with breaker := fun hn => absurd rfl hn }

theorem breakerActs_running (h : breakerActs s = true) : s.engine.runState = .running := by
  simp only [breakerActs, Bool.and_eq_true, beq_iff_eq] at h
  exact h.1.2

theorem wellShaped_breakerTakes (h : WellShaped s) (i : InputNo) (d : Direction) : WellShaped (breakerTakes i d s) := by
  by_cases ha : breakerActs s = true
  · exact shaped_breakerMoves h (breakerActs_running ha) (by simp [blockPart]) (by simp)
  · simpa only [breakerTakes, ha, Bool.false_and, Bool.false_eq_true, if_false] using h

theorem wellShaped_deliverChange (h : WellShaped s) (i : InputNo) (t : Nat) (b : Bool) :
    WellShaped (deliverChange i t b s) := by
  unfold deliverChange
  dsimp only
  split
  · exact wellShaped_breakerTakes (h.same (by simp [blockPart]) (by simp)) _ _
  · exact wellShaped_breakerTakes (h.same (by simp [blockPart]) (by simp)) _ _

theorem wellShaped_deliverLockout (h : WellShaped s) (i : InputNo) (b : Bool) : WellShaped (deliverLockout i b s) :=
  h.same (by simp [blockPart]) (by simp)

theorem wellShaped_acceptChange (h : WellShaped s) (i : InputNo) (t : Nat) (b : Bool) :
    WellShaped (acceptChange i t b s) := by
  unfold acceptChange
  dsimp only
  refine wellShaped_engineChange ?_ _ _
  have h1 := fun f => wellShaped_deliverChange (s := s.modInput i f) (h.same rfl rfl) i t b
  split
  · exact wellShaped_deliverLockout (h1 _) _ _
  · exact h1 _

theorem wellShaped_releaseInput (h : WellShaped s) (i : InputNo) : WellShaped (releaseInput i s) := by
  have h1 : WellShaped (releaseSeen i (storeRunEvent (.inputRelease i (s.input i).raw)
      (s.modInput i fun x => { x with lockout := none, history := [] }))) :=
    h.same (by simp [blockPart]) (by simp)
  unfold releaseInput
  dsimp only
  split
  · exact h1
  · exact wellShaped_acceptChange h1 _ _ _

theorem wellShaped_settleCandidate (h : WellShaped s) (i : InputNo) : WellShaped (settleCandidate i s) := by
  unfold settleCandidate
  split
  · exact wellShaped_acceptChange h _ _ _
  · exact h

theorem wellShaped_settleRelease (h : WellShaped s) (i : InputNo) : WellShaped (settleRelease i s) := by
  unfold settleRelease
  split
  · exact wellShaped_releaseInput h i
  · exact h

theorem wellShaped_settleInput (h : WellShaped s) (i : InputNo) : WellShaped (settleInput i s) :=
  wellShaped_settleRelease (wellShaped_settleCandidate h i) i

theorem wellShaped_modInput (h : WellShaped s) (i : InputNo) (f : InputState → InputState) :
    WellShaped (s.modInput i f) := h.same rfl rfl

theorem wellShaped_rawTransition (h : WellShaped s) (i : InputNo) : WellShaped (rawTransition i s) :=
  wellShaped_settleCandidate (wellShaped_modInput (wellShaped_settleInput h i) i _) i

theorem wellShaped_applySetup (h : WellShaped s) (i : InputNo) : WellShaped (applySetup i s) :=
  wellShaped_settleInput (wellShaped_modInput h i _) i

theorem wellShaped_applySetups (h : WellShaped s) : WellShaped (applySetups s) :=
  foldl_induct WellShaped _ (fun _ i h => wellShaped_applySetup h i) _ _ h

/-! ### Amplifiers and the supply -/

theorem wellShaped_pollerCheck (h : WellShaped s) : WellShaped (pollerCheck s) :=
  h.same (by simp [blockPart]) (by simp)

theorem wellShaped_takeOverload (h : WellShaped s) (ha : s.amp.state ≠ .absent) (line : OverloadLine) :
    WellShaped (takeOverload line s) := by
  have h1 : WellShaped (s.modAmp fun a => { a with debouncers := setAt a.debouncers line .held }) :=
    .of (s := s) (shaped_debouncers h ha _) rfl
  have h2 := WellShaped.of (shaped_ampFault h1) (by simp)
  unfold takeOverload
  dsimp only
  (repeat' split)
  · exact wellShaped_queueAbort (wellShaped_abortUnderWay h2 _) _ _
  · exact wellShaped_pollerCheck h2
  · exact wellShaped_pollerCheck h2
  · exact wellShaped_pollerCheck h2
  · exact h1
  · exact h1

/-- An overload report leaves the state of the supervisor or makes it FAULTED. -/
theorem takeOverload_not_absent (ha : s.amp.state ≠ .absent) (line : OverloadLine) :
    (takeOverload line s).amp.state ≠ .absent := by
  unfold takeOverload
  dsimp only
  (repeat' split) <;> simp_all [ampFault]

theorem wellShaped_lineDeasserted (h : WellShaped s) (line : OverloadLine) : WellShaped (lineDeasserted line s) := by
  unfold lineDeasserted
  split
  · exact h
  · next hs =>
    have ha : s.amp.state ≠ .absent := by simpa using hs
    dsimp only
    split
    · exact .of (shaped_debouncers (wellShaped_takeOverload h ha line) (takeOverload_not_absent ha line) _) rfl
    · exact .of (s := s) (shaped_debouncers h ha _) rfl

theorem wellShaped_supplyFails (h : WellShaped s) : WellShaped (supplyFails s) := by
  unfold supplyFails
  split
  · exact h
  · have h1 : WellShaped (outputsToRest (s.withSupplyFail true)) := h.same (by simp [blockPart]) (by simp)
    have h2 : ∀ t, WellShaped t → WellShaped (ampSupplyFail t) := fun t ht =>
      .of (s := t) (shaped_ampSupplyFail ht) (by simp)
    dsimp only
    split
    · exact h2 _ (wellShaped_queueAbort (wellShaped_abortRun h1 _) _ _)
    · exact h2 _ h1

end Sys2Proof.Proofs
end

section
/-! Notices, frames, requests and the passing of time keep the shapes of the blocks, and so does every step. -/

namespace Sys2Proof.Proofs

open Sys2Proof.Machine Sys2Proof.Safety

variable {q : RunState} {s t : State}

/-! ### Group frames (chapter 8) -/

theorem shaped_pollerMayStart (h : Shaped q s) : Shaped q (pollerMayStart s) := h.same (by simp [blockPart])

theorem wellShaped_armAccept (h : WellShaped s) (hq : s.engine.runState ≠ .running) (l : Label) :
    WellShaped (armAccept l s) := by
  have h1 : ∀ t : State, blockPart t = blockPart s → Shaped .armed (ampArm t) := fun t ht =>
    shaped_ampArm ((Shaped.not_running (q' := .armed) h hq nofun).same ht)
  have hr : (armAccept l s).engine.runState = .armed := by simp [armAccept]
  rw [WellShaped, hr]
  unfold armAccept
  dsimp only
  exact shaped_pollerMayStart (h1 _ rfl)

theorem wellShaped_coordArm (h : WellShaped s) (l : Label) : WellShaped (coordArm l s) := by
  unfold coordArm
  split
  · exact h
  · split
    · exact h.same rfl rfl
    · next hc =>
      refine wellShaped_armAccept h (fun hr => ?_) l
      simp [armRefusal, State.runActive, hr] at hc

theorem wellShaped_coordDisarm (h : WellShaped s) (l : Label) : WellShaped (coordDisarm l s) := by
  unfold coordDisarm
  split
  · next ha =>
    have hq : s.engine.runState = .armed := by simp [armedWith] at ha; exact ha.1
    have h1 : ∀ t : State, blockPart t = blockPart s → Shaped .idle (ampDisarm t) := fun t ht =>
      shaped_ampDisarm ((Shaped.not_running (q' := .idle) h (by simp [hq]) nofun).same ht)
    dsimp only
    rw [WellShaped, show (ampDisarm _).engine.runState = .idle by simp]
    exact h1 _ (by simp [blockPart])
  · exact h

theorem wellShaped_coordMark (h : WellShaped s) (o : StationNo) (l : Label) (c : Byte) (d : Instant) :
    WellShaped (coordMark o l c d s) := by
  unfold coordMark
  split
  · exact wellShaped_engineMark (h.same (by simp [blockPart]) (by simp)) _ _
  · exact h

theorem wellShaped_coordStop (h : WellShaped s) (l : Label) : WellShaped (coordStop l s) := by
  unfold coordStop
  split
  · exact wellShaped_engineStop h
  · exact h

theorem wellShaped_coordStep (h : WellShaped s) (l : Label) : WellShaped (coordStep l s) := by
  unfold coordStep
  split
  · exact wellShaped_engineStep h
  · exact h

/-! ### Notices (R118, R123, R130) -/

theorem wellShaped_modLink (h : WellShaped s) (f : Link → Link) : WellShaped (s.modLink f) := h.same rfl rfl

theorem wellShaped_react (h : WellShaped s) (e : TxEntry) (o : FrameOutcome) : WellShaped (react e o s) := by
  refine .of (s := s) ?_ (by simp)
  unfold react
  split
  · exact Shaped.same h (by simp [blockPart])
  · split
    · exact Shaped.same h (by simp [blockPart])
    · exact h
  · (repeat' split)
    · exact Shaped.same h rfl
    · exact shaped_gatherRollLost h
    · exact h
  · exact shaped_readOutcome h _ _ _
  · exact h
  · exact h

theorem wellShaped_settle (h : WellShaped s) : WellShaped (settle s) := by
  have key : ∀ (n : Nat) (s : State), WellShaped s → WellShaped (settleFor n s) := fun n => by
    induction n with
    | zero => exact fun s h => wellShaped_modLink h _
    | succ n ih =>
      intro s h
      unfold settleFor
      split
      · exact h
      · exact ih _ (wellShaped_react (wellShaped_modLink h _) _ _)
  exact key _ _ h

theorem wellShaped_readSilent (h : WellShaped s) : WellShaped (readSilent s) :=
  .of (s := s) (shaped_readSilent h) (by simp)

theorem wellShaped_dropEntry (h : WellShaped s) (e : TxEntry) : WellShaped (dropEntry e s) := h.same rfl rfl

theorem wellShaped_dropAll (h : WellShaped s) : WellShaped (dropAll s) := by
  have h1 : ∀ q : List TxEntry, WellShaped
    (settle (q.foldl (fun s e => dropEntry e s) (s.modLink fun l => { l with tx := [] }))) :=
    fun q => wellShaped_settle (foldl_induct WellShaped _ (fun _ e h => wellShaped_dropEntry h e) q _
      (wellShaped_modLink h _))
  unfold dropAll endOutstanding
  dsimp only
  split
  · exact wellShaped_settle (wellShaped_readSilent (h1 _))
  · exact h1 _

theorem wellShaped_mute (h : WellShaped s) : WellShaped (mute s) :=
  wellShaped_settle (wellShaped_abortRun (wellShaped_dropAll (wellShaped_modLink h _)) _)

/-! ### Frames -/

theorem wellShaped_receive (h : WellShaped s) (f : RxFrame) {act : State → State}
    (hact : ∀ s, WellShaped s → WellShaped (act s)) : WellShaped (receive f act s) := by
  unfold receive
  (repeat' split)
  · exact h
  · exact wellShaped_modLink h _
  · refine wellShaped_settle (hact _ (wellShaped_modLink ?_ _))
    unfold muteIfDuplicate
    split
    · exact wellShaped_mute h
    · exact h
  · exact h

theorem wellShaped_receiveGroup {α : Type} (h : WellShaped s) (k : Nat) (g : List Byte → Option α)
    {act : α → State → State} (f : RxFrame) (hact : ∀ x s, WellShaped s → WellShaped (act x s)) :
    WellShaped (receiveGroup k g act f s) := by
  refine wellShaped_receive h f fun s hs => ?_
  (repeat' split)
  · exact hact _ _ hs
  · exact hs
  · exact hs

theorem wellShaped_frameEnded (h : WellShaped s) (e : TxEntry) (o : FrameOutcome) (a : BitVec 16) :
    WellShaped (frameEnded e o a s) := by
  unfold frameEnded
  split
  · next l c d _ =>
    have h1 : WellShaped (markOutcome e.age l c d o s) := h.same (by simp [blockPart]) (by simp)
    dsimp only
    split
    · exact wellShaped_engineMark h1 _ _
    · exact h1
  · next l _ =>
    have h1 := wellShaped_engineStart h l
    dsimp only
    split
    · exact h1.same (by simp [blockPart]) (by simp)
    · exact h1
  · exact wellShaped_enginePeerAbort h _
  · (repeat' split)
    · exact h.same (by simp [blockPart]) (by simp)
    · exact .of (s := s) (shaped_gatherMap h a) (by simp)
    · exact h
  · exact .of (s := s) (shaped_readOutcome h _ _ _) (by simp)
  · exact h

theorem wellShaped_takeFrameOutcome (h : WellShaped s) (ack busy : Bool) (a : BitVec 16) :
    WellShaped (takeFrameOutcome ack busy a s) := by
  unfold takeFrameOutcome
  split
  · exact h
  · exact wellShaped_settle (wellShaped_frameEnded (wellShaped_modLink (wellShaped_modLink h _) _) _ _ _)

theorem wellShaped_takeFrameCorrupt (h : WellShaped s) : WellShaped (takeFrameCorrupt s) := by
  unfold takeFrameCorrupt
  split
  · exact h
  · exact wellShaped_settle (wellShaped_react (wellShaped_modLink h _) _ _)

theorem wellShaped_contend (h : WellShaped s) (rivals : List (BitVec 7)) : WellShaped (contend rivals s) :=
  h.same (by simp [blockPart]) (by simp)

theorem wellShaped_comeOnline (h : WellShaped s) (rivals : List (BitVec 7)) : WellShaped (comeOnline rivals s) := by
  unfold comeOnline
  split
  · exact wellShaped_contend (wellShaped_modLink h _) _
  · exact h

theorem wellShaped_resynchronize (h : WellShaped s) (rivals : List (BitVec 7)) :
    WellShaped (resynchronize rivals s) := by
  unfold resynchronize
  split
  · exact wellShaped_contend (wellShaped_modLink h _) _
  · exact h

/-! ### Requests -/

theorem wellShaped_refuse (h : WellShaped s) (r : Request) (c : RefusalCode) (i : Nat) : WellShaped (refuse r c i s) :=
  h.same (by simp [blockPart]) (by simp)

theorem wellShaped_answer (h : WellShaped s) (r : Request) (k : Nat) (p : List Byte) : WellShaped (answer r k p s) :=
  h.same (by simp [blockPart]) (by simp)

theorem wellShaped_serve (h : WellShaped s) (isKind : Nat → Bool) {judge : Request → State → State}
    (hj : ∀ r, WellShaped (judge r s)) : WellShaped (serve isKind judge s) := by
  unfold serve
  (repeat' split)
  · exact wellShaped_settle (hj _)
  · exact h
  · exact h
  · exact h

theorem wellShaped_modPlan (h : WellShaped s) (f : PlanMemory → PlanMemory) : WellShaped (s.modPlan f) := h.same rfl rfl

theorem wellShaped_outputsToRest (h : WellShaped s) : WellShaped (outputsToRest s) :=
  h.same (by simp [blockPart]) (by simp)

theorem wellShaped_writePlan (h : WellShaped s) (r : Request) (x : Reading) : WellShaped (writePlan r x s) := by
  refine wellShaped_answer ?_ _ _ _
  have h1 := wellShaped_modPlan h fun p =>
    { p with
      items := storeItem x.item p.items
      state := .editing
      clampCount := satAdd Config.countLimit p.clampCount x.clamped }
  split
  · exact wellShaped_outputsToRest h1
  · exact wellShaped_applySetup h1 _
  · exact h1

theorem wellShaped_judgeWrite (h : WellShaped s) (r : Request) : WellShaped (judgeWrite r s) := by
  have hr := wellShaped_refuse h r
  unfold judgeWrite
  (repeat' split)
  · exact hr _ _
  · exact hr _ _
  · refine judged_induct WellShaped hr fun _ _ => ?_
    (repeat' split)
    · exact hr _ _
    · exact hr _ _
    · exact wellShaped_writePlan h r _

theorem wellShaped_emptyPlan (h : WellShaped s) : WellShaped (emptyPlan s) :=
  wellShaped_applySetups (wellShaped_modPlan h _)

theorem wellShaped_judgeRead (h : WellShaped s) (r : Request) : WellShaped (judgeRead r s) := by
  refine judged_induct WellShaped (wellShaped_refuse h r) fun _ _ => ?_
  split
  · exact wellShaped_refuse h _ _ _
  · exact wellShaped_answer h _ _ _

theorem wellShaped_judgeCommit (h : WellShaped s) (r : Request) : WellShaped (judgeCommit r s) := by
  have hbegin : WellShaped (beginCheck r s) := h.same (by simp [blockPart]) (by simp)
  refine judged_induct WellShaped (wellShaped_refuse h r) fun _ _ => ?_
  split
  · exact wellShaped_refuse h _ _ _
  · exact wellShaped_refuse h _ _ _
  · exact wellShaped_answer h _ _ _
  · exact hbegin
  · exact hbegin

theorem wellShaped_judgeClear (h : WellShaped s) (r : Request) : WellShaped (judgeClear r s) := by
  refine judged_induct WellShaped (wellShaped_refuse h r) fun _ _ => ?_
  (repeat' split)
  · exact wellShaped_refuse h _ _ _
  · exact wellShaped_refuse h _ _ _
  · exact wellShaped_answer (wellShaped_outputsToRest (wellShaped_emptyPlan h)) _ _ _

theorem wellShaped_endCommitCheck (h : WellShaped s) : WellShaped (endCommitCheck s) := by
  unfold endCommitCheck
  dsimp only
  split
  · split
    · refine wellShaped_settle (WellShaped.same (s := s) h ?_ ?_) <;> split <;> simp [blockPart]
    · refine h.same ?_ ?_ <;> split <;> simp [blockPart]
  · exact h

theorem wellShaped_endService (h : WellShaped s) : WellShaped (endService s) := by
  unfold endService
  split
  · exact wellShaped_settle (h.same (by simp [blockPart]) (by simp))
  · exact h
  · exact h

theorem wellShaped_judgeRecordRead (h : WellShaped s) (r : Request) : WellShaped (judgeRecordRead r s) := by
  refine judged_induct WellShaped (wellShaped_refuse h r) fun _ _ => ?_
  dsimp only
  split <;> exact wellShaped_answer h _ _ _

theorem wellShaped_judgeRelease (h : WellShaped s) (r : Request) : WellShaped (judgeRelease r s) := by
  refine judged_induct WellShaped (wellShaped_refuse h r) fun _ _ => ?_
  dsimp only
  (repeat' split)
  · exact wellShaped_refuse h _ _ _
  · exact wellShaped_refuse h _ _ _
  · refine wellShaped_answer ?_ _ _ _
    exact h.same rfl rfl

theorem wellShaped_judgeGather (h : WellShaped s) (r : Request) : WellShaped (judgeGather r s) := by
  refine judged_induct WellShaped (wellShaped_refuse h r) fun _ _ => ?_
  dsimp only
  (repeat' split)
  · exact wellShaped_refuse h _ _ _
  · exact wellShaped_refuse h _ _ _
  · exact .of (s := s) (shaped_beginGather (Shaped.same h (by simp [blockPart])) _ _) (by simp)

theorem wellShaped_judgeReportRead (h : WellShaped s) (r : Request) : WellShaped (judgeReportRead r s) := by
  refine judged_induct WellShaped (wellShaped_refuse h r) fun _ _ => ?_
  (repeat' split)
  · exact wellShaped_refuse h _ _ _
  · exact wellShaped_refuse h _ _ _
  · exact wellShaped_answer h _ _ _

theorem wellShaped_judgeStatusRead (h : WellShaped s) (r : Request) : WellShaped (judgeStatusRead r s) := by
  refine judged_induct WellShaped (wellShaped_refuse h r) fun _ _ => ?_
  dsimp only
  split <;> exact h.same (by simp [blockPart]) (by simp)

theorem wellShaped_resetRun (h : WellShaped s) : WellShaped (resetRun s).1 := by
  unfold resetRun
  split
  · exact wellShaped_queueAbort (wellShaped_abortRun h _) _ _
  · exact h

theorem shaped_resetBreaker (h : Shaped q s) : Shaped q (resetBreaker s) := { h with breaker := fun _ => rfl }

theorem wellShaped_judgeReset (h : WellShaped s) (r : Request) : WellShaped (judgeReset r s) := by
  refine judged_induct WellShaped (wellShaped_refuse h r) fun _ _ => ?_
  have h1 := wellShaped_outputsToRest (wellShaped_emptyPlan (wellShaped_settle (wellShaped_resetRun h)))
  have h2 := shaped_gatherReset (shaped_resetBreaker (shaped_ampReset (shaped_synthReset h1)))
  unfold stationReset
  dsimp only
  split <;> exact .of (s := outputsToRest (emptyPlan (settle (resetRun s).1))) (h2.same (by simp [blockPart])) (by simp)

/-! ### The passing of time, and reset -/

/-- While no clock limit is due the clock of a RUNNING run stands short of it, so a microsecond passes within it (R57).
-/
theorem wellShaped_tick (h : WellShaped s) (hdue : clockLimitDue s = false) : WellShaped (tick s) := by
  have h1 : WellShaped (settle (resolveHeld s)) := wellShaped_settle (h.same (by simp [blockPart]) (by simp))
  have hr : (settle (resolveHeld s)).engine.runState = s.engine.runState := by simp
  have hn : (remember (settle (resolveHeld s))).clock = s.clock := by
    show (settle (resolveHeld s)).clock = s.clock
    simp
  obtain ⟨hcodes, -, hgather, hamp, hbreaker⟩ := h1
  refine ⟨hcodes, fun hq => ?_, hgather, hamp, hbreaker⟩
  have hlt : s.now < Config.clockLimit := by
    have hq' : s.engine.runState = .running := hr.symm.trans hq
    simpa [clockLimitDue, hq'] using hdue
  have hnow : (tick s).now = (if s.clock.running = true then s.clock.now + 1 else s.clock.now).toNat := by
    rw [← hn]
    rfl
  rw [hnow]
  have : s.clock.now.toNat < 3600000000 := hlt
  show _ ≤ 3600000000
  split
  · rw [BitVec.toNat_add]
    exact (Nat.mod_le _ _).trans this
  · exact this.le

theorem wellShaped_afterPowerOn (p : PinSample) (q : List Instr) : WellShaped (State.afterPowerOn p q) := by
  refine ⟨fun i => ?_, nofun, rfl, ⟨fun ha => ?_, nofun, nofun⟩, fun _ => rfl⟩
  · rw [show (State.afterPowerOn p q).synth.channels.get i = ChannelState.initial from synth_initial_channel i]
    exact ⟨Nat.zero_le _, Nat.zero_le _⟩
  · refine amp_atReset_absent (p := p) ?_
    have ha : (if p.amplifierPresent = true then AmpState.standby else AmpState.absent) = .absent := ha
    simpa using ha

/-! ### Every command -/

theorem wellShaped_of_next {o : Host.Outcome State Fault Refusal} {u : State} (ho : o = .next u) (hu : WellShaped u)
    (h : o = .next t) : WellShaped t := by
  obtain rfl : u = t := Host.Outcome.next.inj (ho.symm.trans h)
  exact hu

/-- An event that is due is taken; one that is not leaves the part as it stands. -/
theorem wellShaped_ite {b : Bool} (h : WellShaped s) {u : State} (hu : b = true → WellShaped u) :
    WellShaped (if b = true then u else s) := by
  split
  · exact hu ‹_›
  · exact h

theorem wellShaped_exec (c : Instr) (h : WellShaped s) (ht : exec c s = .next t) : WellShaped t := by
  have hsame : ∀ {u : State}, blockPart u = blockPart s → u.engine.runState = s.engine.runState →
      WellShaped (settle u) := fun e hq => wellShaped_settle (h.same e hq)
  cases c <;> refine wellShaped_of_next rfl ?_ ht
  case powerOnReset p => exact wellShaped_afterPowerOn p _
  case supplyFailAsserted => exact wellShaped_settle (wellShaped_supplyFails h)
  case supplyFailDeasserted => exact h.same rfl rfl
  case cableIdle r => exact wellShaped_contend h r
  case frameCorrupt => exact wellShaped_takeFrameCorrupt h
  case frameOutcome a b x => exact wellShaped_takeFrameOutcome h a b x
  case linkOnline r => exact wellShaped_comeOnline h r
  case overlengthFrameResync r => exact wellShaped_resynchronize h r
  case duplicateOriginFrame f => exact wellShaped_receive h f fun _ hs => hs
  case requestArrival f =>
    refine wellShaped_receive h f fun s hs => ?_
    split
    · exact hs
    · exact hs.same (by simp [blockPart]) (by simp)
  case replyReceived f =>
    refine wellShaped_receive h f fun s hs => ?_
    split
    · exact .of (s := s) (shaped_replyAccepted hs _) (by simp)
    · exact hs
  case arm f => exact wellShaped_receiveGroup h _ _ f fun l _ hs => wellShaped_coordArm hs l
  case disarm f => exact wellShaped_receiveGroup h _ _ f fun l _ hs => wellShaped_coordDisarm hs l
  case start f => exact wellShaped_receiveGroup h _ _ f fun l _ hs => wellShaped_engineStart hs l
  case stop f => exact wellShaped_receiveGroup h _ _ f fun l _ hs => wellShaped_coordStop hs l
  case step f => exact wellShaped_receiveGroup h _ _ f fun l _ hs => wellShaped_coordStep hs l
  case abort f => exact wellShaped_receiveGroup h _ _ f fun l _ hs => wellShaped_enginePeerAbort hs l
  case mark f => exact wellShaped_receiveGroup h _ _ f fun _ _ hs => wellShaped_coordMark hs _ _ _ _
  case rollcall f => exact wellShaped_receiveGroup h _ _ f fun _ _ hs => hs
  case planWrite => exact wellShaped_serve h _ fun r => wellShaped_judgeWrite h r
  case planRead => exact wellShaped_serve h _ fun r => wellShaped_judgeRead h r
  case planCommit => exact wellShaped_serve h _ fun r => wellShaped_judgeCommit h r
  case planClear => exact wellShaped_serve h _ fun r => wellShaped_judgeClear h r
  case recordRead => exact wellShaped_serve h _ fun r => wellShaped_judgeRecordRead h r
  case release => exact wellShaped_serve h _ fun r => wellShaped_judgeRelease h r
  case gather => exact wellShaped_serve h _ fun r => wellShaped_judgeGather h r
  case reportRead => exact wellShaped_serve h _ fun r => wellShaped_judgeReportRead h r
  case statusRead => exact wellShaped_serve h _ fun r => wellShaped_judgeStatusRead h r
  case resetStation => exact wellShaped_serve h _ fun r => wellShaped_judgeReset h r
  case unknownKindRequest => exact wellShaped_serve h _ fun r => wellShaped_refuse h r _ _
  case commitCheckEnd => exact wellShaped_endCommitCheck h
  case initialStateEntry => exact wellShaped_ite h fun _ => wellShaped_settle (wellShaped_takeInitialEntry h)
  case timerExpiry n => exact wellShaped_ite h fun _ => hsame (by simp [blockPart]) (by simp)
  case backstopExpiry => exact wellShaped_ite h fun _ => hsame (by simp [blockPart]) (by simp)
  case exitBoundary => exact wellShaped_ite h fun _ => wellShaped_settle (wellShaped_takeExit h)
  case fallbackDeadline => exact wellShaped_ite h fun _ => hsame (by simp [blockPart]) (by simp)
  case clockLimit => exact wellShaped_ite h fun _ => wellShaped_settle (wellShaped_takeClockLimit h)
  case boDelayExpiry o => exact wellShaped_ite h fun _ => h.same (by simp [blockPart]) (by simp)
  case sampleBoundary => exact wellShaped_ite h fun _ => .of (s := s) (shaped_takeSample h) (by simp)
  case rawTransition i => exact wellShaped_settle (wellShaped_rawTransition h i)
  case debounceDeadline i => exact wellShaped_settle (wellShaped_settleCandidate h i)
  case lockoutRelease i => exact wellShaped_settle (wellShaped_settleRelease h i)
  case openTimerExpiry =>
    refine wellShaped_ite h fun hd => shaped_breakerMoves h (breakerActs_running ?_) (by simp [blockPart]) (by simp)
    simp only [openTimerDue, Bool.and_eq_true] at hd
    exact hd.1.1
  case closeTimerExpiry =>
    refine wellShaped_ite h fun hd => ?_
    split
    · refine shaped_breakerMoves h (breakerActs_running ?_) (by simp [blockPart]) (by simp)
      simp only [closeTimerDue, Bool.and_eq_true] at hd
      exact hd.1.1
    · exact h
  case warmUpExpiry => exact wellShaped_ite h fun _ => wellShaped_settle (.of (s := s) (shaped_takeWarmUp h) (by simp))
  case idleTimerExpiry => exact wellShaped_ite h fun _ => .of (s := s) (shaped_takeIdle h) (by simp)
  case overloadLineAsserted line => exact .of (s := s) (shaped_lineAsserted h line) (by simp)
  case overloadLineDeasserted line => exact wellShaped_settle (wellShaped_lineDeasserted h line)
  case overloadReport line =>
    exact wellShaped_ite h fun hd =>
      wellShaped_settle (wellShaped_takeOverload h (not_absent_of_overloadDue h.amp hd) line)
  case settleHorizon => exact wellShaped_ite h fun _ => wellShaped_settle (wellShaped_takeHorizon h)
  case pollInstant => exact wellShaped_ite h fun _ => hsame (by simp [blockPart]) (by simp)
  case gatherReplyDeadline => exact wellShaped_ite h fun _ => wellShaped_settle (wellShaped_readSilent h)
  case gatherRepeatInstant =>
    exact wellShaped_ite h fun _ => wellShaped_settle (.of (s := s) (shaped_takeRepeat h) (by simp))
  case gatherOnFinish =>
    exact wellShaped_ite h fun _ => wellShaped_settle (.of (s := s) (shaped_takeOnFinish h) (by simp))
  case requestServiceEnd => exact wellShaped_endService h

/-- With no event due the clock limit is not due either. -/
theorem clockLimitDue_of_no_command (h : dueCommand s = none) : clockLimitDue s = false := by
  by_contra hd
  have hd : clockLimitDue s = true := by simpa using hd
  have hc : Instr.clockLimit ∈ dueList s := by simp [dueList, dueList.pick, hd]
  unfold dueCommand at h
  split at h
  · cases h
  · next hnil => simp [hnil] at hc

/-- Settles O60: the shapes of the blocks are kept by every command, and by a microsecond that passes with no clock
limit due. -/
theorem stepKeepsTheBlockShapes : Obligations.StepKeepsTheBlockShapes := by
  intro s t hcodes hclock hgather hamp hbreaker _ ht
  have h : WellShaped s := (wellShaped_iff s).2 ⟨hcodes, hclock, hgather, hamp, hbreaker⟩
  refine (wellShaped_iff t).1 ?_
  unfold step at ht
  split at ht
  · next c rest _ =>
    have h1 : WellShaped (s.withPending rest) := h.same rfl rfl
    exact wellShaped_exec c h1 ht
  · split at ht
    · exact wellShaped_exec _ h ht
    · next hnone => exact wellShaped_of_next rfl (wellShaped_tick h (clockLimitDue_of_no_command hnone)) ht

end Sys2Proof.Proofs
end

section
/-! The numbers of the synthesizer: half-up quotients (R20 to R22), and the sine function S as a polynomial that stays
with the sine, so that no value of it exceeds 131071 (R24). -/

namespace Sys2Proof.Proofs

open Sys2Proof.Machine

/-! ### Half-up quotients (section 5.3) -/

theorem halfUp_natCast (n d : Nat) : halfUp n d = ((2 * n + d) / (2 * d) : Nat) := by
  rw [halfUp, Int.fdiv_eq_ediv_of_nonneg _ (by positivity)]
  push_cast
  rfl

/-- The half-up quotient is the integer within half a unit of the exact one, the upper of two at a tie. -/
theorem halfUp_spec (n : Nat) {d : Nat} (hd : 0 < d) :
    2 * n < (2 * (halfUp n d).toNat + 1) * d ∧ 2 * (halfUp n d).toNat * d ≤ 2 * n + d := by
  rw [halfUp_natCast, Int.toNat_natCast]
  have hlo := Nat.div_mul_le_self (2 * n + d) (2 * d)
  have hhi := Nat.lt_div_mul_add (a := 2 * n + d) (b := 2 * d) (by omega)
  generalize (2 * n + d) / (2 * d) = k at *
  constructor <;> nlinarith

/-- An angle of less than a whole turn has a phase offset of less than a whole turn (R21). -/
theorem phaseOffset_toNat {angle : Nat} (h : angle < 36000) :
    (phaseOffset angle).toNat = (halfUp (angle * 2 ^ 32 : Nat) 36000).toNat := by
  rw [phaseOffset, halfUp_natCast, BitVec.ofInt_natCast, BitVec.toNat_ofNat, Int.toNat_natCast]
  omega

theorem clampTo_eq {m : Int} (hm : 0 ≤ m) (v : Int) : clampTo m v = max (-m) (min m v) := by
  simp only [clampTo]
  omega

/-! ### The polynomial of the sine (R24) -/

/-- One step of the polynomial's nested form: `1 - u / c` times what stands inside. -/
noncomputable def taylorStep (u v : ℝ) (c : ℕ) : ℝ := 1 - u / c * v

/-- The degree-17 Taylor polynomial of `sin x / x` at `x² = u`, in nested form. -/
noncomputable def sineTaylor (u : ℝ) : ℝ := [272, 210, 156, 110, 72, 42, 20, 6].foldl (taylorStep u) 1

/-- One step of the fold of `sinHorner`. -/
def hornerStep (a2 b2 : Nat) (nd : Nat × Nat) (c : Nat) : Nat × Nat := (nd.2 * c * b2 - a2 * nd.1, nd.2 * c * b2)

theorem sinHorner_eq (a2 b2 : Nat) :
    sinHorner a2 b2 = [272, 210, 156, 110, 72, 42, 20, 6].foldl (hornerStep a2 b2) (1, 1) := rfl

/-- Numerator and denominator `nd` are those of `v`, which is at most 1. -/
structure IsFraction (nd : Nat × Nat) (v : ℝ) : Prop where
  le : nd.1 ≤ nd.2
  pos : 0 < nd.2
  eq : (nd.1 : ℝ) = v * nd.2

/-- While `x²` is at most the divisor, a step takes nothing below 0: no subtraction of the fold is cut off. -/
theorem isFraction_hornerStep {a2 b2 c : Nat} {nd : Nat × Nat} {v : ℝ} (hb : 0 < b2) (hc : 0 < c) (h : a2 ≤ c * b2)
    (hv : IsFraction nd v) : IsFraction (hornerStep a2 b2 nd c) (taylorStep (a2 / b2) v c) := by
  obtain ⟨n, d⟩ := nd
  obtain ⟨hle, hpos, heq⟩ := hv
  have hcut : a2 * n ≤ d * c * b2 := calc
    a2 * n ≤ (c * b2) * d := Nat.mul_le_mul h hle
    _ = d * c * b2 := by ring
  have hb' : (b2 : ℝ) ≠ 0 := by exact_mod_cast hb.ne'
  have hc' : (c : ℝ) ≠ 0 := by exact_mod_cast hc.ne'
  refine ⟨Nat.sub_le _ _, by simp only [hornerStep]; positivity, ?_⟩
  simp only [hornerStep, taylorStep] at heq ⊢
  rw [Nat.cast_sub hcut]
  push_cast
  rw [heq]
  field_simp

theorem isFraction_sinHorner {a2 b2 : Nat} (hb : 0 < b2) (h : a2 ≤ 6 * b2) :
    IsFraction (sinHorner a2 b2) (sineTaylor (a2 / b2)) := by
  have key : ∀ (l : List Nat), (∀ c ∈ l, 6 ≤ c) → ∀ nd v, IsFraction nd v →
      IsFraction (l.foldl (hornerStep a2 b2) nd) (l.foldl (taylorStep (a2 / b2)) v) := by
    intro l
    induction l with
    | nil => exact fun _ _ _ hv => hv
    | cons c l ih =>
      intro hl nd v hv
      have hc : 6 ≤ c := hl c (by simp)
      exact ih (fun x hx => hl x (by simp [hx])) _ _
        (isFraction_hornerStep hb (by omega) (h.trans (Nat.mul_le_mul_right _ hc)) hv)
  exact key _ (by decide) _ _ ⟨le_rfl, Nat.one_pos, by simp⟩

/-- `x` times the polynomial at `x²` is the imaginary part of the partial sum of the exponential series at `ix`. -/
theorem im_expSeries (x : ℝ) :
    (∑ m ∈ Finset.range 19, (x * Complex.I) ^ m / (m.factorial : ℂ)).im = x * sineTaylor (x ^ 2) := by
  simp [Finset.sum_range_succ, pow_succ, Nat.factorial, sineTaylor, taylorStep]
  ring

/-- Up to 1.6, a little beyond a quarter turn, the polynomial exceeds 1 by next to nothing. -/
theorem mul_sineTaylor_le {x : ℝ} (h0 : 0 ≤ x) (h1 : x ≤ 8 / 5) : x * sineTaylor (x ^ 2) ≤ 1 + 1 / 1000000 := by
  have hn : ‖(x * Complex.I : ℂ)‖ = x := by simp [abs_of_nonneg h0]
  have hb := Complex.exp_bound' (x := x * Complex.I) (n := 19) (by rw [hn]; norm_num; linarith)
  have him := (Complex.abs_im_le_norm _).trans hb
  rw [Complex.sub_im, im_expSeries, Complex.exp_ofReal_mul_I_im, hn] at him
  have hpow : x ^ 19 ≤ (8 / 5) ^ 19 := pow_le_pow_left₀ h0 h1 19
  have hsmall : x ^ 19 / (Nat.factorial 19 : ℝ) * 2 ≤ 1 / 1000000 := by
    have : ((8 : ℝ) / 5) ^ 19 / (Nat.factorial 19 : ℝ) * 2 ≤ 1 / 1000000 := by norm_num [Nat.factorial]
    refine le_trans ?_ this
    gcongr
  have := Real.sin_le_one x
  have := abs_le.1 (him.trans hsmall)
  linarith [this.1]

/-- The value of S at `x = a / b` up to a little beyond a quarter turn, rounded, is at most 131071. -/
theorem sineQuotient_le {a b : Nat} (hb : 0 < b) (h : 5 * a ≤ 8 * b) :
    (2 * 131071 * a * (sinHorner (a * a) (b * b)).1 + b * (sinHorner (a * a) (b * b)).2) /
      (2 * b * (sinHorner (a * a) (b * b)).2) ≤ 131071 := by
  obtain ⟨-, hpos, heq⟩ := isFraction_sinHorner (a2 := a * a) (b2 := b * b) (by positivity) (by nlinarith)
  generalize sinHorner (a * a) (b * b) = nd at *
  refine Nat.le_of_lt_succ ((Nat.div_lt_iff_lt_mul (by positivity)).2 ?_)
  have hb0 : (0 : ℝ) < b := by exact_mod_cast hb
  have hd0 : (0 : ℝ) < nd.2 := by exact_mod_cast hpos
  have hx : ((a : ℝ) / b) * sineTaylor (((a : ℝ) / b) ^ 2) ≤ 1 + 1 / 1000000 :=
    mul_sineTaylor_le (by positivity) (by
      rw [div_le_div_iff₀ hb0 (by norm_num)]
      exact_mod_cast (by omega : a * 5 ≤ 8 * b))
  have hu : ((a * a : ℕ) : ℝ) / ((b * b : ℕ) : ℝ) = ((a : ℝ) / b) ^ 2 := by push_cast; ring
  have hfrac : (a : ℝ) * nd.1 ≤ (1 + 1 / 1000000) * (b * nd.2) := by
    rw [heq, hu]
    calc (a : ℝ) * (sineTaylor (((a : ℝ) / b) ^ 2) * nd.2)
        = (a / b * sineTaylor (((a : ℝ) / b) ^ 2)) * (b * nd.2) := by field_simp
      _ ≤ (1 + 1 / 1000000) * (b * nd.2) := by gcongr
  have hbd : (0 : ℝ) < b * nd.2 := by positivity
  have hreal : ((2 * 131071 * a * nd.1 + b * nd.2 : ℕ) : ℝ) < ((131072 * (2 * b * nd.2) : ℕ) : ℝ) := by
    push_cast
    linarith
  exact_mod_cast hreal

theorem sinQuarter_le {r : Nat} (h : r ≤ 16384) : sinQuarter r ≤ 131071 := by
  refine sineQuotient_le (a := piScaled * r) (by positivity) ?_
  have hmul : piScaled * r ≤ piScaled * 16384 := Nat.mul_le_mul_left _ h
  have hend : 5 * (piScaled * 16384) ≤ 8 * 2 ^ 79 := by decide
  exact (Nat.mul_le_mul_left 5 hmul).trans hend

/-! ### The quadrants of S (R24) -/

theorem sinQuarter_zero : sinQuarter 0 = 0 := by decide +kernel

/-- S at an index of each quadrant. -/
theorem sineAt_quadrants {r : Nat} (hr : r < 16384) :
    sineAt r = sinQuarter r ∧ sineAt (16384 + r) = sinQuarter (16384 - r) ∧ sineAt (32768 + r) = -sinQuarter r ∧
      sineAt (49152 + r) = -sinQuarter (16384 - r) := by
  have h0 : r / 16384 = 0 ∧ r % 16384 = r := by omega
  have h1 : (16384 + r) / 16384 = 1 ∧ (16384 + r) % 16384 = r := by omega
  have h2 : (32768 + r) / 16384 = 2 ∧ (32768 + r) % 16384 = r := by omega
  have h3 : (49152 + r) / 16384 = 3 ∧ (49152 + r) % 16384 = r := by omega
  simp only [sineAt, h0, h1, h2, h3, and_self]

/-- Half a cycle on, S is its negative. -/
theorem sineAt_half {i : Nat} (h : i < 32768) : sineAt (i + 32768) = -sineAt i := by
  rcases Nat.lt_or_ge i 16384 with hlt | hge
  · obtain ⟨h0, -, h2, -⟩ := sineAt_quadrants hlt
    rw [Nat.add_comm, h2, h0]
  · obtain ⟨r, rfl⟩ := Nat.exists_eq_add_of_le hge
    obtain ⟨-, h1, -, h3⟩ := sineAt_quadrants (r := r) (by omega)
    rw [h1, ← h3]
    congr 1
    omega

/-- Within half a cycle S mirrors at its middle. -/
theorem sineAt_mirror {i : Nat} (h : i ≤ 32768) : sineAt (32768 - i) = sineAt i := by
  have key : ∀ i, 0 < i → i < 16384 → sineAt (32768 - i) = sineAt i := fun i hpos hlt => by
    obtain ⟨h0, -, -, -⟩ := sineAt_quadrants hlt
    obtain ⟨-, h1, -, -⟩ := sineAt_quadrants (r := 16384 - i) (by omega)
    rw [h0, show 32768 - i = 16384 + (16384 - i) by omega, h1, show 16384 - (16384 - i) = i by omega]
  have hends : sineAt 32768 = sineAt 0 := by
    simp [sineAt, sinQuarter_zero]
  rcases Nat.lt_trichotomy i 16384 with hlt | rfl | hgt
  · rcases Nat.eq_zero_or_pos i with rfl | hpos
    · exact hends
    · exact key i hpos hlt
  · rfl
  · rcases Nat.eq_or_lt_of_le h with rfl | hlt
    · exact hends.symm
    · have := key (32768 - i) (by omega) (by omega)
      rw [← this]
      congr 1
      omega

theorem sineAt_natAbs_le (i : Nat) : (sineAt i).natAbs ≤ 131071 := by
  have hlt : i % 16384 ≤ 16384 := (Nat.mod_lt _ (by decide)).le
  have h1 := sinQuarter_le hlt
  have h2 := sinQuarter_le (Nat.sub_le 16384 (i % 16384))
  simp only [sineAt]
  split <;> omega

/-- The values of R24's table. -/
theorem sineAt_table : sineAt 0 = 0 ∧ sineAt 16383 = 131071 ∧ sineAt 16384 = 131071 ∧ sineAt 32768 = 0 ∧
    sineAt 49152 = -131071 ∧ sineAt 49479 = -131007 ∧ sineAt 49807 = -130813 := by decide +kernel

/-! ### A state entry at the synthesizer (R20 to R23, R26 to R28) -/

theorem synthEnter_channel (it : StateItems) (initial : Bool) (y : Synth) (c : ChannelNo) :
    (synthEnter it initial y).channels.get c =
      takeUpChannel (if initial then 0 else y.thetaRef) c (it.channels.get c)
        (if initial then 0 else (y.channels.get c).lastEmitted)
        (if initial then { y.channels.get c with lastComputed := 0 } else y.channels.get c) := by
  cases initial <;> simp [synthEnter]

/-- A phase offset is the angle's exact share of 2³², rounded half-up (R21). -/
theorem phaseOffset_spec {angle : Nat} (h : angle < 36000) :
    2 * (angle * 2 ^ 32) < (2 * (phaseOffset angle).toNat + 1) * 36000 ∧
      2 * (phaseOffset angle).toNat * 36000 ≤ 2 * (angle * 2 ^ 32) + 36000 := by
  rw [phaseOffset_toNat h]
  exact halfUp_spec _ (by decide)

theorem frequencyWord_spec (f : Nat) :
    2 * (f * 2 ^ 32) < (2 * frequencyWord f + 1) * 10 ^ 7 ∧ 2 * frequencyWord f * 10 ^ 7 ≤ 2 * (f * 2 ^ 32) + 10 ^ 7 :=
  halfUp_spec _ (by decide)

theorem amplitudeCode_spec (c : ChannelNo) (m : Nat) :
    2 * (m * if c.val < 3 then 6749 else 60738) < (2 * amplitudeCode c m + 1) * 65536 ∧
      2 * amplitudeCode c m * 65536 ≤ 2 * (m * if c.val < 3 then 6749 else 60738) + 65536 :=
  halfUp_spec _ (by decide)

theorem harmonicAmplitude_spec (a h : Nat) :
    2 * (a * h) < (2 * harmonicAmplitude a h + 1) * 1000 ∧ 2 * harmonicAmplitude a h * 1000 ≤ 2 * (a * h) + 1000 :=
  halfUp_spec _ (by decide)

/-- Settles O41: the half-up quotients at a state entry; the sine by its quadrants, and bounded as the sine is. -/
theorem stateEntryAndTheSineFunction : Obligations.StateEntryAndTheSineFunction := by
  refine ⟨fun it initial y c => ?_, fun θ φ h => congrArg sineAt h, fun i => sineAt_half, fun i => sineAt_mirror,
    fun θ => sineAt_natAbs_le _, sineAt_table⟩
  dsimp only
  rw [synthEnter_channel]
  refine ⟨frequencyWord_spec _, rfl, rfl, amplitudeCode_spec _ _, phaseOffset_spec, phaseOffset_spec, rfl,
    fun h => if_pos h, fun h => ?_, rfl, rfl, rfl, rfl, ?_, fun h => ?_, fun h => ?_, fun h => ?_⟩
  · simp only [takeUpChannel, if_neg h]
    exact harmonicAmplitude_spec _ _
  · cases initial <;> rfl
  · simp [takeUpChannel, h]
  · simp [takeUpChannel, h]
  · simp only [takeUpChannel, h, clampTo_eq (m := Config.codeLimit) (by decide)]
    rfl

end Sys2Proof.Proofs
end

section
/-! SAMPLE_BOUNDARY (R19, R25, R26, R29 to R31, R35 to R37) and the sample port's frame (R32). -/

namespace Sys2Proof.Proofs

open Sys2Proof.Machine

variable {s : State}

/-! ### The sample port (R32) -/

theorem bitsOf_length (k n : Nat) : (bitsOf k n).length = k := by
  induction k with
  | zero => rfl
  | succ k ih => simp [bitsOf, ih]

/-- The bits of a number stand most significant first. -/
theorem bitsOf_getElem? {k j : Nat} (n : Nat) (h : j < k) : (bitsOf k n)[j]? = some (n.testBit (k - 1 - j)) := by
  induction k generalizing j with
  | zero => cases h
  | succ k ih =>
    cases j with
    | zero => rfl
    | succ j =>
      rw [bitsOf, List.getElem?_cons_succ, ih (by omega)]
      congr 2
      omega

/-- Where each part has the length `m`, place `m * i + j` of the whole is place `j` of part `i`. -/
theorem flatMap_getElem? {α β : Type} {f : α → List β} {m : Nat} (hf : ∀ a, (f a).length = m) {j : Nat} (hj : j < m) :
    ∀ (l : List α) (i : Nat), (l.flatMap f)[m * i + j]? = l[i]?.bind fun a => (f a)[j]?
  | [], _ => by simp
  | a :: l, 0 => by simp [List.getElem?_append_left (by rw [hf]; exact hj : j < (f a).length)]
  | a :: l, i + 1 => by
    have hle : (f a).length ≤ m * (i + 1) + j := by rw [hf, Nat.mul_succ]; omega
    rw [List.flatMap_cons, List.getElem?_append_right hle, hf, Nat.mul_succ,
      show m * i + m + j - m = m * i + j by omega, flatMap_getElem? hf hj l i, List.getElem?_cons_succ]

theorem portFrame_length (y : Synth) : (portFrame y).length = 96 := by
  simp [portFrame, List.length_flatMap, bitsOf_length]

theorem portFrame_bit (y : Synth) (c : ChannelNo) {j : Nat} (hj : j < 16) :
    (portFrame y)[16 * c.val + j]? = some ((BitVec.ofInt 16 (y.channels.get c).lastEmitted).getMsbD j) := by
  have hc : y.channels.toList[c.val]? = some (y.channels.get c) := by
    simp [Vector.get_eq_getElem]
  rw [portFrame, flatMap_getElem? (fun _ => bitsOf_length _ _) hj, hc, Option.bind_some, bitsOf_getElem? _ hj]
  simp [BitVec.getMsbD, hj, BitVec.getLsbD]

theorem portPins_bit (y : Synth) {j d : Nat} (hj : j < 96) (hd : d < 200) :
    portPins y (200 * j + d) = (true, decide (100 ≤ d), (portFrame y).getD j false) := by
  have hlt : 200 * j + d < 19200 := by omega
  have hmod : (200 * j + d) % 200 = d := by omega
  have hdiv : (200 * j + d) / 200 = j := by omega
  rw [portPins, if_pos hlt, hmod, hdiv]

/-! ### When a sample is taken (R31, R32) -/

theorem sampleDue_iff (s : State) : sampleDue s = true ↔ s.clock.sampleTaken = false ∧
    (s.clock.running = true → s.now % 100 = 0) ∧
    (s.clock.running = false → 0 < s.clock.elapsed ∧ s.clock.elapsed % 100 = 0) := by
  have hp : Config.samplePeriod = 100 := rfl
  cases hr : s.clock.running <;> simp [sampleDue, hr, ← hp]

theorem exec_sampleBoundary_not_due (h : sampleDue s = false ∨ dueList s ≠ []) : exec .sampleBoundary s = .next s := by
  refine congrArg Host.Outcome.next (if_neg ?_)
  rcases h with h | h <;> simp [h]

theorem exec_sampleBoundary_due (h : sampleDue s = true) (hd : dueList s = []) :
    exec .sampleBoundary s = .next (takeSample s) :=
  congrArg Host.Outcome.next (if_pos (by simp [h, hd]))

/-! ### One channel's sample -/

theorem codeSign_eq_sign (y : Int) : codeSign y = Int.sign y := by
  unfold codeSign
  split
  · next h => exact (Int.sign_eq_neg_one_of_neg h).symm
  · split
    · next h => simp [h]
    · next h h' => exact (Int.sign_eq_one_of_pos (by omega)).symm

/-- The argument of the harmonic's sine, computed as a number (R25). -/
theorem harmonic_phase (h : Nat) (θ φ : BitVec 32) :
    BitVec.ofNat 32 h * θ + φ = BitVec.ofNat 32 (h * θ.toNat + φ.toNat) := by
  rw [BitVec.ofNat_add, BitVec.ofNat_mul]
  simp

/-- The forcing of a channel of an open breaker, before it is FORCED, at its `k`-th watched sample (R35). -/
theorem nextForcing_watched {f : Forcing} {k : Nat} (hk : (f = .unforced ∧ k = 1) ∨ ∃ m, f = .watching m ∧ k = m + 1)
    (prev y : Int) :
    nextForcing true prev y f = if y = 0 ∨ Int.sign y ≠ Int.sign prev ∨ 100 ≤ k then .forced else .watching k := by
  rw [← codeSign_eq_sign, ← codeSign_eq_sign]
  obtain ⟨rfl, rfl⟩ | ⟨m, rfl, rfl⟩ := hk <;> rfl

theorem isForced_voltage (f : Vector Forcing 3) {c : ChannelNo} (h : c.val < 3) : isForced f c = false := by
  simp [isForced, forcingIndex, Nat.not_le.2 h]

theorem isForced_current (f : Vector Forcing 3) {c : ChannelNo} {i : Fin 3} (h : c.val = i.val + 3) :
    isForced f c = (f.get i == .forced) := by
  have h3 : 3 ≤ c.val := by omega
  have hi : (⟨c.val - 3, by omega⟩ : Fin 3) = i := Fin.ext (by simp [h])
  simp [isForced, forcingIndex, h3, hi]

theorem computedCode_eq (θ : BitVec 32) (c : ChannelState) :
    computedCode θ c = max (-32767) (min 32767 (sampleSum θ c)) := clampTo_eq (by decide) _

theorem sampleSum_eq (θ : BitVec 32) (c : ChannelState) :
    sampleSum θ c = halfAway (c.amp * sineS (θ + c.phi)) 131072 +
      (if c.harm = 0 then 0
        else halfAway (c.ampH * sineS (BitVec.ofNat 32 (c.harm * θ.toNat + c.phiH.toNat))) 131072) +
      halfAway c.residue 256 := by
  rw [sampleSum, periodicPart, dcContribution, harmonic_phase]

theorem sampleVisit_channel (s : State) (c : ChannelNo) :
    (sampleVisit s).synth.channels.get c =
      sampleChannel s.synth.thetaRef (isForced (forcingAfter s) c) (s.synth.channels.get c) :=
  tabulate_get _ c

/-- The forcing of CH4..CH6 after a boundary is that of one step of its channel (R34, R35, R37). -/
theorem forcingAfter_get (s : State) {c : ChannelNo} {i : Fin 3} (h : c.val = i.val + 3) :
    (forcingAfter s).get i = nextForcing (contactsOpen s.breaker.state) (s.synth.channels.get c).lastComputed
      (computedCode s.synth.thetaRef (s.synth.channels.get c)) (s.breaker.forcing.get i) := by
  have hc : c = ⟨i.val + 3, by omega⟩ := Fin.ext h
  rw [hc]
  exact tabulate_get _ i

theorem nextForcing_closed (prev y : Int) (f : Forcing) : nextForcing false prev y f = .unforced := rfl

theorem nextForcing_forced (prev y : Int) : nextForcing true prev y .forced = .forced := rfl

theorem contactsOpen_eq_false {b : BreakerState} (h : b = .closed ∨ b = .opening) : contactsOpen b = false := by
  rcases h with rfl | rfl <;> rfl

theorem contactsOpen_eq_true {b : BreakerState} (h : b = .opened ∨ b = .closing) : contactsOpen b = true := by
  rcases h with rfl | rfl <;> rfl

/-- Settles O40: the frame bit by bit, and a boundary of a visit channel by channel, its forcing by the breaker. -/
theorem sampleBoundaryEmits : Obligations.SampleBoundaryEmits := by
  unfold Obligations.SampleBoundaryEmits
  refine ⟨⟨fun y => ⟨portFrame_length y, fun c j => portFrame_bit y c, fun j d => portPins_bit y,
    fun ns hns => if_neg (Nat.not_lt.2 hns)⟩, sampleDue_iff⟩, fun s => exec_sampleBoundary_not_due, ?_, ?_⟩
  · intro s hs hd hv
    have hz : takeSample s = (sampleZero s).modClock fun c => { c with sampleTaken := true } := by
      simp [takeSample, hv]
    exact ⟨_, exec_sampleBoundary_due hs hd, hz ▸ fun c => tabulate_get _ c, hz ▸ rfl, hz ▸ rfl⟩
  · intro s hs hd hv
    have ht : takeSample s = (sampleVisit s).modClock fun c => { c with sampleTaken := true } := by
      simp [takeSample, Option.isSome_iff_ne_none, hv]
    refine ⟨_, exec_sampleBoundary_due hs hd, ?_⟩
    rw [ht]
    refine ⟨rfl, rfl, rfl, fun c => ?_, rfl, rfl⟩
    intro x fundamental harmonic sum y
    have hsum : sampleSum s.synth.thetaRef x = sum := sampleSum_eq _ _
    have hy : computedCode s.synth.thetaRef x = y := (computedCode_eq _ _).trans (by rw [hsum])
    have hch : ((sampleVisit s).modClock fun c => { c with sampleTaken := true }).synth.channels.get c =
        sampleChannel s.synth.thetaRef (isForced (forcingAfter s) c) x := sampleVisit_channel s c
    have hf : ((sampleVisit s).modClock fun c => { c with sampleTaken := true }).breaker.forcing = forcingAfter s := rfl
    rw [hch, hf]
    simp only [sampleChannel, hy, hsum]
    refine ⟨trivial, ?_, ?_, ?_, fun hc => ?_, fun i hc => ?_⟩
    · simp [nextResidue, towardZero]
    · by_cases h : sum = y <;> simp [h, satAdd, Config.countLimit]
    · simp
    · simp [isForced_voltage _ hc]
    · have hstep := forcingAfter_get s hc
      rw [hy] at hstep
      rw [isForced_current _ hc]
      refine ⟨fun h => by simp [h], fun h => by simp [h], fun hb => ?_, fun hb => ⟨fun h => ?_, fun k hk => ?_⟩⟩
      · rw [hstep, contactsOpen_eq_false hb, nextForcing_closed]
      · rw [hstep, contactsOpen_eq_true hb, h, nextForcing_forced]
      · rw [hstep, contactsOpen_eq_true hb, nextForcing_watched hk]
        exact ⟨fun h => if_pos h, fun h => if_neg h⟩

end Sys2Proof.Proofs
end

section
/-! State entries (R43, R44, R62, R100): what the engine, the synthesizer, the evaluator and the transmit queue hold
after one, and the entry of a run's initial state. -/

namespace Sys2Proof.Proofs

open Sys2Proof.Machine Sys2Proof.Safety Sys2Proof.Claims

variable {s : State}

/-! ### Entering a state -/

/-- The outputs `o` that the BREAKER-SETUP of an enabled breaker names (R63). -/
def Owned (s : State) (o : OutputNo) : Prop :=
  s.plan.items.breaker.enabled = true ∧
    (s.plan.items.breaker.out52a = some o ∨ s.plan.items.breaker.out52b = some o)

theorem breakerOwns_iff (h : s.engine.runState = .running) (o : OutputNo) : breakerOwns s o = true ↔ Owned s o := by
  simp [breakerOwns, h, Owned, State.breakerSetup]

theorem breakerOwns_eq_false (h : s.engine.runState = .running) {o : OutputNo} (ho : ¬Owned s o) :
    breakerOwns s o = false :=
  Bool.eq_false_iff.2 fun hb => ho ((breakerOwns_iff h o).1 hb)

/-- The engine after a state entry, an entry mark queued or not (R44, R62). -/
theorem enterState_engine (st : StateNo) (b : Instant) (initial : Bool) (s : State) :
    (enterState st b initial s).engine = { s.engine with
      visit := some { state := st, number := s.engine.visitCount + 1, entry := b, uncoordinated := false }
      visitCount := s.engine.visitCount + 1
      timers := tabulate fun n => armedExpiry b ((s.plan.items.states.get st).triggers.get n)
      backstop := some (b + (s.plan.items.states.get st).control.backstop * 1000)
      decided := none
      pendingMark := none
      pendingFallback := none
      firstOperates := Vector.replicate 8 false
      held := []
      latestVisit := some st
      boLevels := tabulate fun o =>
        if !breakerOwns s o && (s.plan.items.states.get st).control.boDelays.get o == 0 then
          (s.plan.items.states.get st).control.boLevels.get o
        else s.engine.boLevels.get o
      boSchedule := tabulate fun o =>
        if !breakerOwns s o && (s.plan.items.states.get st).control.boDelays.get o != 0 then
          some (b + (s.plan.items.states.get st).control.boDelays.get o * 1000,
            (s.plan.items.states.get st).control.boLevels.get o)
        else none
      boHeld := Vector.replicate 4 none } := by
  rw [enterState]
  dsimp only [State.stateItems]
  split
  · simp only [queueMark_frame]
    rfl
  · rfl

theorem enterState_synth (st : StateNo) (b : Instant) (initial : Bool) (s : State) :
    (enterState st b initial s).synth = synthEnter (s.plan.items.states.get st) initial s.synth := by
  rw [enterState]
  dsimp only [State.stateItems]
  split
  · simp only [queueMark_frame]
    rfl
  · rfl

theorem enterState_eval (st : StateNo) (b : Instant) (initial : Bool) (s : State) :
    (enterState st b initial s).eval = (openWorking s).eval := by
  rw [enterState]
  dsimp only [State.stateItems]
  split
  · simp only [queueMark_frame]
    rfl
  · rfl

theorem openWorking_working (s : State) : ∃ w, (openWorking s).eval.working = some w ∧ ∀ i,
    w.firstOperate.get i = none ∧ (w.lockoutSeen.get i ≠ none ↔ (s.input i).lockout ≠ none) := by
  refine ⟨_, rfl, fun i => ⟨get_replicate none i, ?_⟩⟩
  rw [tabulate_get]
  simp

/-! ### The entry mark -/

theorem queueMark_room (h : Room s) {l : Label} (hl : s.engine.runLabel = some l) (code : MarkCode) (x : Instant) :
    queueMark code x s = s.modLink fun k =>
      { k with
        nextAge := k.nextAge + 1
        tx := insertByPriority (newEntry (groupFrame (.mark l code x) .engine) s) k.tx } := by
  simp only [queueMark, hl]
  exact place_room h _

theorem queueMark_unlabelled (hl : s.engine.runLabel = none) (code : MarkCode) (x : Instant) :
    queueMark code x s = s := by
  simp [queueMark, hl]

/-- A MARK that finds a place changes the transmit queue only, and tells no outcome. -/
theorem queueMark_room_notices (h : Room s) (code : MarkCode) (x : Instant) :
    (queueMark code x s).link.notices = s.link.notices := by
  cases hl : s.engine.runLabel with
  | none => rw [queueMark_unlabelled hl]
  | some l => rw [queueMark_room h hl]; rfl

theorem queueMark_room_eq (h : Room s) (code : MarkCode) (x : Instant) :
    queueMark code x s = { s with link := (queueMark code x s).link } := by
  cases hl : s.engine.runLabel with
  | none => rw [queueMark_unlabelled hl]
  | some l => rw [queueMark_room h hl]; rfl

/-- A state entered with no frame queued: what `enterState` leaves of the blocks but the transmit queue. -/
def entered (st : StateNo) (b : Instant) (initial : Bool) (s : State) : State :=
  { s with
    engine := (enterState st b initial s).engine
    synth := (enterState st b initial s).synth
    eval := (enterState st b initial s).eval }

theorem enterState_unmarked {st : StateNo} (b : Instant) (initial : Bool)
    (h : (s.plan.items.states.get st).control.entryMark = none) :
    enterState st b initial s = entered st b initial s := by
  rw [entered, enterState]
  dsimp only [State.stateItems]
  rw [h]
  rfl

theorem enterState_marked {st : StateNo} {c : MarkCode} (b : Instant) (initial : Bool)
    (h : (s.plan.items.states.get st).control.entryMark = some c) :
    enterState st b initial s = queueMark c b (entered st b initial s) := by
  rw [entered, enterState]
  dsimp only [State.stateItems]
  rw [h]
  simp only [queueMark_frame]
  rfl

theorem room_entered (h : Room s) (st : StateNo) (b : Instant) (initial : Bool) : Room (entered st b initial s) := h

theorem enterState_room_notices (h : Room s) (st : StateNo) (b : Instant) (initial : Bool) :
    (enterState st b initial s).link.notices = s.link.notices := by
  cases hm : (s.plan.items.states.get st).control.entryMark with
  | none => rw [enterState_unmarked b initial hm]; rfl
  | some c => rw [enterState_marked b initial hm, queueMark_room_notices (room_entered h st b initial)]; rfl

theorem enterState_room_eq (h : Room s) (st : StateNo) (b : Instant) (initial : Bool) :
    enterState st b initial s =
      { entered st b initial s with link := (enterState st b initial s).link } := by
  cases hm : (s.plan.items.states.get st).control.entryMark with
  | none => rw [enterState_unmarked b initial hm]
  | some c => rw [enterState_marked b initial hm]; exact queueMark_room_eq (room_entered h st b initial) c b

/-! ### The initial state of a run (R43) -/

theorem initialEntryDue_iff : initialEntryDue s = true ↔
    s.engine.runState = .running ∧ s.engine.visit = none ∧ s.engine.visitCount = 0 ∧ 1000 ≤ s.now ∧
      s.now < 3600000000 := by
  simp only [initialEntryDue, Bool.and_eq_true, decide_eq_true_eq, beq_iff_eq, Option.isNone_iff_eq_none, and_assoc]
  rfl

theorem exec_initialStateEntry_due (h : initialEntryDue s = true) :
    exec .initialStateEntry s = .next (settle (takeInitialEntry s)) :=
  congrArg Host.Outcome.next (if_pos h)

theorem exec_initialStateEntry_not_due (h : ¬initialEntryDue s = true) : exec .initialStateEntry s = .next s :=
  congrArg Host.Outcome.next (if_neg h)

theorem armedExpiry_of_not_timer {b : Instant} {tr : Trigger} (h : ∀ d target coord, tr ≠ .timer d target coord) :
    armedExpiry b tr = none := by
  cases tr with
  | timer d target coord => exact absurd rfl (h d target coord)
  | _ => rfl

/-- Settles O35: the entry queues at most its own mark, so that no outcome is left to settle, and the blocks are those
of a state entry. -/
theorem initialStateIsEntered : Obligations.InitialStateIsEntered := by
  unfold Obligations.InitialStateIsEntered
  refine ⟨fun s h => exec_initialStateEntry_not_due fun hdue => ?_, ?_⟩
  · obtain ⟨hrun, hvisit, hcount, hnow, -⟩ := initialEntryDue_iff.1 hdue
    rcases h with h | h | h | h
    · exact h hrun
    · exact h hvisit
    · exact h hcount
    · exact absurd hnow (Nat.not_le.2 h)
  intro s hrun hvisit hcount hnow hlimit hq hroom st it owned
  have hexec : exec .initialStateEntry s = .next (enterState st 1000 true s) := by
    rw [exec_initialStateEntry_due (initialEntryDue_iff.2 ⟨hrun, hvisit, hcount, hnow, hlimit⟩)]
    exact congrArg _ (settle_of_quiet _ ((enterState_room_notices hroom st 1000 true).trans hq))
  have howns {o : OutputNo} (ho : owned o) : breakerOwns s o = true := (breakerOwns_iff hrun o).2 ho
  have hfree {o : OutputNo} (ho : ¬owned o) : breakerOwns s o = false := breakerOwns_eq_false hrun ho
  refine ⟨_, hexec, ?_⟩
  rw [enterState_synth, enterState_eval, enterState_engine]
  refine ⟨hrun, by rw [hcount], by rw [hcount], rfl, rfl, rfl, fun i => get_replicate false i,
    fun n d target coord h => ?_, fun n h => ?_, rfl, fun o h => ?_, fun o h h0 => ⟨?_, ?_⟩, fun o h h0 => ?_,
    fun o h => ?_, rfl, rfl, rfl, fun c => ?_, openWorking_working s, fun h => ?_, fun c l h hl => ?_, ?_⟩
  · rw [tabulate_get, show (s.plan.items.states.get st).triggers.get n = _ from h]
    rfl
  · exact (tabulate_get _ n).trans (armedExpiry_of_not_timer h)
  · rw [tabulate_get, if_neg]
    rcases h with h | h
    · simp [howns h]
    · simp [show (s.plan.items.states.get st).control.boDelays.get o ≠ 0 from h]
  · rw [tabulate_get, if_pos]
    simp [hfree h, show (s.plan.items.states.get st).control.boDelays.get o = 0 from h0]
  · rw [tabulate_get, if_neg]
    simp [show (s.plan.items.states.get st).control.boDelays.get o = 0 from h0]
  · rw [tabulate_get, if_pos]
    simp [hfree h, show (s.plan.items.states.get st).control.boDelays.get o ≠ 0 from h0]
  · rw [tabulate_get, if_neg]
    simp [howns h]
  · rw [synthEnter_channel]
    exact ⟨rfl, rfl, rfl, rfl, rfl⟩
  · rw [enterState_unmarked 1000 true h]
    rfl
  · rw [enterState_marked 1000 true h, queueMark_room (room_entered hroom st 1000 true)]
    · exact inserted_insertByPriority _ _
    · simpa [entered] using hl
  · rw [← enterState_engine, ← enterState_synth, ← enterState_eval]
    exact enterState_room_eq hroom st 1000 true

end Sys2Proof.Proofs
end

section
/-! The records of a label as one list: what an append adds to it, and what event records, evaluations and the summary
of a run leave of what stands there (R152, R155, R157). -/

namespace Sys2Proof.Proofs

open Sys2Proof.Machine Sys2Proof.Safety

variable {st st' : Store} {l m : Label} {h : HeldLabel}

/-- The records found at the indices of a held label. -/
def chainLog (st : Store) (h : HeldLabel) : List (Option Record) := (List.range h.count).map (recordAt st h)

/-- The records under a label, none where it is not held. -/
def logOf (st : Store) (l : Label) : List (Option Record) :=
  match findLabel st l with
  | some h => chainLog st h
  | none => []

/-- The end state of a label, OPEN where it is not held. -/
def endStateOf (st : Store) (l : Label) : EndState :=
  match findLabel st l with
  | some h => h.endState
  | none => .opened

theorem chainLog_length (st : Store) (h : HeldLabel) : (chainLog st h).length = h.count := by simp [chainLog]

theorem chainLog_getElem? {i : Nat} (hi : i < h.count) : (chainLog st h)[i]? = some (recordAt st h i) := by
  simp [chainLog, hi]

theorem logOf_of_mem (hs : StoreOk st) (hm : h ∈ st.heldLabels) : logOf st h.label = chainLog st h := by
  simp [logOf, findLabel_of_mem hs.2.1 hm rfl]

theorem endStateOf_of_mem (hs : StoreOk st) (hm : h ∈ st.heldLabels) : endStateOf st h.label = h.endState := by
  simp [endStateOf, findLabel_of_mem hs.2.1 hm rfl]

/-- A record of a label's list stands in the store under it. -/
theorem held_of_logOf {i : Nat} {r : Option Record} (e : (logOf st l)[i]? = some r) :
    ∃ h ∈ st.heldLabels, h.label = l ∧ logOf st l = chainLog st h ∧ i < h.count ∧ recordAt st h i = r := by
  unfold logOf at e ⊢
  split at e
  · next h hl =>
    obtain ⟨hm, hlabel⟩ := findLabel_mem hl
    have hi : i < h.count := by
      rw [← chainLog_length st h]
      exact (List.getElem?_eq_some_iff.1 e).1
    refine ⟨h, hm, hlabel, rfl, hi, ?_⟩
    rw [chainLog_getElem? hi] at e
    exact Option.some.inj e
  · cases e

/-! ### What leaves a label's records as they are -/

/-- The records of a chain are read through its blocks. -/
theorem chainLog_congr (hb : ∀ b ∈ h.chain, (st'.blocks.get b).records = (st.blocks.get b).records) :
    chainLog st' h = chainLog st h := by
  refine List.map_congr_left fun i _ => ?_
  unfold recordAt
  cases hc : h.chain[i / Config.blockRecords]? with
  | none => rfl
  | some b => simp only [hb b (List.mem_of_getElem? hc)]

/-- A label keeps its records where its entry stays and the blocks it owns keep theirs. -/
theorem logOf_congr (hs : StoreOk st) (hf : findLabel st' m = findLabel st m)
    (hb : ∀ b, (st.blocks.get b).owner = some m → (st'.blocks.get b).records = (st.blocks.get b).records) :
    logOf st' m = logOf st m := by
  unfold logOf
  rw [hf]
  cases e : findLabel st m with
  | none => rfl
  | some h =>
    obtain ⟨hm, rfl⟩ := findLabel_mem e
    exact chainLog_congr fun b hbm => hb b ((hs.1 h hm).2.1 b hbm)

theorem endStateOf_congr (hf : findLabel st' m = findLabel st m) : endStateOf st' m = endStateOf st m := by
  simp only [endStateOf, hf]

theorem findLabel_setHeld (st : Store) (h : HeldLabel) (m : Label) :
    findLabel (setHeld st h) m = (findLabel st m).map fun x => if x.label == h.label then h else x := by
  have hp : ((fun x : HeldLabel => x.label == m) ∘ fun x => if x.label == h.label then h else x) =
      fun x : HeldLabel => x.label == m := by
    funext x
    by_cases hx : x.label = h.label <;> simp [hx]
  simp only [findLabel, setHeld, List.find?_map, hp]

theorem findLabel_setHeld_ne (hm : m ≠ h.label) : findLabel (setHeld st h) m = findLabel st m := by
  rw [findLabel_setHeld]
  cases e : findLabel st m with
  | none => rfl
  | some x => simp [(findLabel_mem e).2, hm]

theorem findLabel_setHeld_self {x : HeldLabel} (e : findLabel st h.label = some x) :
    findLabel (setHeld st h) h.label = some h := by
  simp [findLabel_setHeld, e, (findLabel_mem e).2]

/-! ### What an append adds (R155) -/

/-- The list of a label with one more record: at the next index, with this time and these contents. -/
def logged (log : List (Option Record)) (time : Instant) (c : Contents) : List (Option Record) :=
  log ++ [some { index := log.length, time := time, contents := c }]

/-- An append under `l` changes the list of `l` by its record, and no other list and no end state. -/
structure Logs (l : Label) (time : Instant) (c : Contents) (st st' : Store) : Prop where
  same : logOf st' l = logged (logOf st l) time c
  other : ∀ m, m ≠ l → logOf st' m = logOf st m
  endState : ∀ m, endStateOf st' m = endStateOf st m

/-- A chain that holds one record more, each earlier one where it stood. -/
theorem chainLog_succ {h' : HeldLabel} {time : Instant} {c : Contents} (hc : h'.count = h.count + 1)
    (hkeep : ∀ i, i < h.count → recordAt st' h' i = recordAt st h i)
    (hnew : recordAt st' h' h.count = some (nextRecord h time c)) :
    chainLog st' h' = logged (chainLog st h) time c := by
  rw [logged, chainLog_length, chainLog, hc, List.range_succ, List.map_append, List.map_singleton, hnew]
  exact congrArg (· ++ _) (List.map_congr_left fun i hi => hkeep i (List.mem_range.1 hi))

theorem recordAt_of_block {i : Nat} {b : BlockNo} (hb : h.chain[i / 8]? = some b) :
    recordAt st h i = (st.blocks.get b).records[i % 8]? := by
  simp [recordAt, Config.blockRecords, hb]

/-- An append is known by the entry and the records of its own label, where the entries of the others and the records in
their blocks stay. -/
theorem Logs.of_find {time : Instant} {c : Contents} (hs : StoreOk st)
    (hsame : logOf st' l = logged (logOf st l) time c) (hend : endStateOf st' l = endStateOf st l)
    (hother : ∀ m, m ≠ l → findLabel st' m = findLabel st m)
    (hb : ∀ m b, m ≠ l → (st.blocks.get b).owner = some m →
      (st'.blocks.get b).records = (st.blocks.get b).records) : Logs l time c st st' := by
  refine ⟨hsame, fun m hm => logOf_congr hs (hother m hm) fun b ho => hb m b hm ho, fun m => ?_⟩
  by_cases hm : m = l
  · rw [hm, hend]
  · exact endStateOf_congr (hother m hm)

theorem logs_in_tail (time : Instant) (c : Contents) (hs : StoreOk st) (e : findLabel st l = some h)
    (hroom : 0 < tailRoom st l) : Logs l time c st (appendTo l time c st) := by
  obtain ⟨hm, rfl⟩ := findLabel_mem e
  have ok := hs.1 h hm
  obtain ⟨b, hlast, hmem, hat, hown, hlen, hpos, hhi⟩ := ChainOk.tail ok
  rw [appendTo_in_tail time c e hroom hlast]
  rw [tailRoom_of_held e ok] at hroom
  set h' : HeldLabel := { h with count := h.count + 1 }
  set st' := addToBlock b (nextRecord h time c) (setHeld st h')
  have hget : ∀ x, st'.blocks.get x =
      if x = b then { st.blocks.get b with records := (st.blocks.get b).records ++ [nextRecord h time c] }
      else st.blocks.get x := fun x => modAt_get _ _ _ _
  have hfind : findLabel st' h.label = some h' := findLabel_setHeld_self (h := h') e
  obtain ⟨-, -, hlink, -⟩ := ok
  refine Logs.of_find hs ?_ (by simp only [endStateOf, e, hfind, h'])
    (fun m hne => findLabel_setHeld_ne (h := h') hne) fun m x hne hx => ?_
  · simp only [logOf, e, hfind]
    refine chainLog_succ rfl (fun i hi => ?_) ?_
    · obtain ⟨x, hx, -⟩ := hlink (i / 8) (by omega)
      rw [recordAt_of_block (h := h') hx, recordAt_of_block hx, hget]
      by_cases hxb : x = b
      · subst hxb
        have hk : i / 8 = h.chain.length - 1 :=
          (List.getElem?_inj (by omega) (StoreOk.chain_nodup hs hm)).1 (hx.trans hat.symm)
        rw [if_pos rfl]
        exact List.getElem?_append_left (by omega)
      · rw [if_neg hxb]
    · have hk : h.count / 8 = h.chain.length - 1 := by omega
      rw [recordAt_of_block (h := h') (b := b) (by rw [hk]; exact hat), hget, if_pos rfl]
      simp only
      rw [List.getElem?_append_right (by omega), show h.count % 8 - (st.blocks.get b).records.length = 0 by omega]
      rfl
  · rw [hget, if_neg]
    rintro rfl
    exact hne (Option.some.inj (hx.symm.trans hown))

theorem logs_new_block (time : Instant) (c : Contents) (hs : StoreOk st) (e : findLabel st l = some h)
    (hroom : tailRoom st l = 0) {n : BlockNo} {rest : List BlockNo} (hn : freeBlocks st = n :: rest) :
    Logs l time c st (appendTo l time c st) := by
  obtain ⟨hm, rfl⟩ := findLabel_mem e
  have ok := hs.1 h hm
  obtain ⟨b, hlast, hmem, hat, hown, hlen, hpos, hhi⟩ := ChainOk.tail ok
  rw [appendTo_new_block time c e hroom hlast hn]
  rw [tailRoom_of_held e ok] at hroom
  set h' : HeldLabel := { h with count := h.count + 1, chain := h.chain ++ [n] }
  set st' := setHeld
    { st with
      blocks := setAt (modAt st.blocks b fun x => { x with next := some n }) n
        { owner := some h.label, next := none, records := [nextRecord h time c] } } h'
  have hnfree : (st.blocks.get n).owner = none := (mem_freeBlocks st n).1 (by simp [hn])
  have hget : ∀ x, st'.blocks.get x =
      if x = n then { owner := some h.label, next := none, records := [nextRecord h time c] }
      else if x = b then { st.blocks.get b with next := some n } else st.blocks.get x := fun x => by
    show (setAt (modAt st.blocks b _) n _).get x = _
    rw [setAt_get, modAt_get]
  have hkeep : ∀ x o, (st.blocks.get x).owner = some o → (st'.blocks.get x).records = (st.blocks.get x).records :=
    fun x o hx => by
      rw [hget, if_neg (by rintro rfl; simp [hnfree] at hx)]
      split <;> simp_all
  have hfind : findLabel st' h.label = some h' := findLabel_setHeld_self (h := h') e
  obtain ⟨-, howner, hlink, -⟩ := ok
  refine Logs.of_find hs ?_ (by simp only [endStateOf, e, hfind, h'])
    (fun m hne => findLabel_setHeld_ne (h := h') hne) fun m x _ hx => hkeep x m hx
  simp only [logOf, e, hfind]
  refine chainLog_succ rfl (fun i hi => ?_) ?_
  · obtain ⟨x, hx, -⟩ := hlink (i / 8) (by omega)
    have hx' : h'.chain[i / 8]? = some x := (List.getElem?_append_left (by omega)).trans hx
    rw [recordAt_of_block hx', recordAt_of_block hx, hkeep x _ (howner x (List.mem_of_getElem? hx))]
  · have hn' : h'.chain[h.count / 8]? = some n := by
      rw [show h.count / 8 = h.chain.length by omega]
      simp [h']
    rw [recordAt_of_block hn', hget, if_pos rfl, show h.count % 8 = 0 by omega]
    rfl

theorem logs_new_label (time : Instant) (c : Contents) (hs : StoreOk st) (e : findLabel st l = none) {n : BlockNo}
    {rest : List BlockNo} (hn : freeBlocks st = n :: rest) : Logs l time c st (appendTo l time c st) := by
  rw [appendTo_new_label time c e hn]
  set h' : HeldLabel := { label := l, chain := [n], count := 1, endState := .opened }
  set b' : StoreBlock := { owner := some l, next := none, records := [{ index := 0, time := time, contents := c }] }
  set st' : Store := { st with blocks := setAt st.blocks n b', heldLabels := st.heldLabels ++ [h'] }
  have hnfree : (st.blocks.get n).owner = none := (mem_freeBlocks st n).1 (by simp [hn])
  have hget : ∀ x, st'.blocks.get x = if x = n then b' else st.blocks.get x := fun x => setAt_get _ _ _ _
  have hfind : ∀ m, findLabel st' m = (findLabel st m).or (if l = m then some h' else none) := fun m => by
    by_cases hm : l = m <;> simp [findLabel, st', h', List.find?_append, hm]
  have hnew : findLabel st' l = some h' := by simp [hfind, e]
  have hother : ∀ m, m ≠ l → findLabel st' m = findLabel st m := fun m hne => by simp [hfind, hne.symm]
  refine Logs.of_find hs ?_ (by simp only [endStateOf, e, hnew, h']) hother fun m x _ hx => ?_
  · simp only [logOf, e, hnew]
    have hrec : recordAt st' h' 0 = some { index := 0, time := time, contents := c } := by
      rw [recordAt_of_block (h := h') (b := n) rfl, hget, if_pos rfl]
      rfl
    simp [chainLog, logged, hrec, h']
  · rw [hget, if_neg]
    rintro rfl
    simp [hnfree] at hx

/-- An append that has a place to go. -/
theorem logs_appendTo (time : Instant) (c : Contents) (hs : StoreOk st) (hroom : hasRoom st l = true) :
    Logs l time c st (appendTo l time c st) := by
  simp only [hasRoom, Bool.or_eq_true, decide_eq_true_eq, Bool.not_eq_true', List.isEmpty_eq_false_iff] at hroom
  cases e : findLabel st l with
  | some h =>
    rcases Nat.eq_zero_or_pos (tailRoom st l) with h0 | hpos
    · obtain ⟨n, rest, hn⟩ := List.exists_cons_of_ne_nil (hroom.resolve_left (by omega))
      exact logs_new_block time c hs e h0 hn
    · exact logs_in_tail time c hs e hpos
  | none =>
    obtain ⟨n, rest, hn⟩ := List.exists_cons_of_ne_nil (hroom.resolve_left (by simp [tailRoom_of_not_held e]))
    exact logs_new_label time c hs e hn

/-- An append with no place to go does not take place. -/
theorem appendTo_no_room (time : Instant) (c : Contents) (hroom : hasRoom st l = false) :
    appendTo l time c st = st := by
  obtain ⟨ht, hf⟩ : tailRoom st l = 0 ∧ freeBlocks st = [] := by simpa [hasRoom] using hroom
  unfold appendTo
  rw [hf, ht]
  split <;> rfl

end Sys2Proof.Proofs
end

section
/-! What stands in the store after the records of a run: event records, evaluations and the summary only add to the
lists of the labels, and the evaluations and the summary of a run stand last under its label (R60, R103, R112, R154). -/

namespace Sys2Proof.Proofs

open Sys2Proof.Machine Sys2Proof.Safety Sys2Proof.Claims

variable {st st' st'' : Store} {l m : Label} {x : Option Label} {s t : State} {q : RunState}

/-! ### Records that stay -/

/-- From `st` to `st'` records are only added, and no end state changes but that of `x`. -/
structure Keeps (x : Option Label) (st st' : Store) : Prop where
  ok : StoreOk st'
  log : ∀ m, logOf st m <+: logOf st' m
  endState : ∀ m, x ≠ some m → endStateOf st' m = endStateOf st m

theorem Keeps.refl (hs : StoreOk st) : Keeps x st st := ⟨hs, fun _ => List.prefix_refl _, fun _ _ => rfl⟩

theorem Keeps.trans (h : Keeps x st st') (h' : Keeps x st' st'') : Keeps x st st'' :=
  ⟨h'.ok, fun m => (h.log m).trans (h'.log m), fun m hm => (h'.endState m hm).trans (h.endState m hm)⟩

theorem Keeps.weaken (h : Keeps none st st') : Keeps x st st' := ⟨h.ok, h.log, fun m _ => h.endState m nofun⟩

/-- The bookkeeping of a run is no part of what stands under its label. -/
theorem Keeps.reserve (h : Keeps x st st') (r : Option Reserve) : Keeps x st { st' with reserve := r } :=
  ⟨h.ok, h.log, h.endState⟩

theorem Logs.isPrefix {time : Instant} {c : Contents} (h : Logs l time c st st') (m : Label) :
    logOf st m <+: logOf st' m := by
  by_cases hm : m = l
  · rw [hm, h.same]
    exact List.prefix_append _ _
  · rw [h.other m hm]

theorem getElem?_of_prefix {α : Type} {as bs : List α} (h : as <+: bs) {i : Nat} {a : α} (ha : as[i]? = some a) :
    bs[i]? = some a := by
  obtain ⟨cs, rfl⟩ := h
  rwa [List.getElem?_append_left (List.getElem?_eq_some_iff.1 ha).1]

/-- Every held label is held still, with its records and its end state. -/
theorem Keeps.held (hk : Keeps x st st') (hs : StoreOk st) {h : HeldLabel} (hm : h ∈ st.heldLabels) :
    ∃ g ∈ st'.heldLabels, g.label = h.label ∧ h.count ≤ g.count ∧ (x ≠ some h.label → g.endState = h.endState) ∧
      ∀ i, i < h.count → recordAt st' g i = recordAt st h i := by
  have hpos : 0 < h.count := by
    obtain ⟨-, -, -, hlo, -⟩ := hs.1 h hm
    omega
  have hget : ∀ i, i < h.count → (logOf st' h.label)[i]? = some (recordAt st h i) := fun i hi =>
    getElem?_of_prefix (hk.log h.label) (by rw [logOf_of_mem hs hm, chainLog_getElem? hi])
  obtain ⟨g, hg, hlabel, hlog, -, -⟩ := held_of_logOf (hget 0 hpos)
  have hcount : h.count ≤ g.count := by
    have hle := (hk.log h.label).length_le
    rwa [hlog, logOf_of_mem hs hm, chainLog_length, chainLog_length] at hle
  refine ⟨g, hg, hlabel, hcount, fun hx => ?_, fun i hi => ?_⟩
  · rw [← endStateOf_of_mem hk.ok hg, ← endStateOf_of_mem hs hm, hlabel]
    exact hk.endState _ hx
  · have h' := hget i hi
    rw [hlog, chainLog_getElem? (by omega)] at h'
    exact Option.some.inj h'

theorem keeps_appendTo (hs : StoreOk st) (l : Label) (time : Instant) (c : Contents) :
    Keeps none st (appendTo l time c st) := by
  cases hroom : hasRoom st l with
  | true =>
    have h := logs_appendTo time c hs hroom
    exact ⟨(appendOk time c hs hroom).store, h.isPrefix, fun m _ => h.endState m⟩
  | false =>
    rw [appendTo_no_room time c hroom]
    exact Keeps.refl hs

theorem keeps_storeEvent (hs : StoreOk s.store) (l : Label) (c : Contents) :
    Keeps none s.store (storeEvent l c s).store := by
  unfold storeEvent
  dsimp only
  (repeat' split)
  · exact keeps_appendTo hs _ _ _
  · exact (Keeps.refl hs).reserve _
  · exact keeps_appendTo hs _ _ _
  · exact Keeps.refl hs
  · exact Keeps.refl hs
  · exact keeps_appendTo hs _ _ _
  · exact Keeps.refl hs

theorem logOf_endState {h : HeldLabel} (hs : StoreOk st) (e : findLabel st l = some h) (v : EndState) (m : Label) :
    logOf (setHeld st { h with endState := v }) m = logOf st m := by
  obtain ⟨hm, rfl⟩ := findLabel_mem e
  by_cases hl : m = h.label
  · subst hl
    simp only [logOf, findLabel_setHeld_self (h := { h with endState := v }) e, e]
    rfl
  · exact logOf_congr hs (findLabel_setHeld_ne (h := { h with endState := v }) hl) fun _ _ => rfl

/-- The store after a RUN-SUMMARY of the label `l`: the append, then the label's end state. -/
def summarised (l : Label) (time : Instant) (c : Contents) (e : EndState) (st : Store) : Store :=
  match findLabel (appendTo l time c st) l with
  | some h => setHeld (appendTo l time c st) { h with endState := e }
  | none => appendTo l time c st

theorem storeSummary_labelled (hl : s.engine.runLabel = some l) (c : Contents) (e : EndState) :
    (storeSummary c e s).store = { summarised l s.now c e s.store with reserve := none } := by
  simp only [storeSummary, hl]
  rfl

theorem storeOk_summarised {time : Instant} {c : Contents} (hs : StoreOk (appendTo l time c st)) (e : EndState) :
    StoreOk (summarised l time c e st) := by
  unfold summarised
  split
  · next h hh => exact storeOk_endState hs hh e
  · exact hs

theorem logOf_summarised {time : Instant} {c : Contents} (hs : StoreOk (appendTo l time c st)) (e : EndState)
    (m : Label) :
    logOf (summarised l time c e st) m = logOf (appendTo l time c st) m := by
  unfold summarised
  split
  · next h hh => exact logOf_endState hs hh e m
  · rfl

theorem endStateOf_summarised {time : Instant} {c : Contents} (e : EndState) (hm : m ≠ l) :
    endStateOf (summarised l time c e st) m = endStateOf (appendTo l time c st) m := by
  unfold summarised
  split
  · next h hh =>
    obtain ⟨-, rfl⟩ := findLabel_mem hh
    exact endStateOf_congr (findLabel_setHeld_ne (h := { h with endState := e }) hm)
  · rfl

theorem endStateOf_summarised_self {time : Instant} {c : Contents} (e : EndState)
    (hh : isHeld (appendTo l time c st) l = true) : endStateOf (summarised l time c e st) l = e := by
  obtain ⟨h, hf⟩ := Option.isSome_iff_exists.1 hh
  obtain ⟨-, rfl⟩ := findLabel_mem hf
  simp only [summarised, hf, endStateOf, findLabel_setHeld_self (h := { h with endState := e }) hf]

theorem keeps_summarised (hs : StoreOk st) (time : Instant) (c : Contents) (e : EndState) :
    Keeps (some l) st (summarised l time c e st) := by
  have h := keeps_appendTo hs l time c
  refine ⟨storeOk_summarised h.ok e, fun m => ?_, fun m hm => ?_⟩
  · rw [logOf_summarised h.ok]
    exact h.log m
  · rw [endStateOf_summarised e fun hml => hm (congrArg some hml.symm)]
    exact h.endState m nofun

theorem keeps_storeSummary (hs : StoreOk s.store) (c : Contents) (e : EndState) :
    Keeps s.engine.runLabel s.store (storeSummary c e s).store := by
  cases hl : s.engine.runLabel with
  | none =>
    simp only [storeSummary, hl]
    exact (Keeps.refl hs).reserve none
  | some l =>
    rw [storeSummary_labelled hl]
    exact (keeps_summarised hs _ _ _).reserve none

theorem keeps_storeEvaluation (hs : StoreOk s.store) (c : Contents) :
    Keeps none s.store (storeEvaluation c s).store := by
  unfold storeEvaluation
  split
  · exact (keeps_appendTo hs _ _ _).reserve _
  · exact Keeps.refl hs

/-! ### The operations of a run on the store -/

theorem keeps_withdrawMark (hs : StoreOk s.store) (age : Nat) (l : Label) (c : MarkCode) (d : Instant) :
    Keeps none s.store (withdrawMark age l c d s).store := by
  unfold withdrawMark
  split
  · have h : (withdraw age s).store = s.store := by simp
    exact h ▸ keeps_storeEvent (h ▸ hs) _ _
  · exact Keeps.refl hs

theorem keeps_giveUpMark (hs : StoreOk s.store) : Keeps none s.store (giveUpMark s).store := by
  unfold giveUpMark
  (repeat' split)
  · exact Keeps.refl hs
  · exact keeps_withdrawMark (s := s.modEngine fun g => { g with pendingMark := none }) hs _ _ _ _
  · exact Keeps.refl hs

theorem keeps_closeVisit (hs : StoreOk s.store) (exit : Instant) (cause : ExitCause) :
    Keeps none s.store (closeVisit exit cause s).store := by
  unfold closeVisit
  split
  · exact Keeps.refl hs
  · next v _ =>
    have h : (closeWorking v exit cause s).store = s.store := by simp
    exact h ▸ keeps_giveUpMark (h ▸ hs)

/-- A fold of operations that only add records only adds records. -/
theorem keeps_foldl {α : Type} {f : State → α → State}
    (hf : ∀ s a, StoreOk s.store → Keeps x s.store (f s a).store) (as : List α) (hs : StoreOk s.store) :
    Keeps x s.store (as.foldl f s).store :=
  foldl_induct (fun t => Keeps x s.store t.store) f (fun t a h => h.trans (hf t a h.ok)) as s (Keeps.refl hs)

/-- A fold of operations each of which leaves the state alone leaves it alone. -/
theorem foldl_eq_self {α : Type} {f : State → α → State} {as : List α} (h : ∀ a ∈ as, ∀ s, f s a = s) (s : State) :
    as.foldl f s = s := by
  induction as with
  | nil => rfl
  | cons a as ih =>
    rw [List.foldl_cons, h a List.mem_cons_self]
    exact ih fun b hb => h b (List.mem_cons_of_mem _ hb)

theorem keeps_withdrawRunMarks (hs : StoreOk s.store) : Keeps none s.store (withdrawRunMarks s).store := by
  refine keeps_foldl (fun t e ht => ?_) _ hs
  (repeat' split)
  · exact keeps_withdrawMark ht _ _ _ _
  · exact Keeps.refl ht
  · exact Keeps.refl ht

theorem keeps_evaluateHead (hs : StoreOk s.store) : Keeps none s.store (evaluateHead s).store := by
  unfold evaluateHead
  split
  · exact Keeps.refl hs
  · next p rest _ => exact keeps_storeEvaluation (s := s.modEval fun x => { x with pendingList := rest }) hs _

theorem keeps_evaluateTimes (hs : StoreOk s.store) (n : Nat) : Keeps none s.store (evaluateTimes n s).store := by
  induction n generalizing s with
  | zero => exact Keeps.refl hs
  | succ n ih =>
    have h := keeps_evaluateHead hs
    exact h.trans (ih h.ok)

theorem keeps_writeSummary (hs : StoreOk s.store) (e : EndState) :
    Keeps s.engine.runLabel s.store (writeSummary e s).store :=
  keeps_storeSummary (s := s.modEngine fun g => { g with lastState := g.latestVisit }) hs _ e

theorem keeps_finishIfDone (hs : StoreOk s.store) : Keeps s.engine.runLabel s.store (finishIfDone s).store := by
  have h : (finishRun s).store = (writeSummary .finished s).store := by
    unfold finishRun
    dsimp only
    split <;> simp
  unfold finishIfDone
  split
  · rw [h]
    exact keeps_writeSummary hs _
  · exact Keeps.refl hs

/-! ### Evaluations in their order (R103, R112) -/

/-- The list of a label with the records of `cs` behind it, all at one time. -/
def loggedAll (log : List (Option Record)) (time : Instant) (cs : List Contents) : List (Option Record) :=
  cs.foldl (fun log c => logged log time c) log

theorem loggedAll_eq (log : List (Option Record)) (time : Instant) (cs : List Contents) :
    loggedAll log time cs =
      log ++ cs.mapIdx fun i c => some { index := log.length + i, time := time, contents := c } := by
  induction cs generalizing log with
  | nil => simp [loggedAll]
  | cons c cs ih =>
    have h := ih (logged log time c)
    simp only [loggedAll, List.foldl_cons] at h ⊢
    rw [h, List.mapIdx_cons]
    simp [logged, Nat.add_assoc, Nat.add_comm 1]

theorem loggedAll_length (log : List (Option Record)) (time : Instant) (cs : List Contents) :
    (loggedAll log time cs).length = log.length + cs.length := by simp [loggedAll_eq]

theorem loggedAll_getElem? {log : List (Option Record)} {time : Instant} {cs : List Contents} {k : Nat} {c : Contents}
    (h : cs[k]? = some c) :
    (loggedAll log time cs)[log.length + k]? =
      some (some { index := log.length + k, time := time, contents := c }) := by
  rw [loggedAll_eq, List.getElem?_append_right (Nat.le_add_right _ _), Nat.add_sub_cancel_left]
  simp [h]

/-- While its bookkeeping stands, the run's label has room for a record (R156). -/
theorem RunInv.hasRoom (h : RunInv q s) (ha : isActive q = true) (hl : s.engine.runLabel = some l) :
    hasRoom s.store l = true := by
  obtain ⟨r, hr⟩ := Option.isSome_iff_exists.1 (h.ok.reserve.trans ha)
  obtain ⟨l', hb⟩ := h.ok.balanced r hr
  obtain rfl : l' = l := Option.some.inj (hb.label.symm.trans hl)
  exact hasRoom_of_capacity (Nat.lt_of_lt_of_le (Nat.succ_pos _) hb.reserve)

theorem RunInv.active_of_pending (h : RunInv q s) (hp : s.eval.pendingList ≠ []) : isActive q = true := by
  rcases h.ok.pending (by simpa [ledger] using hp) with rfl | rfl <;> rfl

theorem logs_evaluateHead (h : RunInv q s) (hl : s.engine.runLabel = some l) {p : PendingEntry}
    {rest : List PendingEntry} (hp : s.eval.pendingList = p :: rest) :
    Logs l s.now (evaluated p) s.store (evaluateHead s).store := by
  have hroom := h.hasRoom (h.active_of_pending (by simp [hp])) hl
  have hlogs := logs_appendTo s.now (evaluated p) h.ok.store hroom
  have hl' : (s.modEval fun x => { x with pendingList := rest }).engine.runLabel = some l := hl
  simp only [evaluateHead, hp, storeEvaluation, hl']
  exact ⟨hlogs.same, hlogs.other, hlogs.endState⟩

theorem evaluateTimes_pendingList (n : Nat) (s : State) :
    (evaluateTimes n s).eval.pendingList = s.eval.pendingList.drop n := by
  induction n generalizing s with
  | zero => rfl
  | succ n ih => rw [evaluateTimes, ih, evaluateHead_pendingList, List.drop_tail, Nat.add_comm]

theorem runInv_evaluateTimes (h : RunInv q s) (n : Nat) : RunInv q (evaluateTimes n s) := by
  induction n generalizing s with
  | zero => exact h
  | succ n ih => exact ih (runInv_evaluateHead h)

/-- The oldest entries evaluated stand last under the run's label, in their order. -/
theorem logOf_evaluateTimes (h : RunInv q s) (hl : s.engine.runLabel = some l) {n : Nat}
    (hn : n ≤ s.eval.pendingList.length) :
    logOf (evaluateTimes n s).store l =
      loggedAll (logOf s.store l) s.now ((s.eval.pendingList.take n).map evaluated) := by
  induction n generalizing s with
  | zero => simp [evaluateTimes, loggedAll]
  | succ n ih =>
    cases hp : s.eval.pendingList with
    | nil => simp [hp] at hn
    | cons p rest =>
      have htail : (evaluateHead s).eval.pendingList = rest := by rw [evaluateHead_pendingList, hp]; rfl
      rw [evaluateTimes, ih (runInv_evaluateHead h) (by simpa using hl) (by simpa [htail, hp] using hn),
        (logs_evaluateHead h hl hp).same, htail]
      simp [loggedAll]

/-- The entries due at the head are the first `k`, and the next one's horizon has not come. -/
theorem evaluateWhileDue_eq (n : Nat) (s : State) :
    ∃ k, evaluateWhileDue n s = evaluateTimes k s ∧ k ≤ s.eval.pendingList.length ∧
      (∀ p ∈ s.eval.pendingList.take k, p.horizon ≤ s.now) ∧
      (k = n ∨ ∀ p ∈ (s.eval.pendingList.drop k).head?, s.now < p.horizon) := by
  induction n generalizing s with
  | zero => exact ⟨0, rfl, Nat.zero_le _, by simp, .inl rfl⟩
  | succ n ih =>
    cases hp : s.eval.pendingList with
    | nil => exact ⟨0, by simp [evaluateWhileDue, horizonDue, hp, evaluateTimes], by simp, by simp, .inr (by simp)⟩
    | cons p rest =>
      by_cases hdue : p.horizon ≤ s.now
      · obtain ⟨k, hk, hle, htake, hend⟩ := ih (evaluateHead s)
        have htail : (evaluateHead s).eval.pendingList = rest := by rw [evaluateHead_pendingList, hp]; rfl
        have hnow : (evaluateHead s).now = s.now := by simp
        rw [htail, hnow] at htake hend
        rw [htail] at hle
        refine ⟨k + 1, ?_, by simpa using hle, ?_, ?_⟩
        · simp [evaluateWhileDue, horizonDue, hp, hdue, evaluateTimes, hk]
        · simpa [hdue] using htake
        · simpa using hend
      · exact ⟨0, by simp [evaluateWhileDue, horizonDue, hp, hdue, evaluateTimes], by simp, by simp,
          .inr (by simpa using hdue)⟩

/-! ### The summary of a run (R154) -/

theorem logOf_storeSummary (h : RunInv q s) (ha : isActive q = true) (hl : s.engine.runLabel = some l) (c : Contents)
    (e : EndState) : logOf (storeSummary c e s).store l = logged (logOf s.store l) s.now c ∧
      endStateOf (storeSummary c e s).store l = e := by
  have hroom := h.hasRoom ha hl
  have happ := appendOk s.now c h.ok.store hroom
  rw [storeSummary_labelled hl]
  exact ⟨(logOf_summarised happ.store e l).trans (logs_appendTo s.now c h.ok.store hroom).same,
    endStateOf_summarised_self e happ.held⟩

end Sys2Proof.Proofs
end

section
/-! EXIT_BOUNDARY (R45, R56, R58, R59): what a closed visit hands to the evaluator, the entries evaluated with it, and
the next visit or the end of the run. -/

namespace Sys2Proof.Proofs

open Sys2Proof.Machine Sys2Proof.Safety Sys2Proof.Claims

variable {s t c : State} {v : Visit} {d : DecidedExit}

/-! ### What a closed visit hands on (R42, R101, R102, R107) -/

/-- A maximum taken along a list bounds what it is taken of, and is its start or one of them. -/
theorem foldl_max_spec {α : Type} (f : α → Nat) (as : List α) (a : Nat) :
    (∀ x ∈ as, f x ≤ as.foldl (fun m x => max m (f x)) a) ∧ a ≤ as.foldl (fun m x => max m (f x)) a ∧
      (as.foldl (fun m x => max m (f x)) a = a ∨ ∃ x ∈ as, as.foldl (fun m x => max m (f x)) a = f x) := by
  induction as generalizing a with
  | nil => simp
  | cons x as ih =>
    obtain ⟨hle, ha, hat⟩ := ih (max a (f x))
    rw [List.foldl_cons]
    refine ⟨fun y hy => ?_, (Nat.le_max_left _ _).trans ha, ?_⟩
    · rcases List.mem_cons.1 hy with rfl | hy
      · exact (Nat.le_max_right _ _).trans ha
      · exact hle y hy
    · rcases hat with hat | ⟨y, hy, hat⟩
      · rcases Nat.le_total a (f x) with hx | hx
        · exact .inr ⟨x, List.mem_cons_self, hat.trans (Nat.max_eq_right hx)⟩
        · exact .inl (hat.trans (Nat.max_eq_left hx))
      · exact .inr ⟨y, List.mem_cons_of_mem _ hy, hat⟩

theorem toList_eq_map_get {α : Type} {n : Nat} (v : Vector α n) : v.toList = (List.finRange n).map v.get := by
  refine List.ext_getElem (by simp) fun i h _ => ?_
  simp [Vector.get_eq_getElem]

/-- The judged input that a window which is not DON'T-CARE leaves. -/
def judgedOf (it : StateItems) (w : Working) (exit : Instant) (i : InputNo) : Judged where
  bi := i
  window := it.windows.get i
  firstOperate := w.firstOperate.get i
  chatter := match w.lockoutSeen.get i with
    | some since => decide (since < exit)
    | none => false

theorem judgedOf_chatter (it : StateItems) (w : Working) (exit : Instant) (i : InputNo) :
    (judgedOf it w exit i).chatter = true ↔ ∃ since, w.lockoutSeen.get i = some since ∧ since < exit := by
  unfold judgedOf
  cases w.lockoutSeen.get i <;> simp

/-- One judged input for each window that is not DON'T-CARE, in ascending order. -/
theorem judgedInputs_eq (it : StateItems) (w : Working) (exit : Instant) :
    judgedInputs it w exit =
      ((List.finRange 8).filter fun i => it.windows.get i ≠ .dontCare).map (judgedOf it w exit) := by
  rw [judgedInputs, ← List.filterMap_eq_map, List.filterMap_filter]
  refine List.filterMap_congr fun i _ => ?_
  cases hw : it.windows.get i <;> simp [judgedOf, hw] <;> rfl

theorem settleHorizon_spec (s : State) (exit : Instant) (js : List Judged) :
    exit ≤ settleHorizon s exit js ∧
      (∀ j ∈ js, exit + (s.plan.items.inputs.get j.bi).debounce * 100 ≤ settleHorizon s exit js) ∧
      (settleHorizon s exit js = exit ∨
        ∃ j ∈ js, settleHorizon s exit js = exit + (s.plan.items.inputs.get j.bi).debounce * 100) := by
  obtain ⟨hle, -, hat⟩ := foldl_max_spec (fun j : Judged => (s.inputSetup j.bi).debounce * 100) js 0
  refine ⟨Nat.le_add_right _ _, fun j hj => Nat.add_le_add_left (hle j hj) _, ?_⟩
  rcases hat with hat | ⟨j, hj, hat⟩
  · exact .inl (congrArg (exit + ·) hat)
  · exact .inr ⟨j, hj, congrArg (exit + ·) hat⟩

theorem clipTotal_eq (y : Synth) :
    clipTotal y = min 65535 ((List.finRange 6).map fun c => (y.channels.get c).clipCount).sum := by
  rw [clipTotal, toList_eq_map_get, List.map_map]
  rfl

/-- The evaluator after a close: the entry of the visit joins the tail of its list. -/
theorem closeVisit_eval (hv : s.engine.visit = some v) (exit : Instant) (cause : ExitCause) :
    (closeVisit exit cause s).eval = (closeWorking v exit cause s).eval := by
  simp [closeVisit, hv]

/-! ### Evaluations at a close (R103) -/

/-- The entries evaluated behind a close, where the store keeps what it holds. -/
theorem evaluatedWhileDue_of (hnow : c.now = s.now)
    (hpend : t.eval.pendingList = (evaluateDue c).eval.pendingList)
    (hlog : RunInvariant s → ∀ l, s.engine.runLabel = some l → RunInv s.engine.runState c ∧
      c.engine.runLabel = some l ∧ logOf (evaluateDue c).store l <+: logOf t.store l) :
    EvaluatedWhileDue c.eval.pendingList s t := by
  obtain ⟨k, hk, hle, htake, hend⟩ := evaluateWhileDue_eq c.eval.pendingList.length c
  refine ⟨k, ?_, hnow ▸ htake, fun p hp => ?_, fun l hinv hl p hp => ?_⟩
  · rw [hpend, evaluateDue, hk, evaluateTimes_pendingList]
  · rcases hend with rfl | hend
    · simp at hp
    · exact hnow ▸ hend p hp
  · obtain ⟨hc, hcl, hpre⟩ := hlog hinv l hl
    obtain ⟨j, hj⟩ := List.mem_iff_getElem?.1 hp
    have hat := loggedAll_getElem? (log := logOf c.store l) (time := c.now)
      (cs := (c.eval.pendingList.take k).map evaluated) (k := j) (c := evaluated p)
      (by rw [List.getElem?_map, hj]; rfl)
    rw [← logOf_evaluateTimes hc hcl hle, ← hk] at hat
    obtain ⟨h, hm, hlabel, -, hi, hrec⟩ := held_of_logOf (getElem?_of_prefix hpre hat)
    exact ⟨h, hm, hlabel, _, _, hi, hrec, hnow, rfl⟩

/-! ### The end of a run (R59) -/

theorem finishRun_runState (s : State) : (finishRun s).engine.runState = .finished := by
  unfold finishRun
  dsimp only
  split <;> simp

/-- The run after it passes to ENDING: at once FINISHED where nothing is pending. -/
theorem enterEnding_runState (r : EndReason) (s : State) :
    (enterEnding r s).engine.runState = if s.eval.pendingList = [] then .finished else .ending := by
  simp only [enterEnding, finishIfDone]
  split
  · next h => simp_all [finishRun_runState]
  · next h => simp_all

theorem enterEnding_quiesced (r : EndReason) (s : State) :
    (enterEnding r s).engine.endReason = r ∧ (enterEnding r s).engine.boLevels = s.plan.items.header.boRest ∧
      (enterEnding r s).breaker = Breaker.initial ∧ (enterEnding r s).synth.freqWord = 0 := by
  simp only [enterEnding, finishIfDone_frame]
  exact ⟨rfl, rfl, rfl, rfl⟩

theorem keeps_enterEnding (hs : StoreOk s.store) (r : EndReason) :
    Keeps s.engine.runLabel s.store (enterEnding r s).store := by
  have h := keeps_finishIfDone
    (s := quiesce (s.modEngine fun g => { g with runState := .ending, endReason := r, held := [] })) (by simpa using hs)
  simp only [quiesce_frame] at h
  exact h

/-! ### The queue at a close -/

theorem withdraw_tx_sublist (age : Nat) (s : State) : (withdraw age s).link.tx.Sublist s.link.tx := by
  unfold withdraw
  (repeat' split)
  · exact List.Sublist.refl _
  · exact List.filter_sublist
  · exact List.Sublist.refl _

theorem withdrawMark_tx_sublist (age : Nat) (l : Label) (m : MarkCode) (x : Instant) (s : State) :
    (withdrawMark age l m x s).link.tx.Sublist s.link.tx := by
  unfold withdrawMark
  split
  · simpa [logMark] using withdraw_tx_sublist age s
  · exact List.Sublist.refl _

theorem giveUpMark_tx_sublist (s : State) : (giveUpMark s).link.tx.Sublist s.link.tx := by
  unfold giveUpMark
  (repeat' split)
  · exact List.Sublist.refl _
  · exact withdrawMark_tx_sublist _ _ _ _ _
  · exact List.Sublist.refl _

theorem closeVisit_tx_sublist (exit : Instant) (cause : ExitCause) (s : State) :
    (closeVisit exit cause s).link.tx.Sublist s.link.tx := by
  unfold closeVisit
  split
  · exact List.Sublist.refl _
  · next v _ =>
    have hlink : (closeWorking v exit cause s).link = s.link := by simp
    exact hlink ▸ giveUpMark_tx_sublist (closeWorking v exit cause s)

theorem room_closeVisit (h : Room s) (exit : Instant) (cause : ExitCause) : Room (closeVisit exit cause s) := by
  obtain ⟨hmuted, hlen⟩ := h
  exact ⟨by simpa using hmuted, Nat.lt_of_le_of_lt (closeVisit_tx_sublist exit cause s).length_le hlen⟩

/-! ### The exit (R45, R56, R58) -/

/-- The visit closed at the decided boundary, and the entries due with it evaluated. -/
def afterClose (v : Visit) (d : DecidedExit) (s : State) : State :=
  evaluateDue (closeVisit d.boundary (causeOf s v d.decider) s)

theorem takeExit_state (hv : s.engine.visit = some v) (hd : s.engine.decided = some d) (hh : s.engine.held = [])
    {st : StateNo} (ht : d.target = some (.state st))
    (hlim : s.engine.visitCount < s.plan.items.header.visitLimit) :
    takeExit s = enterState st d.boundary false (afterClose v d s) := by
  have hlim' : s.engine.visitCount < s.header.visitLimit := hlim
  simp [takeExit, hv, hd, hh, ht, hlim', takeHeld, afterClose]

theorem takeExit_limit (hv : s.engine.visit = some v) (hd : s.engine.decided = some d) {st : StateNo}
    (ht : d.target = some (.state st)) (hlim : s.plan.items.header.visitLimit ≤ s.engine.visitCount) :
    takeExit s = enterEnding .visitLimit (afterClose v d s) := by
  have hlim' : ¬s.engine.visitCount < s.header.visitLimit := Nat.not_lt.2 hlim
  simp [takeExit, hv, hd, ht, hlim', afterClose]

theorem takeExit_endRun (hv : s.engine.visit = some v) (hd : s.engine.decided = some d)
    (ht : d.target = some .endRun) : takeExit s = enterEnding .endTarget (afterClose v d s) := by
  simp [takeExit, hv, hd, ht, afterClose]

theorem takeExit_stop (hv : s.engine.visit = some v) (hd : s.engine.decided = some d) (ht : d.target = none) :
    takeExit s = enterEnding .stop (afterClose v d s) := by
  simp [takeExit, hv, hd, ht, afterClose]

theorem takeExit_cases (hv : s.engine.visit = some v) (hd : s.engine.decided = some d) (hh : s.engine.held = []) :
    (∃ st, takeExit s = enterState st d.boundary false (afterClose v d s)) ∨
      ∃ r, takeExit s = enterEnding r (afterClose v d s) := by
  cases ht : d.target with
  | none => exact .inr ⟨_, takeExit_stop hv hd ht⟩
  | some target =>
    cases target with
    | endRun => exact .inr ⟨_, takeExit_endRun hv hd ht⟩
    | state st =>
      rcases Nat.lt_or_ge s.engine.visitCount s.plan.items.header.visitLimit with hlim | hlim
      · exact .inl ⟨st, takeExit_state hv hd hh ht hlim⟩
      · exact .inr ⟨_, takeExit_limit hv hd ht hlim⟩

theorem room_afterClose (h : Room s) (v : Visit) (d : DecidedExit) : Room (afterClose v d s) := by
  simpa only [afterClose, Room, evaluateDue_frame] using room_closeVisit h d.boundary (causeOf s v d.decider)

/-- The exit tells no outcome: what it places, if anything, finds room. -/
theorem takeExit_notices (hr : Room s) (hq : Quiet s) (hv : s.engine.visit = some v)
    (hd : s.engine.decided = some d) (hh : s.engine.held = []) : (takeExit s).link.notices = [] := by
  have hn : (afterClose v d s).link.notices = [] := by simpa [afterClose] using show s.link.notices = [] from hq
  rcases takeExit_cases hv hd hh with ⟨st, h⟩ | ⟨r, h⟩ <;> rw [h]
  · rw [enterState_room_notices (room_afterClose hr v d), hn]
  · simpa using hn

theorem takeExit_evaluates (hv : s.engine.visit = some v)
    (hd : s.engine.decided = some d) (hh : s.engine.held = []) :
    EvaluatedWhileDue (closeVisit d.boundary (causeOf s v d.decider) s).eval.pendingList s (takeExit s) := by
  refine evaluatedWhileDue_of (by simp) ?_ fun hinv l hl => ?_
  · rcases takeExit_cases hv hd hh with ⟨st, h⟩ | ⟨r, h⟩ <;> rw [h]
    · simp [afterClose]
    · simp [afterClose]
  · obtain ⟨-, hi⟩ := inv_of_runInvariant s hinv
    have hclose := (runInv_closeVisit hi d.boundary (causeOf s v d.decider)).1
    have hstore : StoreOk (afterClose v d s).store := (runInv_evaluateDue hclose).ok.store
    refine ⟨hclose, by simpa using hl, ?_⟩
    rcases takeExit_cases hv hd hh with ⟨st, h⟩ | ⟨r, h⟩ <;> rw [h]
    · simp only [enterState_frame]
      exact List.prefix_refl _
    · exact (keeps_enterEnding hstore r).log l

theorem causeIs_causeOf (s : State) (v : Visit) (d : Decider) :
    CauseIs (s.plan.items.states.get v.state).triggers d (causeOf s v d) := by
  refine ⟨?_, ?_, ?_⟩
  · rintro rfl; rfl
  · rintro rfl; rfl
  · rintro n rfl
    have hc : causeOf s v (.slot n) = match (s.plan.items.states.get v.state).triggers.get n with
      | .input .. => .input n
      | .mark .. => .mark n
      | .step _ => .step n
      | .timer .. | .empty => .timer n := rfl
    refine ⟨fun x target code h => ?_, fun bi dir target code h => ?_, fun code origin target h => ?_,
      fun target h => ?_⟩ <;> rw [hc, h]

/-! ### The levels at a close (R62) -/

/-- A level applied at the boundary of the close itself, with the level it took the place of. -/
def HeldAt (exit : Instant) (g : Engine) (o : OutputNo) (b : Bool) : Prop :=
  ∃ x, g.boHeld.get o = some (x, b) ∧ exit ≤ x

theorem levelsAtClose_held {exit : Instant} {g : Engine} {o : OutputNo} {b : Bool} (h : HeldAt exit g o b) :
    (levelsAtClose exit g).get o = b := by
  obtain ⟨x, hx, hle⟩ := h
  simp [levelsAtClose, hx, hle]

theorem levelsAtClose_not_held {exit : Instant} {g : Engine} {o : OutputNo} (h : ∀ b, ¬HeldAt exit g o b) :
    (levelsAtClose exit g).get o = g.boLevels.get o := by
  rw [levelsAtClose, tabulate_get]
  cases hx : g.boHeld.get o with
  | none => rfl
  | some p => exact if_neg fun hle => h p.2 ⟨p.1, hx, hle⟩

/-- The run has ended for the reason `r` out of `s`: no visit, the outputs at rest, the breaker reset. -/
def EndedBy (r : EndReason) (s t : State) : Prop :=
  (t.engine.runState = .ending ∨ t.engine.runState = .finished) ∧
    (t.engine.runState = .finished ↔ t.eval.pendingList = []) ∧ t.engine.endReason = r ∧ t.engine.visit = none ∧
    t.engine.decided = none ∧ t.engine.visitCount = s.engine.visitCount ∧
    t.engine.boLevels = s.plan.items.header.boRest ∧ t.breaker = Breaker.initial ∧ t.synth.freqWord = 0

theorem afterClose_visit (hv : s.engine.visit = some v) (d : DecidedExit) :
    (afterClose v d s).engine.visit = none ∧ (afterClose v d s).engine.decided = none := by
  simp [afterClose, closeVisit, hv]

theorem endedBy_enterEnding (hv : s.engine.visit = some v) (d : DecidedExit) (r : EndReason) :
    EndedBy r s (enterEnding r (afterClose v d s)) := by
  obtain ⟨hvisit, hdecided⟩ := afterClose_visit hv d
  obtain ⟨hreason, hlevels, hbreaker, hword⟩ := enterEnding_quiesced r (afterClose v d s)
  have hstate := enterEnding_runState r (afterClose v d s)
  refine ⟨?_, ?_, hreason, by simpa using hvisit, by simpa using hdecided, by simp [afterClose],
    by simpa [afterClose] using hlevels, hbreaker, hword⟩
  · rw [hstate]
    split <;> simp
  · rw [hstate]
    simp

theorem synthEnter_thetaRef (it : StateItems) (initial : Bool) (y : Synth) :
    (synthEnter it initial y).thetaRef = if initial then 0 else y.thetaRef := by
  simp only [synthEnter]

theorem synthEnter_sampleIndex (it : StateItems) (initial : Bool) (y : Synth) :
    (synthEnter it initial y).sampleIndex = 0 := by
  simp only [synthEnter]

/-- The visit entered at the boundary (R44, R45). -/
theorem takeExit_enters (hrun : s.engine.runState = .running) (hv : s.engine.visit = some v)
    (hd : s.engine.decided = some d) (hh : s.engine.held = []) {st : StateNo} (ht : d.target = some (.state st))
    (hlim : s.engine.visitCount < s.plan.items.header.visitLimit) :
    (takeExit s).engine.runState = .running ∧
      (takeExit s).engine.visit = some
        { state := st, number := s.engine.visitCount + 1, entry := d.boundary, uncoordinated := false } ∧
      (takeExit s).engine.visitCount = s.engine.visitCount + 1 ∧ (takeExit s).engine.decided = none ∧
      (takeExit s).breaker = s.breaker ∧
      (takeExit s).engine.backstop = some (d.boundary + (s.plan.items.states.get st).control.backstop * 1000) ∧
      (takeExit s).synth.thetaRef = s.synth.thetaRef ∧ (takeExit s).synth.sampleIndex = 0 := by
  have hrun' : (afterClose v d s).engine.runState = .running := by simpa [afterClose] using hrun
  have hcount : (afterClose v d s).engine.visitCount = s.engine.visitCount := by simp [afterClose]
  have hplan : (afterClose v d s).plan = s.plan := by simp [afterClose]
  have hsynth : (afterClose v d s).synth = s.synth := by simp [afterClose]
  have hbreaker : (afterClose v d s).breaker = s.breaker := by simp [afterClose]
  rw [takeExit_state hv hd hh ht hlim, ← hcount, ← hsynth, ← hplan, ← hbreaker, enterState_engine, enterState_synth,
    synthEnter_thetaRef, synthEnter_sampleIndex]
  exact ⟨hrun', rfl, rfl, rfl, by simp, rfl, by simp, rfl⟩

/-- The outputs of the visit entered start from the levels that stand (R62). -/
theorem takeExit_boLevels (hrun : s.engine.runState = .running) (hv : s.engine.visit = some v)
    (hd : s.engine.decided = some d) (hh : s.engine.held = []) {st : StateNo} (ht : d.target = some (.state st))
    (hlim : s.engine.visitCount < s.plan.items.header.visitLimit) (o : OutputNo) :
    (¬Owned s o → (s.plan.items.states.get st).control.boDelays.get o = 0 →
        (takeExit s).engine.boLevels.get o = (s.plan.items.states.get st).control.boLevels.get o) ∧
      (Owned s o ∨ (s.plan.items.states.get st).control.boDelays.get o ≠ 0 →
        (takeExit s).engine.boLevels.get o = (levelsAtClose d.boundary s.engine).get o) := by
  have hrun' : (afterClose v d s).engine.runState = .running := by simpa [afterClose] using hrun
  have hplan : (afterClose v d s).plan = s.plan := by simp [afterClose]
  have hlevels : (afterClose v d s).engine.boLevels = levelsAtClose d.boundary s.engine := by
    simp [afterClose, closeVisit_boLevels _ _ v s hv]
  have hown : Owned (afterClose v d s) o ↔ Owned s o := by rw [Owned, Owned, hplan]
  rw [takeExit_state hv hd hh ht hlim, enterState_engine]
  simp only [hplan, hlevels, tabulate_get]
  refine ⟨fun ho h0 => if_pos ?_, fun h => if_neg ?_⟩
  · simp [breakerOwns_eq_false hrun' (hown.not.2 ho), h0]
  · rcases h with ho | h0
    · simp [(breakerOwns_iff hrun' o).2 (hown.2 ho)]
    · simp [h0]

/-- Settles O37: the exit is a close, the evaluations due with it, and an entry or the end of the run; each places at
most one frame, so that no outcome is left to settle. -/
theorem exitBoundaryClosesTheVisit : Obligations.ExitBoundaryClosesTheVisit := by
  unfold Obligations.ExitBoundaryClosesTheVisit
  refine ⟨⟨fun s h => congrArg Host.Outcome.next (if_neg (by simp [h])), ?_⟩, ?_⟩
  · intro v d s hrun hv hd hb hlim hheld hq hroom ended cause held owned
    have hdue : exitDue s = true := by
      have hlim' : s.now < Config.clockLimit := hlim
      simp [exitDue, hrun, hv, hd, hb, hlim']
    have hexec : exec .exitBoundary s = .next (takeExit s) :=
      (congrArg Host.Outcome.next (if_pos hdue)).trans
        (congrArg _ (settle_of_quiet _ (takeExit_notices hroom hq hv hd hheld)))
    refine ⟨_, hexec, by simp, by simp, by simp, by simp, by simp, causeIs_causeOf s v d.decider,
      takeExit_evaluates hv hd hheld, fun st ht hvl o => ?_, fun st ht hvl => takeExit_enters hrun hv hd hheld ht hvl,
      fun st ht hvl => ?_, fun ht => ?_, fun ht => ?_⟩
    · obtain ⟨hfree, hkept⟩ := takeExit_boLevels hrun hv hd hheld ht hvl o
      exact ⟨hfree, fun h => ⟨fun b hb => (hkept h).trans (levelsAtClose_held hb),
        fun hn => (hkept h).trans (levelsAtClose_not_held hn)⟩⟩
    · rw [takeExit_limit hv hd ht hvl]
      exact endedBy_enterEnding hv d _
    · rw [takeExit_endRun hv hd ht]
      exact endedBy_enterEnding hv d _
    · rw [takeExit_stop hv hd ht]
      exact endedBy_enterEnding hv d _
  · intro v w exit cause s hv hw
    obtain ⟨hle, hall, hat⟩ := settleHorizon_spec s exit (judgedInputs (s.stateItems v.state) w exit)
    rw [closeVisit_eval hv, closeWorking, hw]
    refine ⟨_, rfl, rfl, by simp [closeVisit, hv], rfl, rfl, rfl, rfl, rfl, rfl, fun c => tabulate_get _ c,
      clipTotal_eq s.synth, ?_, fun j hj => ?_, hle, hall, hat⟩
    · simp only [Option.getD_some, judgedInputs_eq, List.map_map]
      exact List.map_id _
    · simp only [Option.getD_some, judgedInputs_eq] at hj
      obtain ⟨i, -, rfl⟩ := List.mem_map.1 hj
      exact ⟨rfl, rfl, judgedOf_chatter _ w exit i⟩

end Sys2Proof.Proofs
end

section
/-! A run brought to rest by an abort with no operate held (R60, R61, R112): its records in their order, and what the
blocks hold behind it. -/

namespace Sys2Proof.Proofs

open Sys2Proof.Machine Sys2Proof.Safety Sys2Proof.Claims

variable {s t : State} {l : Label} {q : RunState}

/-! ### The steps of an abort -/

/-- The run is called ABORTED, and no operate is held. -/
def aborting (r : EndReason) (s : State) : State :=
  s.modEngine fun g => { g with runState := .aborted, endReason := r, held := [] }

/-- The visit closed, the run's marks withdrawn, and the outputs at rest: the state before the flush of an abort. -/
def stopped (r : EndReason) (s : State) : State :=
  quiesce (withdrawRunMarks (closeVisit s.now .abort (aborting r s)))

theorem abortUnderWay_eq (hh : s.engine.held = []) (r : EndReason) :
    abortUnderWay r s = ampRunEnded (writeSummary .aborted (flushPending (stopped r s))) := by
  have hres : resolveHeld s = s.modEngine fun g => { g with held := [] } := by
    rw [resolveHeld, hh]
    rfl
  rw [abortUnderWay, hres]
  rfl

/-- What a stopped run keeps of the run, and what the stop leaves of the other blocks. -/
theorem stopped_frame (r : EndReason) (s : State) :
    (stopped r s).engine.runState = .aborted ∧ (stopped r s).engine.endReason = r ∧
      (stopped r s).engine.runLabel = s.engine.runLabel ∧ (stopped r s).engine.visitCount = s.engine.visitCount ∧
      (stopped r s).engine.latestVisit = s.engine.latestVisit ∧ (stopped r s).cond = s.cond ∧
      (stopped r s).amp = s.amp ∧ (stopped r s).link.straps = s.link.straps ∧
      (stopped r s).link.state = s.link.state ∧ (stopped r s).link.nextAge = s.link.nextAge ∧
      (stopped r s).link.notices = s.link.notices ∧ (stopped r s).coord = s.coord ∧
      (stopped r s).gather = s.gather ∧ (stopped r s).clock = s.clock ∧ (stopped r s).now = s.now := by
  simp [stopped, aborting]

theorem visitClear_aborting (h : VisitClear s) (r : EndReason) : VisitClear (aborting r s) := fun hn => by
  obtain ⟨hd, hm, hf, -, hw⟩ := h hn
  exact ⟨hd, hm, hf, rfl, hw⟩

/-- Nothing of a visit stands once the run is stopped. -/
theorem stopped_clear (h : VisitClear s) (r : EndReason) :
    (stopped r s).engine.visit = none ∧ VisitClear (stopped r s) := by
  obtain ⟨hclear, hnone⟩ := closeVisit_clear s.now .abort (visitClear_aborting h r)
  refine ⟨by simpa [stopped] using hnone, fun _ => ?_⟩
  simpa [stopped] using hclear hnone

theorem closeVisit_aborting_eval (r : EndReason) (s : State) (x : Instant) (c : ExitCause) :
    (closeVisit x c (aborting r s)).eval = (closeVisit x c s).eval := by
  cases hv : s.engine.visit with
  | none =>
    have hv' : (aborting r s).engine.visit = none := hv
    simp only [closeVisit, hv, hv']
    rfl
  | some v =>
    rw [closeVisit_eval hv, closeVisit_eval (s := aborting r s) hv]
    rfl

theorem stopped_eval (r : EndReason) (s : State) : (stopped r s).eval = (closeVisit s.now .abort s).eval := by
  simp [stopped, closeVisit_aborting_eval]

theorem runInv_stopped (h : Inv s) (r : EndReason) : RunInv s.engine.runState (stopped r s) := by
  have h0 : RunInv s.engine.runState (aborting r s) := (runInv_dropHeld h).same rfl
  exact runInv_quiesce (runInv_withdrawRunMarks (runInv_closeVisit h0 s.now .abort).1)

theorem keeps_stopped (hs : StoreOk s.store) (r : EndReason) : Keeps none s.store (stopped r s).store := by
  have h := keeps_closeVisit (s := aborting r s) hs s.now .abort
  have h' := h.trans (keeps_withdrawRunMarks h.ok)
  simpa [stopped, aborting] using h'

theorem withdrawRunMarks_tx_sublist (s : State) : (withdrawRunMarks s).link.tx.Sublist s.link.tx := by
  refine foldl_induct (fun t => t.link.tx.Sublist s.link.tx) _ (fun t e ht => ?_) _ s (List.Sublist.refl _)
  (repeat' split)
  · exact (withdrawMark_tx_sublist _ _ _ _ _).trans ht
  · exact ht
  · exact ht

theorem stopped_tx_sublist (r : EndReason) (s : State) : (stopped r s).link.tx.Sublist s.link.tx := by
  have h := (withdrawRunMarks_tx_sublist (closeVisit s.now .abort (aborting r s))).trans
    (closeVisit_tx_sublist s.now .abort (aborting r s))
  simpa [stopped, aborting] using h

/-! ### The records of an abort (R60, R112, R154) -/

theorem dropped_evaluateTimes (n : Nat) (s : State) :
    (evaluateTimes n s).store.reserve.map (·.dropped) = s.store.reserve.map (·.dropped) := by
  induction n generalizing s with
  | zero => rfl
  | succ n ih =>
    rw [evaluateTimes, ih]
    unfold evaluateHead storeEvaluation
    (repeat' split) <;> simp [appendTo_reserve, Function.comp_def]

theorem giveUpMark_nothing (h : s.engine.pendingMark = none) : giveUpMark s = s := by simp [giveUpMark, h]

theorem withdrawRunMarks_no_mark (h : ∀ e ∈ s.link.tx, ∀ m c x, e.frame.body ≠ .mark m c x) :
    withdrawRunMarks s = s := by
  refine foldl_eq_self (fun e he t => ?_) s
  split
  · next l c d hb => exact absurd hb (h e he l c d)
  · rfl

/-- With no mark of the run to be logged, the store stands until the flush. -/
theorem stopped_store_no_mark (hp : s.engine.pendingMark = none)
    (hm : ∀ e ∈ s.link.tx, ∀ m c x, e.frame.body ≠ .mark m c x) (r : EndReason) :
    (stopped r s).store = s.store := by
  have hclose : (closeVisit s.now .abort (aborting r s)).store = s.store ∧
      (closeVisit s.now .abort (aborting r s)).link = s.link := by
    unfold closeVisit
    split
    · exact ⟨rfl, rfl⟩
    · next v _ =>
      have hp' : (closeWorking v s.now .abort (aborting r s)).engine.pendingMark = none := by
        simpa [aborting] using hp
      rw [giveUpMark_nothing hp']
      exact ⟨by simp [aborting], by simp [aborting]⟩
  obtain ⟨hstore, hlink⟩ := hclose
  rw [stopped, withdrawRunMarks_no_mark (by rw [hlink]; exact hm)]
  simpa using hstore

/-- Behind what stood under the run's label stand the evaluations of its pending entries, and the summary last. -/
theorem log_abortUnderWay (h : Inv s) (hu : s.runUnderWay = true) (hh : s.engine.held = []) (r : EndReason)
    (hl : s.engine.runLabel = some l) :
    ∃ log d,
      logOf (abortUnderWay r s).store l =
        logged (loggedAll log s.now ((closeVisit s.now .abort s).eval.pendingList.map evaluated)) s.now
          (.runSummary r s.engine.visitCount d s.engine.latestVisit s.link.straps.cableDelay.val) ∧
      endStateOf (abortUnderWay r s).store l = .aborted ∧
      (s.engine.pendingMark = none → (∀ e ∈ s.link.tx, ∀ m c x, e.frame.body ≠ .mark m c x) →
        s.store.reserve.map (·.dropped) = some d) := by
  have ha : isActive s.engine.runState = true := by
    simp [State.runUnderWay] at hu
    rcases hu with hu | hu <;> simp [isActive, hu]
  have hstop := runInv_stopped h r
  have hflush := (runInv_flushPending hstop).1
  have hlabel : (flushPending (stopped r s)).engine.runLabel = some l := by simpa [stopped_frame] using hl
  obtain ⟨x, hx⟩ : ∃ x, (flushPending (stopped r s)).store.reserve = some x :=
    Option.isSome_iff_exists.1 (hflush.ok.reserve.trans ha)
  have hlog := logOf_evaluateTimes hstop (by simpa using hlabel) (Nat.le_refl _)
  rw [List.take_length, stopped_eval] at hlog
  obtain ⟨hsame, hend⟩ := logOf_storeSummary
    (s := (flushPending (stopped r s)).modEngine fun g => { g with lastState := g.latestVisit })
    (hflush.same rfl) ha hlabel
    (summaryOf ((flushPending (stopped r s)).modEngine fun g => { g with lastState := g.latestVisit })
      (flushPending (stopped r s)).engine.latestVisit) .aborted
  have hsum : summaryOf ((flushPending (stopped r s)).modEngine fun g => { g with lastState := g.latestVisit })
      (flushPending (stopped r s)).engine.latestVisit =
      .runSummary r s.engine.visitCount x.dropped s.engine.latestVisit s.link.straps.cableDelay.val := by
    simp [summaryOf, hx, stopped_frame]
  have hstore : (abortUnderWay r s).store = (writeSummary .aborted (flushPending (stopped r s))).store := by
    simp only [abortUnderWay_eq hh, ampRunEnded_frame]
  refine ⟨logOf (stopped r s).store l, x.dropped, ?_, hstore ▸ hend, fun hp hm => ?_⟩
  · rw [hstore]
    refine hsame.trans ?_
    rw [hsum]
    exact congrArg₂ (logged · · _) (by simpa [flushPending, stopped_frame, stopped_eval] using hlog)
      (by simp [stopped_frame])
  · rw [← stopped_store_no_mark hp hm r, ← dropped_evaluateTimes (stopped r s).eval.pendingList.length]
    exact congrArg (Option.map _) hx

/-! ### The run at rest -/

/-- The label whose end state an abort of the run sets. -/
def abortedLabel (s : State) : Option Label := if s.runUnderWay then s.engine.runLabel else none

/-- `t` is `s` with its run brought to rest, whatever state it was in; but for the run, its records and the frames given
up the blocks stand. -/
structure Rested (s t : State) : Prop where
  idle : Idle t
  clear : t.engine.decided = none ∧ t.engine.pendingMark = none ∧ t.engine.pendingFallback = none
  label : t.engine.runLabel = s.engine.runLabel
  aborted : s.runActive = true → t.engine.runState = .aborted ∧ t.engine.endReason = .stationReset
  unchanged : s.runActive = false → t = s
  phase : t.synth.thetaRef = s.synth.thetaRef
  codes : ∀ c, (t.synth.channels.get c).lastComputed = (s.synth.channels.get c).lastComputed ∧
    (t.synth.channels.get c).clipCount = (s.synth.channels.get c).clipCount ∧
    (t.synth.channels.get c).clipped = (s.synth.channels.get c).clipped
  amp : t.amp.state = s.amp.state ∧ t.amp.debouncers = s.amp.debouncers
  others : t.cond = s.cond ∧ t.gather = s.gather ∧ t.clock = s.clock
  straps : t.link.straps = s.link.straps ∧ t.link.state = s.link.state
  queue : t.link.tx.Sublist s.link.tx ∧ t.link.nextAge = s.link.nextAge ∧ t.link.notices = s.link.notices
  poller : ∀ a, t.coord.ownRoll = some a ∨ t.coord.ownStart = some a →
    s.coord.ownRoll = some a ∨ s.coord.ownStart = some a
  reserve : t.store.reserve = none
  keeps : StoreOk s.store → Keeps (abortedLabel s) s.store t.store

theorem synthDiscard_channel (y : Synth) (c : ChannelNo) :
    (synthDiscard y).channels.get c = { ChannelState.initial with
      lastComputed := (y.channels.get c).lastComputed
      lastEmitted := (y.channels.get c).lastEmitted
      clipCount := (y.channels.get c).clipCount
      clipped := (y.channels.get c).clipped } := tabulate_get _ c

theorem stopped_synth (r : EndReason) (s : State) : (stopped r s).synth = synthDiscard s.synth := by
  have h : (withdrawRunMarks (closeVisit s.now .abort (aborting r s))).synth = s.synth := by simp [aborting]
  rw [stopped, quiesce, ← h]
  rfl

theorem storeSummary_reserve (c : Contents) (e : EndState) (s : State) : (storeSummary c e s).store.reserve = none := by
  unfold storeSummary
  split <;> rfl

theorem rested_abortUnderWay (hu : s.runUnderWay = true) (hclear : VisitClear s) (hh : s.engine.held = []) :
    Rested s (abortUnderWay .stationReset s) := by
  have ha : s.runActive = true := by
    simp only [State.runUnderWay, State.runActive, Bool.or_eq_true] at hu ⊢
    tauto
  obtain ⟨hvisit, hnothing⟩ := stopped_clear hclear .stationReset
  obtain ⟨hdecided, hmark, hfallback, -, hworking⟩ := hnothing hvisit
  have hpending : (flushPending (stopped .stationReset s)).eval.pendingList = [] := by
    rw [flushPending, evaluateTimes_pendingList, List.drop_length]
  rw [abortUnderWay_eq hh]
  exact {
    idle := ⟨by simp [stopped_frame, State.runActive], by simpa using hvisit, by simpa using hworking,
      by simpa using hpending⟩
    clear := ⟨by simpa using hdecided, by simpa using hmark, by simpa using hfallback⟩
    label := by simp [stopped_frame]
    aborted := fun _ => ⟨by simp [stopped_frame], by simp [stopped_frame]⟩
    unchanged := fun hn => by simp [hn] at ha
    phase := by simp [stopped_synth, synthDiscard]
    codes := fun c => by simp [stopped_synth, synthDiscard_channel]
    amp := ⟨by simp [stopped_frame], by simp [stopped_frame]⟩
    others := ⟨by simp [stopped_frame], by simp [stopped_frame], by simp [stopped_frame]⟩
    straps := ⟨by simp [stopped_frame], by simp [stopped_frame]⟩
    queue := ⟨by simpa using stopped_tx_sublist .stationReset s, by simp [stopped_frame], by simp [stopped_frame]⟩
    poller := fun a hc => by simpa [stopped_frame] using hc
    reserve := by simp [writeSummary, storeSummary_reserve]
    keeps := fun hs => by
      have hstop := keeps_stopped hs .stationReset
      have hflush := keeps_evaluateTimes hstop.ok (stopped .stationReset s).eval.pendingList.length
      have hsum := keeps_writeSummary (s := flushPending (stopped .stationReset s)) hflush.ok .aborted
      have hlabel : (flushPending (stopped .stationReset s)).engine.runLabel = abortedLabel s := by
        simp [stopped_frame, abortedLabel, hu]
      simp only [ampRunEnded_frame]
      exact ((hstop.trans hflush).weaken).trans (hlabel ▸ hsum) }

theorem giveUp_tx_sublist (age : Option Nat) (s : State) : (giveUp age s).link.tx.Sublist s.link.tx := by
  unfold giveUp
  split
  · exact withdraw_tx_sublist _ _
  · exact List.Sublist.refl _

theorem pollerOff_tx_sublist (s : State) : (pollerOff s).link.tx.Sublist s.link.tx :=
  (giveUp_tx_sublist _ _).trans (giveUp_tx_sublist _ _)

theorem pollerOff_coord (s : State) : (pollerOff s).coord.ownRoll = none ∧ (pollerOff s).coord.ownStart = none ∧
    (pollerOff s).coord.poller = .off := ⟨rfl, rfl, rfl⟩

/-- An ARMED run's bookkeeping ends, and the poller passes to OFF. -/
theorem rested_abortArmed (harmed : s.engine.runState = .armed) (hshape : RunShape s) :
    Rested s (abortArmed .stationReset s) := by
  obtain ⟨hvisit, hnone, hpending⟩ := hshape
  have hv : s.engine.visit = none := by
    by_contra hv
    have := hvisit (Option.isSome_iff_ne_none.2 hv)
    simp [harmed] at this
  obtain ⟨hdecided, hmark, hfallback, -, hworking⟩ := hnone hv
  have hu : s.runUnderWay = false := by simp [State.runUnderWay, harmed]
  have hp : s.eval.pendingList = [] := by
    by_contra hne
    simp [hpending hne] at hu
  have ha : s.runActive = true := by simp [State.runActive, harmed]
  have he : abortArmed .stationReset s =
      pollerOff ((s.modEngine fun g => { g with runState := .aborted, endReason := .stationReset }).modStore
        fun st => { st with reserve := none }) := rfl
  rw [he]
  exact {
    idle := ⟨by simp [State.runActive], by simpa using hv, by simpa using hworking, by simpa using hp⟩
    clear := ⟨by simpa using hdecided, by simpa using hmark, by simpa using hfallback⟩
    label := by simp
    aborted := fun _ => ⟨by simp, by simp⟩
    unchanged := fun hn => by simp [hn] at ha
    phase := by simp
    codes := fun c => by simp
    amp := ⟨by simp, by simp⟩
    others := ⟨by simp, by simp, by simp⟩
    straps := ⟨by simp, by simp⟩
    queue := ⟨pollerOff_tx_sublist _, by simp, by simp⟩
    poller := fun a hc => by simp [pollerOff_coord] at hc
    reserve := by simp
    keeps := fun hs => by simpa using (Keeps.refl hs).reserve none }

/-- The first step of a station reset on the run. -/
theorem rested_abortRun (hshape : RunShape s) (hlabelled : RunLabelled s) (hh : s.engine.held = []) :
    Rested s (abortRun .stationReset s) := by
  unfold abortRun
  split
  · next hu => exact rested_abortUnderWay hu hshape.2.1 hh
  · next hu =>
    split
    · next harmed => exact rested_abortArmed (by simpa using harmed) hshape
    · next harmed =>
      have ha : s.runActive = false := by
        simp only [State.runUnderWay, State.runActive, Bool.or_eq_true, not_or, Bool.not_eq_true] at hu harmed ⊢
        simp [hu, harmed]
      have hidle := idle_of_runShape hshape ha
      obtain ⟨hdecided, hmark, hfallback, -, -⟩ := hshape.2.1 hidle.visit
      have hreserve : s.store.reserve = none := by
        have := hlabelled.2
        rw [ha] at this
        simpa using this
      exact {
        idle := hidle
        clear := ⟨hdecided, hmark, hfallback⟩
        label := rfl
        aborted := fun hn => by simp [hn] at ha
        unchanged := fun _ => rfl
        phase := rfl
        codes := fun c => ⟨rfl, rfl, rfl⟩
        amp := ⟨rfl, rfl⟩
        others := ⟨rfl, rfl, rfl⟩
        straps := ⟨rfl, rfl⟩
        queue := ⟨List.Sublist.refl _, rfl, rfl⟩
        poller := fun _ hc => hc
        reserve := hreserve
        keeps := Keeps.refl }

/-! ### The records that a station reset of a run leaves (R60, R112, R157) -/

theorem abortRecords_of (h : Inv s) (hu : s.runUnderWay = true) (hh : s.engine.held = [])
    (hk : Keeps none (abortUnderWay .stationReset s).store t.store) : AbortRecords .stationReset s t := by
  intro l hl
  obtain ⟨log, d, hlog, hend, hdropped⟩ := log_abortUnderWay h hu hh .stationReset hl
  generalize (closeVisit s.now .abort s).eval.pendingList = ps at hlog ⊢
  have hlen := loggedAll_length log s.now (ps.map evaluated)
  rw [List.length_map] at hlen
  generalize hbody : loggedAll log s.now (ps.map evaluated) = body at hlog hlen
  have hlast : (logOf t.store l)[body.length]? = some (some
      { index := body.length, time := s.now
        contents := .runSummary .stationReset s.engine.visitCount d s.engine.latestVisit
          s.link.straps.cableDelay.val }) :=
    getElem?_of_prefix (hk.log l) (by rw [hlog, logged, List.getElem?_concat_length])
  obtain ⟨g, hg, hlabel, -, hlt, hrec⟩ := held_of_logOf hlast
  have hsub : body.length + 1 - 1 - ps.length = log.length := by omega
  refine ⟨g, hg, hlabel, ?_, body.length + 1, d, by omega, hlt, fun hne => absurd rfl hne, fun k p hp => ?_,
    ⟨_, hrec, rfl, rfl, rfl⟩, hdropped⟩
  · rw [← endStateOf_of_mem hk.ok hg, hlabel, hk.endState l nofun, hend]
  · have hat := loggedAll_getElem? (log := log) (time := s.now) (cs := ps.map evaluated) (c := evaluated p) (k := k)
      (by rw [List.getElem?_map, hp]; rfl)
    rw [hbody] at hat
    have hat' := getElem?_of_prefix (hk.log l)
      (by rw [hlog]; exact getElem?_of_prefix (List.prefix_append _ _) hat)
    obtain ⟨g', hg', hlabel', -, -, hrec'⟩ := held_of_logOf hat'
    obtain rfl := eq_of_label_eq hk.ok.2.1 hg' hg (hlabel'.trans hlabel.symm)
    rw [hsub]
    exact ⟨_, hrec', rfl, rfl, rfl⟩

end Sys2Proof.Proofs
end

section
/-! RESET_STATION (R187): the queue that the reset leaves, the blocks it takes to rest, and the replies it places. -/

namespace Sys2Proof.Proofs

open Sys2Proof.Machine Sys2Proof.Safety Sys2Proof.Claims

variable {s t u v w : State} {r : Request} {since : Nat}

/-! ### Steps of the reset -/

/-- The plan, the outputs, the synthesizer, the supervisor, the breaker and the gather (R187, steps 2 to 5). -/
def resetBlocks (s : State) : State := gatherReset (resetBreaker (ampReset (synthReset (clearedPlan s))))

/-- The transmit queue, the requests, the latch and the poller (R187, steps 6 to 8). -/
def resetQueues (age : Option Nat) (s : State) : State :=
  pollerOff (clearLatch ((resetTx age s).modLink fun l => { l with requests := [] }))

/-- The ACCEPT of the reset, and the GATHER-DONE of the gather it ended. -/
def resetReplies (r : Request) (q : Option (Label × Option (StationNo × Byte))) (s : State) : State :=
  match q with
  | some (l, p) => sendGatherDone l p (serviceOver (acceptNow r s))
  | none => serviceOver (acceptNow r s)

theorem stationReset_eq (r : Request) (s : State) :
    stationReset r s = resetReplies r (resetRequester (settle (resetRun s).1))
      (resetQueues (resetRun s).2 (resetBlocks (settle (resetRun s).1))) := by
  have hdone (v : State) :
      resetRequester (resetBreaker (ampReset (synthReset (outputsToRest (emptyPlan v))))) = resetRequester v := by
    simp [resetRequester]
  unfold stationReset
  generalize resetRun s = p
  obtain ⟨u, age⟩ := p
  dsimp only
  generalize settle u = v
  rw [hdone]
  rfl

theorem exec_resetStation (h : InHand r since s) (hk : r.kind = 33) (hp : r.payload = []) :
    exec .resetStation s = .next (settle (stationReset r s)) := by
  refine (congrArg Host.Outcome.next (serve_inHand h (by simp [hk]) _)).trans ?_
  rw [judgeReset, judged_ok (by simp [hp]) rfl]

theorem replyTo_reset (hk : r.kind = 33) : replyTo r 16 [byte r.kind] = replyFrame r .statusUnit 16 [33] := by
  rw [replyTo, replyFrame, hk]
  rfl

/-! ### The queue that the reset leaves -/

theorem insertByPriority_perm (e : TxEntry) (q : List TxEntry) : (insertByPriority e q).Perm (e :: q) := by
  obtain ⟨a, b, hq, hq', -, -⟩ := inserted_insertByPriority e q
  rw [hq', hq]
  exact List.perm_middle

theorem resetTx_link (age : Option Nat) (s : State) :
    (resetTx age s).link = { s.link with tx := s.link.tx.filter (keptByReset age) } :=
  foldl_keep (fun t => t.link) _ (fun t e => by simp) _ _

theorem storeEvent_reserve_none (h : s.store.reserve = none) (l : Label) (c : Contents) :
    (storeEvent l c s).store.reserve = none := by
  unfold storeEvent
  simp only [h]
  split
  · simpa [appendTo_reserve] using h
  · exact h

theorem logRemoved_no_mark {e : TxEntry} (h : ∀ l c d, e.frame.body ≠ .mark l c d) (s : State) :
    logRemoved e s = s := by
  unfold logRemoved
  split
  · next l c d hb => exact absurd hb (h l c d)
  all_goals rfl

/-- The late records of the MARKs removed are added, and nothing else of the store changes. -/
theorem resetTx_store (age : Option Nat) (s : State) :
    (StoreOk s.store → Keeps none s.store (resetTx age s).store) ∧
      (s.store.reserve = none → (resetTx age s).store.reserve = none) ∧
      ((∀ e ∈ s.link.tx, ∀ l c d, e.frame.body ≠ .mark l c d) → (resetTx age s).store = s.store) := by
  refine ⟨fun hs => keeps_foldl (s := s.modLink _) (fun t e ht => ?_) _ hs, fun hn => ?_, fun hm => ?_⟩
  · unfold logRemoved
    split
    · exact keeps_storeEvent ht _ _
    all_goals exact Keeps.refl ht
  · refine foldl_induct (fun t => t.store.reserve = none) _ (fun t e ht => ?_) _ (s.modLink _) hn
    unfold logRemoved
    split
    · exact storeEvent_reserve_none ht _ _
    all_goals exact ht
  · rw [resetTx, foldl_eq_self fun e he => logRemoved_no_mark (hm e (List.mem_of_mem_filter he))]
    rfl

theorem mem_withdraw {e : TxEntry} {age : Nat} (he : e ∈ s.link.tx) (hne : e.age ≠ age) :
    e ∈ (withdraw age s).link.tx := by
  unfold withdraw
  (repeat' split)
  · exact he
  · exact List.mem_filter.2 ⟨he, by simp [hne]⟩
  · exact he

theorem mem_giveUp {e : TxEntry} {age : Option Nat} (he : e ∈ s.link.tx) (hne : age ≠ some e.age) :
    e ∈ (giveUp age s).link.tx := by
  cases age with
  | none => exact he
  | some a => exact mem_withdraw he fun h => hne (congrArg some h.symm)

theorem mem_pollerOff {e : TxEntry} (he : e ∈ s.link.tx) (hr : s.coord.ownRoll ≠ some e.age)
    (hs : s.coord.ownStart ≠ some e.age) : e ∈ (pollerOff s).link.tx :=
  mem_giveUp (mem_giveUp he hr) hs

/-- The entry of an ABORT placed by the reset. -/
def abortEntry (l : Label) (s : State) : TxEntry := newEntry (groupFrame (.abort l .stationReset) .engine) s

/-- Step 1: the run at rest, and its ABORT placed where one was active. -/
theorem resetRun_cases (hlabelled : RunLabelled s) (hu : Rested s (abortRun .stationReset s)) (hroom : Room s) :
    (s.runActive = false ∧ resetRun s = (s, none)) ∨
      ∃ l, s.runActive = true ∧ s.engine.runLabel = some l ∧
        resetRun s = ((abortRun .stationReset s).modLink fun k =>
          { k with nextAge := k.nextAge + 1, tx := insertByPriority (abortEntry l s) k.tx }, some s.link.nextAge) := by
  obtain ⟨hsub, hage, -⟩ := hu.queue
  obtain ⟨-, hstate⟩ := hu.straps
  unfold resetRun
  cases ha : s.runActive with
  | false => exact .inl ⟨rfl, rfl⟩
  | true =>
    obtain ⟨l, hl, -⟩ := hlabelled.1 ha
    have hroom' : Room (abortRun .stationReset s) :=
      ⟨hstate ▸ hroom.1, Nat.lt_of_le_of_lt hsub.length_le hroom.2⟩
    have hentry : newEntry (groupFrame (.abort l .stationReset) .engine) (abortRun .stationReset s) =
        abortEntry l s := by simp only [abortEntry, newEntry, hage]
    refine .inr ⟨l, rfl, hl, ?_⟩
    simp only [if_true, queueAbort, hu.label, hl, hage]
    rw [← hentry]
    exact congrArg (·, _) (place_room hroom' _)

/-- What step 6 leaves of the queue of `v`: what is on the wire, and the ABORT of step 1. -/
structure KeptQueue (s v : State) (age : Option Nat) : Prop where
  few : (v.link.tx.filter (keptByReset age)).length ≤ 2
  kept : ∀ e ∈ v.link.tx.filter (keptByReset age), (e.onWire = true ∧ e ∈ s.link.tx) ∨
    ∃ l, s.engine.runLabel = some l ∧ e.frame = groupFrame (.abort l .stationReset) .engine
  abort : ∀ l, s.runActive = true → s.engine.runLabel = some l →
    ∃ e ∈ v.link.tx.filter (keptByReset age), e.frame = groupFrame (.abort l .stationReset) .engine ∧
      e.age = s.link.nextAge

theorem keptQueue_idle (hq : QueuesOk s) (ha : s.runActive = false) : KeptQueue s s none := by
  obtain ⟨-, -, -, -, hwire, -⟩ := hq
  have hkeep : keptByReset none = fun e => e.onWire := funext fun e => by simp [keptByReset]
  refine ⟨?_, fun e he => ?_, fun l hn => by simp [hn] at ha⟩
  · rw [hkeep, ← List.countP_eq_length_filter]
    exact hwire.trans (by decide)
  · rw [hkeep] at he
    obtain ⟨hm, hw⟩ := List.mem_filter.1 he
    exact .inl ⟨hw, hm⟩

/-- No entry but the ABORT has its age, so besides it only an entry on the wire is kept. -/
theorem keptQueue_abort (hq : QueuesOk s) {l : Label} (hl : s.engine.runLabel = some l) {q : List TxEntry}
    (hsub : q.Sublist s.link.tx) (hv : v.link.tx = insertByPriority (abortEntry l s) q) :
    KeptQueue s v (some s.link.nextAge) := by
  obtain ⟨-, -, -, hages, hwire, -⟩ := hq
  have hperm := insertByPriority_perm (abortEntry l s) q
  have hkeep : ∀ e ∈ q, keptByReset (some s.link.nextAge) e = e.onWire := fun e he => by
    have hlt := (hages e (hsub.subset he)).1
    simp [keptByReset, Nat.ne_of_gt hlt]
  rw [← hv] at hperm
  refine ⟨?_, fun e he => ?_, fun l' _ hl' => ⟨abortEntry l s, ?_, ?_, rfl⟩⟩
  · rw [← List.countP_eq_length_filter, hperm.countP_eq, List.countP_cons,
      List.countP_congr (q := fun e => e.onWire) fun e he => by rw [hkeep e he]]
    have hle := (hsub.countP_le (p := fun e => e.onWire)).trans hwire
    split <;> omega
  · obtain ⟨hm, hk⟩ := List.mem_filter.1 he
    rcases List.mem_cons.1 (hperm.mem_iff.1 hm) with rfl | hm
    · exact .inr ⟨l, hl, rfl⟩
    · exact .inl ⟨(hkeep e hm).symm.trans hk, hsub.subset hm⟩
  · exact List.mem_filter.2 ⟨hperm.mem_iff.2 List.mem_cons_self, by simp [keptByReset, abortEntry, newEntry]⟩
  · obtain rfl : l = l' := Option.some.inj (hl.symm.trans hl')
    rfl

/-- What the first step of the reset hands to the next: the run at rest, no outcome to be told, and the queue. -/
theorem resetRun_spec (hq : QueuesOk s) (hquiet : Quiet s) (hlabelled : RunLabelled s) (hroom : Room s)
    (hu : Rested s (abortRun .stationReset s)) :
    ∃ v age, resetRun s = (v, age) ∧ settle v = v ∧ v = { abortRun .stationReset s with link := v.link } ∧
      v.link.straps = s.link.straps ∧ v.link.state = s.link.state ∧ v.link.notices = [] ∧
      (s.runActive = false → v = s) ∧ KeptQueue s v age := by
  obtain ⟨hstraps, hstate⟩ := hu.straps
  obtain ⟨hsub, -, hnotices⟩ := hu.queue
  have hquiet' : (abortRun .stationReset s).link.notices = [] := hnotices.trans hquiet
  rcases resetRun_cases hlabelled hu hroom with ⟨ha, he⟩ | ⟨l, ha, hl, he⟩
  · have hs : s = abortRun .stationReset s := (hu.unchanged ha).symm
    exact ⟨s, none, he, settle_of_quiet _ hquiet, hs ▸ rfl, rfl, rfl, hquiet, fun _ => rfl, keptQueue_idle hq ha⟩
  · refine ⟨_, _, he, settle_of_quiet _ hquiet', rfl, hstraps, hstate, hquiet', fun hn => ?_,
      keptQueue_abort hq hl hsub rfl⟩
    simp [hn] at ha

/-! ### The blocks at rest -/

theorem ampReset_amp_congr (h : t.amp = s.amp) : (ampReset t).amp = (ampReset s).amp := by
  unfold ampReset ampStandby ampFault
  rw [h]
  (repeat' split) <;> simp_all [State.modAmp, State.latch, State.modStatus]

/-- While nothing of a visit stands, the emptied plan reaches the engine's outputs and the inputs alone. -/
theorem clearedPlan_blocks (hi : Idle v) :
    (clearedPlan v).engine =
        { v.engine with boLevels := Vector.replicate 4 false, boSchedule := Vector.replicate 4 none } ∧
      (clearedPlan v).eval = v.eval ∧ (clearedPlan v).synth = v.synth ∧ (clearedPlan v).amp = v.amp ∧
      (clearedPlan v).gather = v.gather ∧ (clearedPlan v).link = v.link ∧ (clearedPlan v).coord = v.coord ∧
      (clearedPlan v).store = v.store := by
  obtain ⟨-, he⟩ := clearedPlan_idle hi
  generalize clearedPlan v = w at he
  refine ⟨?_, ?_, ?_, ?_, ?_, ?_, ?_, ?_⟩ <;> rw [he]

theorem synthReset_synth_congr (h : t.synth = s.synth) : (synthReset t).synth = (synthReset s).synth := by
  simp only [synthReset, State.modSynth_synth, h]

theorem resetBlocks_spec (hi : Idle v) :
    (resetBlocks v).engine =
        { v.engine with boLevels := Vector.replicate 4 false, boSchedule := Vector.replicate 4 none } ∧
      (resetBlocks v).plan = PlanMemory.emptied ∧ (resetBlocks v).eval = v.eval ∧
      (resetBlocks v).breaker = Breaker.initial ∧ (resetBlocks v).synth = (synthReset v).synth ∧
      (resetBlocks v).amp = (ampReset v).amp ∧
      (resetBlocks v).store = v.store ∧ (resetBlocks v).clock = v.clock := by
  obtain ⟨hengine, heval, hsynth, hamp, -, -, -, hstore⟩ := clearedPlan_blocks hi
  refine ⟨?_, ?_, ?_, ?_, ?_, ?_, ?_, ?_⟩
  · simpa [resetBlocks] using hengine
  · simpa [resetBlocks] using clearedPlan_plan v
  · simpa [resetBlocks] using heval
  · simp [resetBlocks, resetBreaker]
  · simpa [resetBlocks] using synthReset_synth_congr hsynth
  · simpa [resetBlocks] using ampReset_amp_congr (t := synthReset (clearedPlan v)) (by simpa using hamp)
  · simpa [resetBlocks] using hstore
  · simp [resetBlocks, clearedPlan]

theorem resetBlocks_inputs (hi : Idle v) :
    (resetBlocks v).cond.count = v.cond.count ∧
      ∀ i, UnderSetup InputSetup.initial v.cond.count (v.input i) ((resetBlocks v).input i) := by
  obtain ⟨hunder, -⟩ := clearedPlan_idle hi
  obtain ⟨-, hcount⟩ := clearedPlan_service hi.active
  have hcond : (resetBlocks v).cond = (clearedPlan v).cond := by simp [resetBlocks]
  refine ⟨(congrArg Conditioner.count hcond).trans hcount, fun i => ?_⟩
  have hinput : (resetBlocks v).input i = (clearedPlan v).input i :=
    congrArg (fun c : Conditioner => c.inputs.get i) hcond
  rw [hinput]
  exact hunder i

theorem resetBlocks_link (hi : Idle v) :
    (resetBlocks v).link.tx = v.link.tx ∧ (resetBlocks v).link.straps = v.link.straps ∧
      (resetBlocks v).link.state = v.link.state ∧ (resetBlocks v).link.notices = v.link.notices ∧
      (resetBlocks v).coord.ownRoll = v.coord.ownRoll ∧ (resetBlocks v).coord.ownStart = v.coord.ownStart := by
  obtain ⟨-, -, -, -, -, hlink, hcoord, -⟩ := clearedPlan_blocks hi
  simp [resetBlocks, hlink, hcoord]

/-! ### The queues and the replies -/

theorem resetQueues_frame (age : Option Nat) (s : State) :
    (resetQueues age s).engine = s.engine ∧ (resetQueues age s).plan = s.plan ∧ (resetQueues age s).eval = s.eval ∧
      (resetQueues age s).breaker = s.breaker ∧ (resetQueues age s).synth = s.synth ∧
      (resetQueues age s).amp = s.amp ∧ (resetQueues age s).gather = s.gather ∧ (resetQueues age s).cond = s.cond ∧
      (resetQueues age s).store = (resetTx age s).store ∧ (resetQueues age s).clock = s.clock ∧
      (resetQueues age s).link.straps = s.link.straps ∧ (resetQueues age s).link.state = s.link.state ∧
      (resetQueues age s).link.notices = s.link.notices ∧
      (resetQueues age s).coord.gatherRoll = s.coord.gatherRoll := by
  simp [resetQueues]

theorem resetQueues_emptied (age : Option Nat) (s : State) :
    (resetQueues age s).link.requests = [] ∧ (resetQueues age s).coord.poller = .off ∧
      (resetQueues age s).coord.ownRoll = none ∧ (resetQueues age s).coord.ownStart = none ∧
      (resetQueues age s).status.latch = FaultLatch.cleared ∧ (resetQueues age s).status.served = 0 ∧
      (resetQueues age s).status.refused = 0 ∧ (resetQueues age s).status.turnedAway = 0 ∧
      (resetQueues age s).status.dropped = 0 := by
  simp [resetQueues, pollerOff_coord, clearLatch]

theorem resetQueues_tx_sublist (age : Option Nat) (s : State) :
    (resetQueues age s).link.tx.Sublist (s.link.tx.filter (keptByReset age)) := by
  have h := pollerOff_tx_sublist (clearLatch ((resetTx age s).modLink fun l => { l with requests := [] }))
  simpa [resetQueues, resetTx_link] using h

theorem mem_resetQueues {e : TxEntry} {age : Option Nat} (he : e ∈ s.link.tx.filter (keptByReset age))
    (hr : s.coord.ownRoll ≠ some e.age) (hs : s.coord.ownStart ≠ some e.age) :
    e ∈ (resetQueues age s).link.tx :=
  mem_pollerOff (by simpa [resetTx_link] using he) (by simpa using hr) (by simpa using hs)

/-- With no request waiting the service becomes IDLE, and nothing else changes. -/
theorem serviceOver_no_request (h : s.link.requests = []) :
    serviceOver s = { s with status := { s.status with service := .idle } } := by
  rw [serviceOver, takeNext_idle, serviceNext, h]

/-- The frames that a reset places: the ACCEPT and, where a requester waits for one, the GATHER-DONE. -/
def IsResetReply (r : Request) (e : TxEntry) : Prop :=
  e.frame = replyTo r 16 [byte r.kind] ∨
    ∃ st tag p, e.frame = { dest := some st, tag := tag, body := .reply 24 p, owner := .gatherEngine }

/-- Replies `tx` have joined the queue of `w`, the service is IDLE, and nothing else changes from `w` to `t`. -/
structure Replied (r : Request) (w t : State) (tx : List TxEntry) : Prop where
  state : ∃ age, t = { w with
    link := { w.link with tx := tx, nextAge := age }, status := { w.status with service := .idle } }
  mem : ∀ e ∈ tx, e ∈ w.link.tx ∨ IsResetReply r e
  accept : ∃ e ∈ tx, e.frame = replyTo r 16 [byte r.kind]
  old : ∀ e ∈ w.link.tx, e ∈ tx

theorem Replied.frame {tx : List TxEntry} (h : Replied r w t tx) :
    t.engine = w.engine ∧ t.plan = w.plan ∧ t.eval = w.eval ∧ t.breaker = w.breaker ∧ t.synth = w.synth ∧
      t.amp = w.amp ∧ t.gather = w.gather ∧ t.cond = w.cond ∧ t.store = w.store ∧ t.clock = w.clock ∧
      t.coord = w.coord ∧ t.link.straps = w.link.straps ∧ t.link.state = w.link.state ∧
      t.link.requests = w.link.requests ∧ t.link.tx = tx ∧ t.status = { w.status with service := .idle } := by
  obtain ⟨age, hstate⟩ := h.state
  rw [hstate]
  exact ⟨rfl, rfl, rfl, rfl, rfl, rfl, rfl, rfl, rfl, rfl, rfl, rfl, rfl, rfl, rfl, rfl⟩

theorem Replied.notices {tx : List TxEntry} (h : Replied r w t tx) : t.link.notices = w.link.notices := by
  obtain ⟨age, hstate⟩ := h.state
  rw [hstate]

theorem mem_insertByPriority (x e : TxEntry) (q : List TxEntry) : x ∈ insertByPriority e q ↔ x = e ∨ x ∈ q :=
  (insertByPriority_perm e q).mem_iff.trans List.mem_cons

theorem replied_acceptNow (hroom : Room w) (hreq : w.link.requests = []) (r : Request) :
    Replied r w (serviceOver (acceptNow r w))
      (insertByPriority (newEntry (replyTo r 16 [byte r.kind]) w) w.link.tx) := by
  have hacc : acceptNow r w = w.modLink fun l => { l with
      nextAge := l.nextAge + 1, tx := insertByPriority (newEntry (replyTo r 16 [byte r.kind]) w) l.tx } :=
    place_room hroom _
  refine ⟨⟨w.link.nextAge + 1, ?_⟩, fun e he => ?_, ⟨_, (mem_insertByPriority _ _ _).2 (.inl rfl), rfl⟩,
    fun e he => (mem_insertByPriority _ _ _).2 (.inr he)⟩
  · rw [serviceOver_no_request (by simpa using hreq), hacc]
    rfl
  · rcases (mem_insertByPriority _ _ _).1 he with rfl | he
    · exact .inr (.inl rfl)
    · exact .inl he

theorem Replied.place {tx : List TxEntry} (h : Replied r w t tx) (hroom : Room t) {f : TxFrame}
    (hf : ∀ e : TxEntry, e.frame = f → IsResetReply r e) :
    Replied r w (place f false t) (insertByPriority (newEntry f t) tx) := by
  obtain ⟨⟨age, hstate⟩, hmem, ⟨a, ha, hframe⟩, hold⟩ := h
  refine ⟨⟨age + 1, (place_room hroom f).trans ?_⟩, fun e he => ?_,
    ⟨a, (mem_insertByPriority _ _ _).2 (.inr ha), hframe⟩,
    fun e he => (mem_insertByPriority _ _ _).2 (.inr (hold e he))⟩
  · generalize newEntry f t = x
    rw [hstate]
    rfl
  · rcases (mem_insertByPriority _ _ _).1 he with rfl | he
    · exact .inr (hf _ rfl)
    · exact hmem e he

/-- The replies of a reset find room behind what it leaves of the queue. -/
theorem replied_resetReplies (hmuted : w.link.state ≠ .muted) (hlen : w.link.tx.length ≤ 2)
    (hreq : w.link.requests = []) (r : Request) (q : Option (Label × Option (StationNo × Byte))) :
    ∃ tx, Replied r w (resetReplies r q w) tx := by
  have hacc := replied_acceptNow (w := w) ⟨hmuted, by omega⟩ hreq r
  have hlen' := (insertByPriority_perm (newEntry (replyTo r 16 [byte r.kind]) w) w.link.tx).length_eq
  have hroom : Room (serviceOver (acceptNow r w)) := by
    obtain ⟨age, hstate⟩ := hacc.state
    rw [hstate]
    exact ⟨hmuted, by simp only [hlen', List.length_cons]; omega⟩
  rcases q with _ | ⟨l, _ | ⟨st, tag⟩⟩
  · exact ⟨_, hacc⟩
  · exact ⟨_, hacc⟩
  · exact ⟨_, hacc.place hroom fun e he => .inr ⟨st, tag, _, he⟩⟩

end Sys2Proof.Proofs
end

section
/-! RESET_STATION (R187), settled: a MUTED station, whose replies are dropped and counted, and one with room. -/

namespace Sys2Proof.Proofs

open Sys2Proof.Machine Sys2Proof.Safety Sys2Proof.Claims

variable {s t u v w : State} {r : Request} {since : Nat}

/-! ### The supervisor and the gather (R97, R180) -/

theorem debouncersClear_iff (a : Amplifier) : debouncersClear a = true ↔ ∀ i, a.debouncers.get i = .clear := by
  simp [debouncersClear, toList_eq_map_get]

theorem not_inOverload_of_clear {a : Amplifier} (h : ∀ i, a.debouncers.get i = .clear) : inOverload a = false := by
  simp [inOverload, toList_eq_map_get, h]

theorem ampStandby_state (h : inOverload s.amp = false) : (ampStandby s).amp.state = .standby := by
  simp [ampStandby, h]

/-- The supervisor's table at a station reset (R97). -/
theorem ampReset_state (s : State) :
    (s.amp.state = .absent → (ampReset s).amp.state = .absent) ∧
      ((s.amp.state = .standby ∨ s.amp.state = .warming ∨ s.amp.state = .ready) → inOverload s.amp = false →
        (ampReset s).amp.state = .standby) ∧
      (s.amp.state = .faulted → (∀ i, s.amp.debouncers.get i = .clear) → (ampReset s).amp.state = .standby) ∧
      (s.amp.state = .faulted → (∃ i, s.amp.debouncers.get i ≠ .clear) → (ampReset s).amp.state = .faulted) := by
  refine ⟨fun h => ?_, fun h ho => ?_, fun h hc => ?_, fun h hc => ?_⟩
  · simp [ampReset, h]
  · rcases h with h | h | h <;> simp [ampReset, h, ampStandby_state ho]
  · simp [ampReset, h, (debouncersClear_iff _).2 hc, ampStandby_state (not_inOverload_of_clear hc)]
  · have hn : ¬debouncersClear s.amp = true := fun hd =>
      hc.elim fun i hi => hi ((debouncersClear_iff _).1 hd i)
    simp [ampReset, h, hn]

/-- The same table from a state with the same supervisor state and debouncers. -/
theorem ampReset_rested (h : u.amp.state = s.amp.state ∧ u.amp.debouncers = s.amp.debouncers) :
    (s.amp.state = .absent → (ampReset u).amp.state = .absent) ∧
      ((s.amp.state = .standby ∨ s.amp.state = .warming ∨ s.amp.state = .ready) → inOverload s.amp = false →
        (ampReset u).amp.state = .standby) ∧
      (s.amp.state = .faulted → (∀ i, s.amp.debouncers.get i = .clear) → (ampReset u).amp.state = .standby) ∧
      (s.amp.state = .faulted → (∃ i, s.amp.debouncers.get i ≠ .clear) → (ampReset u).amp.state = .faulted) ∧
      (ampReset u).amp.debouncers = s.amp.debouncers := by
  obtain ⟨hstate, hdebouncers⟩ := h
  have hoverload : inOverload u.amp = inOverload s.amp := by rw [inOverload, inOverload, hdebouncers]
  obtain ⟨habsent, hstandby, hclear, hheld⟩ := ampReset_state u
  rw [← hoverload, ← hstate, ← hdebouncers]
  exact ⟨habsent, hstandby, hclear, hheld, by simp⟩

/-- A gather in progress ends FAILED-RESET; otherwise the engine forgets its instant alone (R180). -/
theorem gatherReset_spec (h : s.gather.cursor.isSome = gatherBusy s) :
    (gatherReset s).gather.cursor = none ∧ (gatherReset s).gather.onFinish = none ∧
      ((s.gather.state = .rolling ∨ s.gather.state = .sweeping) → (gatherReset s).gather.state = .done ∧
        (gatherReset s).gather.report.outcome = .failedReset ∧ (gatherReset s).coord.gatherRoll = none) ∧
      ((s.gather.state = .idle ∨ s.gather.state = .done) →
        (gatherReset s).gather = { s.gather with onFinish := none }) ∧
      (gatherReset s).gather.report.entries = s.gather.report.entries ∧
      (gatherReset s).gather.report.label = s.gather.report.label := by
  cases hc : s.gather.cursor with
  | none =>
    have he : gatherReset s = s.modGather fun g => { g with onFinish := none } := by simp [gatherReset, hc]
    have hbusy : ¬(s.gather.state = .rolling ∨ s.gather.state = .sweeping) := by
      have hidle : gatherBusy s = false := by rw [← h, hc]; rfl
      simpa [gatherBusy] using hidle
    rw [he]
    exact ⟨hc, rfl, fun hb => absurd hb hbusy, fun _ => rfl, rfl, rfl⟩
  | some c =>
    have hbusy : s.gather.state = .rolling ∨ s.gather.state = .sweeping := by
      have hb : gatherBusy s = true := by rw [← h, hc]; rfl
      simpa [gatherBusy] using hb
    unfold gatherReset
    simp only [State.modGather_gather, hc]
    refine ⟨by simp, by simp, fun _ => ⟨by simp, by simp, by simp⟩, fun hidle => ?_, by simp, by simp⟩
    rcases hbusy with hb | hb <;> simp [hb] at hidle

theorem resetBlocks_gather (hi : Idle v) (hg : v.gather = s.gather) (h : GatherShape s) :
    (resetBlocks v).gather.cursor = none ∧ (resetBlocks v).gather.onFinish = none ∧
      ((s.gather.state = .rolling ∨ s.gather.state = .sweeping) → (resetBlocks v).gather.state = .done ∧
        (resetBlocks v).gather.report.outcome = .failedReset ∧ (resetBlocks v).coord.gatherRoll = none) ∧
      ((s.gather.state = .idle ∨ s.gather.state = .done) →
        (resetBlocks v).gather = { s.gather with onFinish := none }) ∧
      (resetBlocks v).gather.report.entries = s.gather.report.entries ∧
      (resetBlocks v).gather.report.label = s.gather.report.label ∧
      (resetBlocks v).gather.tagCounter = s.gather.tagCounter := by
  obtain ⟨-, -, -, -, hgather, -⟩ := clearedPlan_blocks hi
  have hx : (resetBreaker (ampReset (synthReset (clearedPlan v)))).gather = s.gather := by simpa [hgather] using hg
  have hspec := gatherReset_spec (s := resetBreaker (ampReset (synthReset (clearedPlan v))))
    (by rw [gatherBusy, hx]; exact h)
  rw [hx] at hspec
  obtain ⟨hcursor, hfinish, hbusy, hidle, hentries, hlabel⟩ := hspec
  rw [resetBlocks]
  generalize resetBreaker (ampReset (synthReset (clearedPlan v))) = x at *
  exact ⟨hcursor, hfinish, hbusy, hidle, hentries, hlabel, by simp [hx]⟩

theorem synthReset_spec (y : State) : (synthReset y).synth.thetaRef = y.synth.thetaRef ∧
    (synthReset y).synth.freqWord = 0 ∧ (synthReset y).synth.sampleIndex = 0 ∧
    ∀ c, (synthReset y).synth.channels.get c = { ChannelState.initial with
      lastComputed := (y.synth.channels.get c).lastComputed
      clipCount := (y.synth.channels.get c).clipCount
      clipped := (y.synth.channels.get c).clipped } := by
  refine ⟨rfl, rfl, rfl, fun c => ?_⟩
  simp only [synthReset, State.modSynth_synth, tabulate_get, synthDiscard_channel]
  rfl

/-! ### A station with room -/

theorem Idle.of_link (h : Idle u) (hv : v = { u with link := v.link }) : Idle v := by
  obtain ⟨hactive, hvisit, hworking, hpending⟩ := h
  have hengine : v.engine = u.engine := by rw [hv]
  have heval : v.eval = u.eval := by rw [hv]
  exact ⟨by rw [State.runActive, hengine]; exact hactive, by rw [hengine]; exact hvisit,
    by rw [heval]; exact hworking, by rw [heval]; exact hpending⟩

/-- The reset in its parts: the run at rest, the blocks at rest, the queue left, and the replies placed. -/
theorem exec_resetStation_room (h : InHand r since s) (hk : r.kind = 33) (hp : r.payload = []) (hq : QueuesOk s)
    (hlabelled : RunLabelled s) (hroom : Room s) (hu : Rested s (abortRun .stationReset s)) :
    ∃ t v age tx, exec .resetStation s = .next t ∧ Replied r (resetQueues age (resetBlocks v)) t tx ∧
      v = { abortRun .stationReset s with link := v.link } ∧ v.link.straps = s.link.straps ∧
      v.link.state = s.link.state ∧ (s.runActive = false → v = s) ∧ KeptQueue s v age := by
  obtain ⟨v, age, hrun, hsettle, hv, hstraps, hstate, hnotices, hsame, hkept⟩ :=
    resetRun_spec hq h.2 hlabelled hroom hu
  have hi : Idle v := hu.idle.of_link hv
  obtain ⟨htx, -, hstate', hnotices', -, -⟩ := resetBlocks_link hi
  obtain ⟨-, -, -, -, -, -, -, -, -, -, -, hstate'', hnotices'', -⟩ := resetQueues_frame age (resetBlocks v)
  obtain ⟨hrequests, -⟩ := resetQueues_emptied age (resetBlocks v)
  have hfew := (resetQueues_tx_sublist age (resetBlocks v)).length_le
  rw [htx] at hfew
  obtain ⟨tx, hreplied⟩ := replied_resetReplies (w := resetQueues age (resetBlocks v))
    (by rw [hstate'', hstate', hstate]; exact hroom.1) (hfew.trans hkept.few) hrequests r (resetRequester v)
  have hnone := hreplied.notices.trans (hnotices''.trans (hnotices'.trans hnotices))
  refine ⟨_, v, age, tx, ?_, hreplied, hv, hstraps, hstate, hsame, hkept⟩
  rw [exec_resetStation h hk hp, stationReset_eq, hrun, hsettle, settle_of_quiet _ hnone]

/-- What a reset leaves, block by block: `u` is the state with its run at rest. -/
structure ResetFrom (r : Request) (s u t : State) : Prop where
  engine : t.engine = { u.engine with boLevels := Vector.replicate 4 false, boSchedule := Vector.replicate 4 none }
  plan : t.plan = PlanMemory.emptied
  eval : t.eval = u.eval
  breaker : t.breaker = Breaker.initial
  synth : t.synth = (synthReset u).synth
  amp : t.amp = (ampReset u).amp
  gather : t.gather.cursor = none ∧ t.gather.onFinish = none ∧
    ((s.gather.state = .rolling ∨ s.gather.state = .sweeping) → t.gather.state = .done ∧
      t.gather.report.outcome = .failedReset ∧ t.coord.gatherRoll = none) ∧
    ((s.gather.state = .idle ∨ s.gather.state = .done) → t.gather = { s.gather with onFinish := none }) ∧
    t.gather.report.entries = s.gather.report.entries ∧ t.gather.report.label = s.gather.report.label ∧
    t.gather.tagCounter = s.gather.tagCounter
  latch : t.status.latch = FaultLatch.cleared ∧ t.status.served = 0 ∧ t.status.refused = 0 ∧
    t.status.turnedAway = 0 ∧ t.status.dropped = 0 ∧ t.status.service = .idle
  poller : t.coord.poller = .off ∧ t.coord.ownRoll = none ∧ t.coord.ownStart = none
  inputs : t.cond.count = s.cond.count ∧
    ∀ i, UnderSetup InputSetup.initial s.cond.count (s.input i) (t.input i)
  reserve : t.store.reserve = none
  late : StoreOk u.store → Keeps none u.store t.store
  noLate : s.runActive = false → (∀ e ∈ s.link.tx, ∀ l c d, e.frame.body ≠ .mark l c d) → t.store = u.store
  clock : t.clock = s.clock
  link : t.link.straps = s.link.straps ∧ t.link.state = s.link.state ∧ t.link.requests = []
  kept : ∀ e ∈ t.link.tx, (e.onWire = true ∧ e ∈ s.link.tx) ∨ IsResetReply r e ∨
    ∃ l, s.engine.runLabel = some l ∧ e.frame = groupFrame (.abort l .stationReset) .engine
  accept : ∃ e ∈ t.link.tx, e.frame = replyTo r 16 [byte r.kind]
  abort : ∀ l, s.runActive = true → s.engine.runLabel = some l →
    ∃ e ∈ t.link.tx, e.frame = groupFrame (.abort l .stationReset) .engine

theorem resetFrom (hq : QueuesOk s) (hg : GatherShape s) (hu : Rested s u) (hv : v = { u with link := v.link })
    (hstraps : v.link.straps = s.link.straps) (hstate : v.link.state = s.link.state)
    (hsame : s.runActive = false → v = s) {age : Option Nat} (hkept : KeptQueue s v age) {tx : List TxEntry}
    (h : Replied r (resetQueues age (resetBlocks v)) t tx) : ResetFrom r s u t := by
  have hi : Idle v := hu.idle.of_link hv
  have hsynth : (synthReset v).synth = (synthReset u).synth := synthReset_synth_congr (by rw [hv])
  have hamp : (ampReset v).amp = (ampReset u).amp := ampReset_amp_congr (by rw [hv])
  have heval : v.eval = u.eval := by rw [hv]
  have hengine : v.engine = u.engine := by rw [hv]
  obtain ⟨ucond, ugather, uclock⟩ := hu.others
  have hcond : v.cond = s.cond := by rw [← ucond, hv]
  have hgather : v.gather = s.gather := by rw [← ugather, hv]
  have hclock : v.clock = s.clock := by rw [← uclock, hv]
  have hstore : v.store = u.store := by rw [hv]
  have hcoord : v.coord = u.coord := by rw [hv]
  obtain ⟨fengine, fplan, feval, fbreaker, fsynth, famp, fgather, fcond, fstore, fclock, fcoord, fstraps, fstate,
    frequests, ftx, fstatus⟩ := h.frame
  obtain ⟨qengine, qplan, qeval, qbreaker, qsynth, qamp, qgather, qcond, qstore, qclock, qstraps, qstate, -, qroll⟩ :=
    resetQueues_frame age (resetBlocks v)
  obtain ⟨erequests, epoller, eroll, estart, elatch, eserved, erefused, eturned, edropped⟩ :=
    resetQueues_emptied age (resetBlocks v)
  obtain ⟨bengine, bplan, beval, bbreaker, bsynth, bamp, bstore, bclock⟩ := resetBlocks_spec hi
  obtain ⟨btx, bstraps, bstate, -, broll, bstart⟩ := resetBlocks_link hi
  obtain ⟨bcount, binputs⟩ := resetBlocks_inputs hi
  have bgather := resetBlocks_gather hi hgather hg
  obtain ⟨tkeeps, treserve, tnone⟩ := resetTx_store age (resetBlocks v)
  have qsub := resetQueues_tx_sublist age (resetBlocks v)
  have qmem (e : TxEntry) := mem_resetQueues (s := resetBlocks v) (age := age) (e := e)
  generalize resetTx age (resetBlocks v) = x at *
  generalize resetQueues age (resetBlocks v) = w at *
  generalize resetBlocks v = b at *
  have hinput : ∀ i, t.input i = b.input i := fun i => by
    rw [State.input, State.input, fcond, qcond]
  have hfresh : ∀ e : TxEntry, e.age = s.link.nextAge →
      b.coord.ownRoll ≠ some e.age ∧ b.coord.ownStart ≠ some e.age := fun e he => by
    rw [broll, bstart, hcoord, he]
    obtain ⟨-, -, -, -, -, -, -, hown⟩ := hq
    exact ⟨fun hr => Nat.lt_irrefl _ (hown _ ((hu.poller _ (.inl hr)).imp id .inl)),
      fun hr => Nat.lt_irrefl _ (hown _ ((hu.poller _ (.inr hr)).imp id .inl))⟩
  exact {
    engine := by rw [fengine, qengine, bengine, hengine]
    plan := by rw [fplan, qplan, bplan]
    eval := by rw [feval, qeval, beval, heval]
    breaker := by rw [fbreaker, qbreaker, bbreaker]
    synth := by rw [fsynth, qsynth, bsynth, hsynth]
    amp := by rw [famp, qamp, bamp, hamp]
    gather := by rw [fgather, qgather, fcoord, qroll]; exact bgather
    latch := by rw [fstatus]; exact ⟨elatch, eserved, erefused, eturned, edropped, rfl⟩
    poller := by rw [fcoord]; exact ⟨epoller, eroll, estart⟩
    inputs := by
      rw [fcond, qcond, bcount, hcond]
      refine ⟨rfl, fun i => ?_⟩
      have hi' := binputs i
      rw [State.input, hcond] at hi'
      rw [hinput]
      exact hi'
    reserve := by rw [fstore, qstore]; exact treserve (by rw [bstore, hstore]; exact hu.reserve)
    late := fun hs => by
      have hk := tkeeps (by rw [bstore, hstore]; exact hs)
      rwa [bstore, hstore, ← qstore, ← fstore] at hk
    noLate := fun ha hm => by
      rw [fstore, qstore, tnone (by rw [btx, hsame ha]; exact hm), bstore, hstore]
    clock := by rw [fclock, qclock, bclock, hclock]
    link := by
      rw [fstraps, fstate, frequests, qstraps, qstate, bstraps, bstate]
      exact ⟨hstraps, hstate, erequests⟩
    kept := fun e he => by
      rcases h.mem e (ftx ▸ he) with hw | hr
      · have hf := qsub.subset hw
        rw [btx] at hf
        exact (hkept.kept e hf).imp id .inr
      · exact .inr (.inl hr)
    accept := by rw [ftx]; exact h.accept
    abort := fun l ha hl => by
      obtain ⟨e, he, hframe, hage⟩ := hkept.abort l ha hl
      obtain ⟨hr, hs⟩ := hfresh e hage
      rw [← btx] at he
      exact ⟨e, by rw [ftx]; exact h.old e (qmem e he hr hs), hframe⟩ }

/-- What the statement asks of a station with room, from its parts. -/
theorem stationReset_room (h : InHand r since s) (hk : r.kind = 33) (hp : r.payload = []) (hq : QueuesOk s)
    (hshape : RunShape s) (hlabelled : RunLabelled s) (hheld : s.engine.held = []) (hroom : Room s)
    (hg : GatherShape s) :
    ∃ u t, exec .resetStation s = .next t ∧ Rested s u ∧ u = abortRun .stationReset s ∧ ResetFrom r s u t := by
  have hu := rested_abortRun hshape hlabelled hheld
  obtain ⟨t, v, age, tx, hexec, hreplied, hv, hstraps, hstate, hsame, hkept⟩ :=
    exec_resetStation_room h hk hp hq hlabelled hroom hu
  exact ⟨_, t, hexec, hu, rfl, resetFrom hq hg hu hv hstraps hstate hsame hkept hreplied⟩

end Sys2Proof.Proofs
end

section
/-! RESET_STATION at a MUTED station (R187): nothing finds a place, and what is dropped is counted after the clear. The
two parts settle the statement. -/

namespace Sys2Proof.Proofs

open Sys2Proof.Machine Sys2Proof.Safety Sys2Proof.Claims

variable {s t u v w : State} {r : Request} {since : Nat}

/-! ### The emptied plan queues no frame (R55) -/

/-- The plan names no mark for an operate, the run is not RUNNING, and the link is `k`. -/
structure Unmarked (k : Link) (s : State) : Prop where
  items : s.plan.items = PlanItems.initial
  notRunning : s.engine.runState ≠ .running
  link : s.link = k

theorem firstOperateMark_unmarked (h : s.plan.items = PlanItems.initial) (i : InputNo) : firstOperateMark i s = s := by
  have hnone (st : StateNo) : (s.stateItems st).marks.get i = none := by
    rw [State.stateItems, h]
    exact (congrArg (fun x : StateItems => x.marks.get i) (get_replicate _ st)).trans (get_replicate none i)
  unfold firstOperateMark
  split
  · rw [hnone]
  · rfl

theorem deliverChange_unmarked (h : s.plan.items = PlanItems.initial) (i : InputNo) (t : Nat) (b : Bool) :
    (deliverChange i t b s).link = s.link := by
  unfold deliverChange takeOperate
  dsimp only
  (repeat' split) <;> simp [firstOperateMark_unmarked, h]

variable {k : Link}

theorem Unmarked.acceptChange (h : Unmarked k s) (i : InputNo) (t : Nat) (b : Bool) :
    Unmarked k (acceptChange i t b s) := by
  refine ⟨by simpa using h.items, by rw [acceptChange_runState h.notRunning]; exact h.notRunning, ?_⟩
  unfold Machine.acceptChange
  dsimp only
  have hrun := h.notRunning
  rw [engineChange_not_running]
  · split <;> simp [deliverChange_unmarked, h.items, h.link]
  · split <;> simp [hrun]

theorem Unmarked.settleCandidate (h : Unmarked k s) (i : InputNo) : Unmarked k (settleCandidate i s) := by
  unfold Machine.settleCandidate
  split
  · exact h.acceptChange i _ _
  · exact h

theorem Unmarked.settleRelease (h : Unmarked k s) (i : InputNo) : Unmarked k (settleRelease i s) := by
  unfold Machine.settleRelease releaseInput
  dsimp only
  have h1 : ∀ c : Contents, Unmarked k
      (releaseSeen i (storeRunEvent c (s.modInput i fun x => { x with lockout := none, history := [] }))) :=
    fun c => ⟨by simpa using h.items, by simpa using h.notRunning, by simpa using h.link⟩
  split
  · split
    · exact h1 _
    · exact (h1 _).acceptChange i _ _
  · exact h

theorem Unmarked.applySetup (h : Unmarked k s) (i : InputNo) : Unmarked k (applySetup i s) := by
  have h0 : Unmarked k (s.modInput i (moveRelease (s.inputSetup i))) := ⟨h.items, h.notRunning, h.link⟩
  exact (h0.settleCandidate i).settleRelease i

theorem emptyPlan_link (h : s.engine.runState ≠ .running) : (emptyPlan s).link = s.link := by
  have h0 : Unmarked s.link (s.modPlan fun _ => .emptied) := ⟨rfl, h, rfl⟩
  exact (foldl_induct (Unmarked s.link) (fun s i => Machine.applySetup i s) (fun t i ht => ht.applySetup i) _ _ h0).link

/-! ### Replies at a MUTED station (R130) -/

theorem place_muted (h : w.link.state = .muted) (f : TxFrame) (b : Bool) :
    place f b w = dropEntry (newEntry f w) (w.modLink fun l => { l with nextAge := l.nextAge + 1 }) := by
  simp [place, h]
  rfl

/-- The outcomes of replies: no owner acts on them. -/
def OfReplies (s : State) : Prop := ∀ x ∈ s.link.notices, ∃ kind p, x.entry.frame.body = .reply kind p

theorem settle_ofReplies (h : OfReplies s) : settle s = s.modLink fun l => { l with notices := [] } := by
  have key : ∀ (n : Nat) (s : State), OfReplies s → settleFor n s = s.modLink fun l => { l with notices := [] } := by
    intro n
    induction n with
    | zero => exact fun _ _ => rfl
    | succ n ih =>
      intro s h
      unfold settleFor
      split
      · next hn => rw [State.modLink, ← hn]
      · next x rest hn =>
        obtain ⟨kind, p, hb⟩ := h x (by simp [hn])
        have hreact : ∀ u, react x.entry x.outcome u = u := fun u => by simp only [react, hb]
        rw [hreact, ih _ fun y hy => h y (by rw [hn]; exact List.mem_cons_of_mem _ hy)]
        rfl
  exact key _ s h

/-- A MUTED station with an empty queue that has dropped `n` replies since its counts were cleared. -/
structure Dropping (n : Nat) (s : State) : Prop where
  muted : s.link.state = .muted
  tx : s.link.tx = []
  requests : s.link.requests = []
  dropped : s.status.dropped = n
  replies : OfReplies s

theorem Dropping.place {n : Nat} (h : Dropping n s) (hn : n < 65535) {f : TxFrame} {kind : Nat} {p : List Byte}
    (hf : f.body = .reply kind p) :
    Dropping (n + 1) (place f false s) ∧ (place f false s).status.latch.txDropped = true := by
  rw [place_muted h.muted]
  refine ⟨⟨h.muted, h.tx, h.requests, ?_, fun x hx => ?_⟩, rfl⟩
  · have hd : min Config.countLimit (s.status.dropped + 1) = n + 1 := by
      rw [h.dropped]
      exact Nat.min_eq_right hn
    exact hd
  · rcases List.mem_append.1 hx with hx | hx
    · exact h.replies x hx
    · obtain rfl := List.mem_singleton.1 hx
      exact ⟨kind, p, hf⟩

theorem Dropping.serviceOver {n : Nat} (h : Dropping n s) : Dropping n (serviceOver s) := by
  rw [serviceOver_no_request h.requests]
  exact ⟨h.muted, h.tx, h.requests, h.dropped, h.replies⟩

/-- No owner acts on the replies dropped. -/
theorem Dropping.settle {n : Nat} (h : Dropping n s) :
    Dropping n (settle s) ∧ (settle s).status = s.status ∧ (settle s).plan = s.plan ∧
      (settle s).runActive = s.runActive := by
  rw [settle_ofReplies h.replies]
  exact ⟨⟨h.muted, h.tx, h.requests, h.dropped, fun x hx => by cases hx⟩, rfl, rfl, rfl⟩

/-- How many replies the reset drops: its ACCEPT, and a GATHER-DONE where a requester waits for one. -/
theorem dropping_resetReplies (h : Dropping 0 w) (r : Request) (q : Option (Label × Option (StationNo × Byte))) :
    Dropping (if ∃ l p, q = some (l, some p) then 2 else 1) (resetReplies r q w) ∧
      (resetReplies r q w).status.latch.txDropped = true := by
  obtain ⟨hacc, hlatch⟩ := h.place (by decide) (f := replyTo r 16 [byte r.kind]) rfl
  have hover : Dropping 1 (serviceOver (acceptNow r w)) := hacc.serviceOver
  have hlatch' : (serviceOver (acceptNow r w)).status.latch.txDropped = true := by simpa [acceptNow] using hlatch
  rcases q with _ | ⟨l, _ | ⟨st, tag⟩⟩
  · rw [if_neg (by simp)]
    exact ⟨hover, hlatch'⟩
  · rw [if_neg (by simp)]
    exact ⟨hover, hlatch'⟩
  · rw [if_pos ⟨l, _, rfl⟩]
    exact hover.place (by decide) rfl

theorem resetReplies_frame (r : Request) (q : Option (Label × Option (StationNo × Byte))) (s : State) :
    (resetReplies r q s).plan = s.plan ∧ (resetReplies r q s).engine = s.engine := by
  unfold resetReplies
  split <;> simp

/-- The reset of a MUTED station that has no run. -/
theorem stationReset_muted (h : InHand r since s) (hk : r.kind = 33) (hp : r.payload = []) (hq : QueuesOk s)
    (hm : s.link.state = .muted) (ha : s.runActive = false) :
    ∃ t, exec .resetStation s = .next t ∧
      Dropping (if ∃ l p, resetRequester s = some (l, some p) then 2 else 1) t ∧ t.status.latch.txDropped = true ∧
      t.plan = PlanMemory.emptied ∧ t.runActive = false := by
  obtain ⟨-, -, -, -, -, htx, -⟩ := hq
  have hrun : resetRun s = (s, none) := by simp [resetRun, ha]
  have hlink : (clearedPlan s).link = s.link := by
    simpa [clearedPlan] using emptyPlan_link (not_running_of_not_active ha)
  have hdrop : Dropping 0 (resetQueues none (resetBlocks s)) := by
    obtain ⟨-, -, -, -, -, -, -, -, -, -, -, hstate, hnotices, -⟩ := resetQueues_frame none (resetBlocks s)
    obtain ⟨hrequests, -, -, -, -, -, -, -, hdropped⟩ := resetQueues_emptied none (resetBlocks s)
    have hb : (resetBlocks s).link.tx = [] ∧ (resetBlocks s).link.state = .muted ∧
        (resetBlocks s).link.notices = [] := by
      simp [resetBlocks, hlink, hm, htx hm, show s.link.notices = [] from h.2]
    obtain ⟨hbtx, hbstate, hbnotices⟩ := hb
    refine ⟨hstate.trans hbstate, ?_, hrequests, hdropped, fun x hx => ?_⟩
    · have hsub := resetQueues_tx_sublist none (resetBlocks s)
      rw [hbtx] at hsub
      exact List.eq_nil_of_sublist_nil hsub
    · rw [hnotices, hbnotices] at hx
      cases hx
  obtain ⟨hdone, hlatch⟩ := dropping_resetReplies hdrop r (resetRequester s)
  have he : stationReset r s = resetReplies r (resetRequester s) (resetQueues none (resetBlocks s)) := by
    rw [stationReset_eq, hrun, settle_of_quiet s h.2]
  rw [← he] at hdone hlatch
  obtain ⟨hsettled, hstatus, hplan, hactive⟩ := hdone.settle
  obtain ⟨hreplies, -⟩ := resetReplies_frame r (resetRequester s) (resetQueues none (resetBlocks s))
  refine ⟨_, exec_resetStation h hk hp, hsettled, by rw [hstatus]; exact hlatch, ?_,
    hactive.trans (stationReset_not_active r s)⟩
  rw [hplan, he, hreplies]
  simpa [resetQueues, resetBlocks] using clearedPlan_plan s

/-- Settles O33: at a MUTED station the replies are dropped; elsewhere the run is brought to rest, the blocks follow,
and the replies find room behind the little that is left of the queue. -/
theorem stationReset : Obligations.StationReset := by
  unfold Obligations.StationReset
  refine ⟨fun r since s h hk hp hq hm ha => ?_, fun r since s h hk hp hq hshape hlabelled hheld hroom hg => ?_⟩
  · obtain ⟨t, hexec, hdone, hlatch, hplan, hactive⟩ := stationReset_muted h hk hp hq hm ha
    refine ⟨t, hexec, hdone.muted, hdone.tx, hdone.requests, hplan, hactive, hlatch, hdone.dropped.trans ?_⟩
    refine if_congr ?_ rfl rfl
    cases hc : s.gather.cursor <;> simp [resetRequester, hc, Option.ne_none_iff_exists']
  · obtain ⟨u, t, hexec, hu, hue, ht⟩ := stationReset_room h hk hp hq hshape hlabelled hheld hroom hg
    obtain ⟨gcursor, gfinish, gbusy, gidle, gentries, glabel, gtag⟩ := ht.gather
    obtain ⟨alatch, aserved, arefused, aturned, adropped, aservice⟩ := ht.latch
    obtain ⟨cpoller, croll, cstart⟩ := ht.poller
    obtain ⟨icount, iinputs⟩ := ht.inputs
    obtain ⟨lstraps, lstate, lrequests⟩ := ht.link
    obtain ⟨uactive, uvisit, uworking, upending⟩ := hu.idle
    obtain ⟨udecided, umark, ufallback⟩ := hu.clear
    have hamp := ampReset_rested hu.amp
    rw [← ht.amp] at hamp
    obtain ⟨sabsent, sstandby, sclear, sheld, sdebouncers⟩ := hamp
    obtain ⟨ytheta, yword, yindex, ychannels⟩ := synthReset_spec u
    have hrunState : t.engine.runState = u.engine.runState := by rw [ht.engine]
    have hreason : t.engine.endReason = u.engine.endReason := by rw [ht.engine]
    refine ⟨t, hexec, by rw [State.runActive, hrunState]; exact uactive, fun ha => ?_, fun hun hinv => ?_, fun ha => ?_,
      by rw [ht.engine]; exact hu.label, by rw [ht.engine]; exact uvisit, by rw [ht.engine]; exact udecided,
      by rw [ht.engine]; exact umark, by rw [ht.engine]; exact ufallback,
      fun o => by rw [ht.engine]; exact get_replicate false o, ht.plan, by rw [ht.eval]; exact uworking,
      by rw [ht.eval]; exact upending, ht.breaker, by rw [ht.synth, ytheta, hu.phase], by rw [ht.synth, yword],
      by rw [ht.synth, yindex], fun c => ?_, sabsent, sstandby, sclear, sheld, sdebouncers, ht.reserve, gcursor,
      gfinish, gbusy, gidle, gentries, glabel, gtag, alatch, aserved, arefused, aturned, adropped, aservice, lrequests,
      cpoller, croll, cstart, fun e he => ?_, ?_, ht.abort, icount, iinputs, fun hs x hx => ?_, fun ha hnm => ?_,
      lstraps, lstate, ht.clock⟩
    · rw [hrunState, hreason]
      exact hu.aborted ha
    · have hi := (inv_of_runInvariant s hinv).2
      have he : u = abortUnderWay .stationReset s := hue.trans (if_pos hun)
      exact abortRecords_of hi hun hheld (he ▸ ht.late (hu.keeps hi.ok.store).ok)
    · rw [hrunState, hreason, hu.unchanged ha]
      exact ⟨rfl, rfl⟩
    · rw [ht.synth, ychannels]
      obtain ⟨hlast, hcount, hclipped⟩ := hu.codes c
      rw [hlast, hcount, hclipped]
    · rcases ht.kept e he with hw | (hr | hr) | ha
      · exact .inl hw
      · exact .inr (.inl (hr.trans (replyTo_reset hk)))
      · exact .inr (.inr (.inr hr))
      · exact .inr (.inr (.inl ha))
    · obtain ⟨e, he, hframe⟩ := ht.accept
      exact ⟨e, he, hframe.trans (replyTo_reset hk)⟩
    · have hk := (hu.keeps hs).trans (ht.late (hu.keeps hs).ok).weaken
      obtain ⟨g, hgm, hlabel, hcount, hend, hrec⟩ := hk.held hs hx
      refine ⟨g, hgm, hlabel, hcount, fun hor => hend ?_, hrec⟩
      unfold abortedLabel
      split
      · next hun => exact hor.resolve_right (by simp [hun])
      · simp
    · rw [ht.noLate ha hnm, hu.unchanged ha]

end Sys2Proof.Proofs
end

section
/-! Frames of other stations as they are heard (R119, R120, R132): an acceptable group frame that names a run is taken with
the slots driven. -/

namespace Sys2Proof.Proofs

open Sys2Proof.Machine Sys2Proof.Safety Sys2Proof.Claims

variable {s t : State} {f : RxFrame} {l : Label}

/-! ### Settling with nothing left to be told -/

theorem settleFor_quiet (n : Nat) (h : s.link.notices = []) : settleFor n s = s := by
  cases n with
  | zero =>
    have hl : { s.link with notices := [] } = s.link := by rw [← h]
    exact congrArg (fun k => { s with link := k }) hl
  | succ n => simp [settleFor, h]

/-! ### Reception (R119) -/

theorem accepts_of_acceptable (h : Acceptable f s) : accepts s.link.straps f = true := by
  obtain ⟨hcrc, hlen, hpay, hdest, hform⟩ := h
  have hd : destinationMatches s.link.straps f = true := by
    unfold destinationMatches
    rcases hdest with ⟨h0, hn⟩ | ⟨h1, hn⟩ | h2
    · simp [h0, hn]
    · simp [h1, hn]
    · simp [h2]
  have hf : formAllowed f = true := by
    unfold formAllowed isGroupKind
    by_cases hk : 1 ≤ f.kind.toNat ∧ f.kind.toNat ≤ 8
    · rw [if_pos hk] at hform
      rcases hform with h1 | h2 <;> simp [*]
    · rw [if_neg hk] at hform
      simp [hk, hform]
  simp [accepts, checkGood, hcrc, hlen, hpay, hd, hf]

theorem receive_acceptable (h : Acceptable f s) (hr : s.link.resync = false) (act : State → State) :
    receive f act s =
      settle (act ((muteIfDuplicate f s).modLink fun l => { l with drive := slotsFor f (muteIfDuplicate f s) })) := by
  have hlen : ¬40 < f.length.toNat := Nat.not_lt.2 h.2.1
  simp [receive, hr, hlen, accepts_of_acceptable h]

theorem muteIfDuplicate_other (h : f.origin ≠ s.link.straps.station) : muteIfDuplicate f s = s := by
  have : (f.origin == s.own) = false := by simpa [State.own] using h
  simp [muteIfDuplicate, this]

theorem slotsFor_group (h : f.origin ≠ s.link.straps.station) (hk : 1 ≤ f.kind.toNat) (hk' : f.kind.toNat ≤ 7) :
    slotsFor f s = groupSlots s false := by
  have hne : (f.origin != s.own) = true := by simpa [State.own] using h
  have hg : isGroupKind f.kind.toNat = true := by simp [isGroupKind]; omega
  have hroll : rollBitFor f s = false := by
    have : (f.kind.toNat == 8) = false := by simp; omega
    simp [rollBitFor, this]
  cases hl : s.link.state <;> simp [slotsFor, groupSlots, hl, hne, hg, hroll]

/-- A group frame that is heard and says `x` is acted on with the slots driven. -/
theorem receiveGroup_heard {α : Type} (h : Heard f s) {k : Nat} (hk : f.kind.toNat = k) (h1 : 1 ≤ k) (h7 : k ≤ 7)
    {g : List Byte → Option α} {x : α} (hg : g f.payload = some x) (act : α → State → State) :
    receiveGroup k g act f s = settle (act x (acked s)) := by
  obtain ⟨ha, hr, ho, -⟩ := h
  rw [receiveGroup, receive_acceptable ha hr, muteIfDuplicate_other ho, slotsFor_group ho (by omega) (by omega)]
  simp only [hk, if_pos, hg]
  rfl

theorem acked_quiet (h : Heard f s) : (acked s).link.notices = [] := h.2.2.2

theorem labelOk_of_range (h1 : 1 ≤ l.toNat) (h254 : l.toNat ≤ 254) : labelOk l = true := by
  have h0 : l ≠ 0 := by rintro rfl; simp at h1
  have h255 : l ≠ 255 := by rintro rfl; simp at h254
  simpa [labelOk] using ⟨h0, h255⟩

theorem labelPayload_names {k : Nat} (h : Names k l f) : labelPayload f.payload = some l := by
  obtain ⟨-, hp, h1, h254⟩ := h
  simp [labelPayload, hp, labelOk_of_range h1 h254]

/-- A command that takes a frame naming the run `l`, once heard. -/
theorem receiveGroup_names (h : Heard f s) {k : Nat} (hn : Names k l f) (h1 : 1 ≤ k) (h7 : k ≤ 7)
    (act : Label → State → State) : receiveGroup k labelPayload act f s = settle (act l (acked s)) :=
  receiveGroup_heard h hn.1 h1 h7 (labelPayload_names hn) act

end Sys2Proof.Proofs
end

section
/-! The transmit queue as one part of a step (R124 to R126): finding, withdrawing and placing an entry. -/

namespace Sys2Proof.Proofs

open Sys2Proof.Machine Sys2Proof.Safety Sys2Proof.Claims

variable {s t : State} {e v : TxEntry} {q : List TxEntry} {a : Nat}

/-! ### Entries by their age -/

/-- The ages in a queue are all different. -/
def AgesDiffer (q : List TxEntry) : Prop := q.Pairwise fun a b => a.age ≠ b.age

theorem QueuesOk.ages (h : QueuesOk s) : AgesDiffer s.link.tx := h.2.2.1

theorem AgesDiffer.sublist {p : List TxEntry} (h : AgesDiffer q) (hs : p.Sublist q) :
    AgesDiffer p := List.Pairwise.sublist hs h

theorem AgesDiffer.eq (h : AgesDiffer q) (he : e ∈ q) (hv : v ∈ q) (ha : e.age = v.age) : e = v :=
  List.inj_on_of_nodup_map (List.pairwise_map.2 h) he hv ha

theorem entryOfAge_mem (h : AgesDiffer q) (he : e ∈ q) : entryOfAge e.age q = some e := by
  obtain ⟨v, hv⟩ : ∃ v, entryOfAge e.age q = some v :=
    Option.isSome_iff_exists.1 (List.find?_isSome.2 ⟨e, he, by simp⟩)
  have hage : v.age = e.age := by simpa using List.find?_some hv
  rw [hv, h.eq (List.mem_of_find?_eq_some hv) he hage]

theorem removeAge_eq (a : Nat) (q : List TxEntry) : removeAge a q = q.filter fun u => u.age ≠ a := by
  simp [removeAge, bne, decide_not]
  rfl

/-! ### Withdrawing (R126) -/

theorem withdraw_waiting (h : AgesDiffer s.link.tx) (he : e ∈ s.link.tx) (hb : e.begun = false) :
    withdraw e.age s = { s with link := { s.link with tx := s.link.tx.filter fun u => u.age ≠ e.age } } := by
  rw [withdraw, entryOfAge_mem h he, ← removeAge_eq]
  simp [hb, State.modLink]

theorem withdraw_begun (h : ∀ e ∈ s.link.tx, e.age = a → e.begun = true) : withdraw a s = s := by
  unfold withdraw
  split
  · next e he =>
    have hb : e.begun = true := h e (List.mem_of_find?_eq_some he) (by simpa using List.find?_some he)
    simp [hb]
  · rfl

/-- What is left under the age of a withdrawn frame has begun. -/
theorem begun_of_mem_withdraw (h : AgesDiffer s.link.tx) (he : e ∈ (withdraw a s).link.tx) (ha : e.age = a) :
    e.begun = true := by
  have hm : e ∈ s.link.tx := (withdraw_tx_sublist a s).subset he
  by_contra hb
  subst ha
  rw [withdraw_waiting h hm (by simpa using hb)] at he
  simp at he

theorem withdraw_link_eq (a : Nat) (s : State) :
    withdraw a s = { s with link := { s.link with tx := (withdraw a s).link.tx } } := by
  unfold withdraw
  (repeat' split) <;> rfl

theorem isWaiting_of_mem (h : AgesDiffer s.link.tx) (he : e ∈ s.link.tx) (hb : e.begun = false) :
    isWaiting e.age s = true := by
  simp [isWaiting, entryOfAge_mem h he, hb]

theorem isWaiting_begun (h : ∀ e ∈ s.link.tx, e.age = a → e.begun = true) : isWaiting a s = false := by
  unfold isWaiting
  split
  · next e he => simp [h e (List.mem_of_find?_eq_some he) (by simpa using List.find?_some he)]
  · rfl

/-! ### The entry on the wire -/

theorem onWireEntry_none (h : ∀ e ∈ s.link.tx, e.onWire = false) : onWireEntry s.link.tx = none :=
  List.find?_eq_none.2 (by simpa using h)

theorem onWireEntry_mem (h : QueuesOk s) (he : e ∈ s.link.tx) (hw : e.onWire = true) :
    onWireEntry s.link.tx = some e := by
  obtain ⟨-, -, -, -, hone, -⟩ := h
  generalize s.link.tx = q at he hone
  induction q with
  | nil => cases he
  | cons x xs ih =>
    by_cases hx : x.onWire = true
    · have hrest : ∀ y ∈ xs, ¬y.onWire = true := by
        rw [List.countP_cons_of_pos hx] at hone
        exact List.countP_eq_zero.1 (by omega)
      rcases List.mem_cons.1 he with rfl | hm
      · simp [onWireEntry, hx]
      · exact absurd hw (hrest e hm)
    · have hm : e ∈ xs := (List.mem_cons.1 he).resolve_left fun h => hx (h ▸ hw)
      rw [List.countP_cons_of_neg hx] at hone
      simpa [onWireEntry, List.find?_cons_of_neg, hx] using ih hm hone

/-- A frame that leaves a lawful queue leaves room. -/
theorem free_of_removed (h : QueuesOk s) (he : e ∈ s.link.tx) :
    s.link.state ≠ .muted ∧ (s.link.tx.filter fun u => u.age ≠ e.age).length < 8 := by
  obtain ⟨hlen, -, -, -, -, hmuted, -⟩ := h
  refine ⟨fun hm => ?_, Nat.lt_of_lt_of_le (List.length_filter_lt_length_iff_exists.2 ⟨e, he, by simp⟩) hlen⟩
  rw [hmuted hm] at he
  cases he

/-! ### Placing (R125, R130) -/

theorem place_room_eq (h : Room s) (f : TxFrame) :
    place f false s = { s with link := { s.link with
      nextAge := s.link.nextAge + 1, tx := insertByPriority (newEntry f s) s.link.tx } } := place_room h f

theorem place_head_room (h : Room s) (f : TxFrame) :
    place f true s = { s with link := { s.link with nextAge := s.link.nextAge + 1, tx := newEntry f s :: s.link.tx } } := by
  obtain ⟨hm, hl⟩ := h
  simp [place, hm, Config.txCapacity, hl, newEntry, State.modLink]

end Sys2Proof.Proofs
end

section
/-! The choice of exit (R46 to R54): a trigger presented, a pending mark given up, and the slots fired by one event. -/

namespace Sys2Proof.Proofs

open Sys2Proof.Machine Sys2Proof.Safety Sys2Proof.Claims

variable {s t u : State} {l : Label} {v : Visit} {p : PendingMark} {d : DecidedExit} {n m : SlotNo} {x : Instant}

/-! ### The exit boundary (R50) -/

theorem isExitBoundary_exitBoundaryOf (entry x : Instant) : IsExitBoundary entry x (exitBoundaryOf entry x) := by
  obtain ⟨hm, hle, hmin⟩ := ceilTo_spec 100 x (by decide)
  obtain ⟨hm', hle', hmin'⟩ := ceilTo_spec 100 (entry + 1) (by decide)
  unfold exitBoundaryOf boundaryAt Config.samplePeriod
  split
  · next h => exact ⟨hm, hle, h, fun c hc hx _ => hmin c hc hx⟩
  · next h =>
    have hx : x ≤ entry := hle.trans (Nat.le_of_not_lt h)
    exact ⟨hm', hx.trans (Nat.le_of_succ_le hle'), hle', fun c hc _ he => hmin' c hc he⟩

/-! ### Records of the run -/

/-- What the store does with an event record rests on the store, the run's label, the visit limit and the instant. -/
theorem storeEvent_store_of (l : Label) (c : Contents) (hst : t.store = s.store)
    (hrun : t.engine.runLabel = s.engine.runLabel) (hh : t.header = s.header) (hn : t.now = s.now) :
    (storeEvent l c t).store = (storeEvent l c s).store := by
  simp only [storeEvent, hst, hrun, hh, hn]
  (repeat' split) <;> simp_all

theorem storeEvent_eq (l : Label) (c : Contents) (s : State) :
    storeEvent l c s = { s with store := (storeEvent l c s).store } := by
  obtain ⟨st, h⟩ : ∃ st, storeEvent l c s = { s with store := st } := by
    dsimp only [storeEvent]
    (repeat' split) <;> exact ⟨_, rfl⟩
  rw [h]

theorem storeRunEvent_eq (hu : s.runUnderWay = true) (hl : s.engine.runLabel = some l) (c : Contents) :
    storeRunEvent c s = { s with store := (storeEvent l c s).store } := by
  rw [storeRunEvent, if_pos hu, hl]
  exact storeEvent_eq l c s

/-! ### A pending mark given up (R54) -/

theorem giveUpMark_none (h : s.engine.pendingMark = none) : giveUpMark s = s := giveUpMark_nothing h

theorem withdrawMark_eq (a : Nat) (l : Label) (c : MarkCode) (x : Instant) (s : State) :
    withdrawMark a l c x s = { s with link := (withdrawMark a l c x s).link, store := (withdrawMark a l c x s).store } := by
  unfold withdrawMark logMark
  split
  · rw [storeEvent_eq, withdraw_link_eq]
  · rfl

theorem giveUpMark_eq (s : State) :
    giveUpMark s = { s with
      engine := { s.engine with pendingMark := none }, link := (giveUpMark s).link, store := (giveUpMark s).store } := by
  unfold giveUpMark
  split
  · next h =>
    have he : { s.engine with pendingMark := none } = s.engine := by rw [← h]
    rw [he]
  · next p _ =>
    split
    · next l _ => exact withdrawMark_eq p.age l p.code p.detection _
    · rfl

/-- A mark given up in a state that has the queue, the store and the run of `s` is given up from `s`. -/
theorem givenUp_giveUpMark (hages : AgesDiffer s.link.tx) (hp : u.engine.pendingMark = some p)
    (hl : u.engine.runLabel = some l) (hlabel : s.engine.runLabel = some l) (hlink : u.link = s.link)
    (hstore : u.store = s.store) (hh : u.header = s.header) (hn : u.now = s.now) : GivenUp p l s (giveUpMark u) := by
  have hg : giveUpMark u =
      withdrawMark p.age l p.code p.detection (u.modEngine fun g => { g with pendingMark := none }) := by
    simp [giveUpMark, hp, hl]
  refine ⟨by simp [hg], ?_, fun hb => ?_⟩
  · rintro ⟨e, he, hage, hb⟩
    have he' : e ∈ (u.modEngine fun g => { g with pendingMark := none }).link.tx := by simpa [hlink] using he
    have hages' : AgesDiffer (u.modEngine fun g => { g with pendingMark := none }).link.tx := by simpa [hlink] using hages
    rw [hg, ← hage, withdrawMark, if_pos (isWaiting_of_mem hages' he' hb), withdraw_waiting hages' he' hb]
    refine ⟨by simp [logMark, hlink], ?_⟩
    exact storeEvent_store_of l _ hstore (by simp [hl, hlabel]) hh hn
  · have hw : isWaiting p.age (u.modEngine fun g => { g with pendingMark := none }) = false :=
      isWaiting_begun (by simpa [hlink] using hb)
    rw [hg, withdrawMark, if_neg (by simp [hw])]
    exact ⟨hlink, hstore⟩

/-! ### A trigger presented (R50) -/

theorem present_no_visit (h : s.engine.visit = none) (d : Decider) (t : Target) (x : Instant) (fallback : Bool) :
    present d t x fallback s = s := by simp [present, h]

/-- A trigger with no exit decided becomes the decided exit. -/
theorem present_undecided (hv : s.engine.visit = some v) (hd : s.engine.decided = none) (d : Decider) (t : Target)
    (x : Instant) (fallback : Bool) :
    present d t x fallback s =
      decideExit { instant := x, decider := d, target := some t, boundary := exitBoundaryOf v.entry x } v fallback s := by
  simp [present, hv, hd]

/-- A trigger of another instant, or one that does not rank before the decider that stands, changes nothing. -/
theorem present_spent (hd : s.engine.decided = some d) {c : Decider} (h : d.instant = x → ranksBefore c d.decider = false)
    (t : Target) (fallback : Bool) : present c t x fallback s = s := by
  unfold present
  split
  · rfl
  · rw [hd]
    simp only
    rw [if_neg fun hc => by simp [h hc.1] at hc]

/-- A trigger of the deciding instant that ranks before the decider takes its place. -/
theorem present_ranked (hv : s.engine.visit = some v) (hd : s.engine.decided = some d) {c : Decider} (hx : d.instant = x)
    (hr : ranksBefore c d.decider = true) (t : Target) (fallback : Bool) :
    present c t x fallback s = decideExit { d with decider := c, target := some t } v fallback s := by
  simp [present, hv, hd, hx, hr]

/-- With no mark pending the exit is decided and nothing else changes. -/
theorem decideExit_no_mark (h : s.engine.pendingMark = none) (d : DecidedExit) (v : Visit) :
    decideExit d v false s = { s with
      engine := { s.engine with decided := some d, visit := some { v with uncoordinated := false } } } := by
  simp [decideExit, h, State.modEngine]

/-- The state with the exit decided, before a pending mark is given up. -/
def withExit (d : DecidedExit) (v : Visit) (s : State) : State :=
  s.modEngine fun g => { g with decided := some d, visit := some { v with uncoordinated := false } }

/-- An exit that another slot than the pending mark's decides gives the mark up (R54). -/
theorem decideExit_other (hp : s.engine.pendingMark = some p) (hne : d.decider ≠ .slot p.slot) (v : Visit) :
    decideExit d v false s = giveUpMark (withExit d v s) := by
  have : (d.decider == Decider.slot p.slot) = false := by simpa using hne
  simp [decideExit, hp, this, withExit]

theorem decideExit_decided (d : DecidedExit) (v : Visit) (fallback : Bool) (s : State) :
    (decideExit d v fallback s).engine.decided = some d := by
  cases fallback
  all_goals
    simp only [decideExit, Bool.false_eq_true, if_false, if_true]
    split
    · split <;> simp [State.latch]
    · rfl

/-- What the decision of another slot leaves: the mark given up, the exit decided, and only the engine, the queue and the
store changed. -/
theorem decideExit_gives_up (hages : AgesDiffer s.link.tx) (hp : s.engine.pendingMark = some p)
    (hl : s.engine.runLabel = some l) (hne : d.decider ≠ .slot p.slot) (v : Visit) :
    GivenUp p l s (decideExit d v false s) ∧
      (decideExit d v false s).engine = { s.engine with
        pendingMark := none, decided := some d, visit := some { v with uncoordinated := false } } ∧
      decideExit d v false s = { s with
        engine := (decideExit d v false s).engine
        link := (decideExit d v false s).link
        store := (decideExit d v false s).store } := by
  rw [decideExit_other hp hne]
  refine ⟨givenUp_giveUpMark (u := withExit d v s) hages hp hl hl rfl rfl rfl rfl, ?_, ?_⟩
  · rw [giveUpMark_eq]
    rfl
  · rw [giveUpMark_eq]
    rfl

/-! ### One event at the slots of a visit (R47 to R50) -/

/-- What one event does at a slot. -/
def fireAt (f : Trigger → Option (Target × Option MarkCode)) (x : Instant) (v : Visit) (s s' : State) (n : SlotNo)
    : State :=
  match f (visitTrigger s v n) with
  | some (t, c) => fireSlot n t c x s'
  | none => s'

theorem fireSlots_eq (hv : s.engine.visit = some v) (f : Trigger → Option (Target × Option MarkCode)) (x : Instant) :
    fireSlots f x s = (List.finRange 4).foldl (fireAt f x v s) s := by
  simp only [fireSlots, hv]
  rfl

theorem fireSlots_no_visit (hv : s.engine.visit = none) (f : Trigger → Option (Target × Option MarkCode)) (x : Instant) :
    fireSlots f x s = s := by simp [fireSlots, hv]

/-- Where no slot listens, nothing fires. -/
theorem fireSlots_silent {f : Trigger → Option (Target × Option MarkCode)}
    (h : ∀ v, s.engine.visit = some v → ∀ n, f (visitTrigger s v n) = none) (x : Instant) : fireSlots f x s = s := by
  cases hv : s.engine.visit with
  | none => exact fireSlots_no_visit hv f x
  | some v =>
    rw [fireSlots_eq hv]
    exact foldl_eq_self (fun n _ s' => by simp [fireAt, h v hv n]) s

/-- A slot changes nothing once an exit stands decided that it does not rank before. -/
theorem fireSlot_spent (hd : s.engine.decided = some d) (h : d.instant = x → ranksBefore (.slot m) d.decider = false)
    (t : Target) (c : Option MarkCode) : fireSlot m t c x s = s := by
  cases c with
  | none => exact present_spent hd h t false
  | some code => simp [fireSlot, coordinatedCondition, hd]

theorem foldl_fixed {α : Type} {f : State → α → State} {as : List α} (h : ∀ a ∈ as, f s a = s) : as.foldl f s = s := by
  induction as with
  | nil => rfl
  | cons a as ih =>
    rw [List.foldl_cons, h a (by simp)]
    exact ih fun b hb => h b (by simp [hb])

/-- An event of another instant than a decided exit's fires nothing. -/
theorem fireSlots_spent (hd : s.engine.decided = some d) (hx : d.instant ≠ x)
    (f : Trigger → Option (Target × Option MarkCode)) : fireSlots f x s = s := by
  cases hv : s.engine.visit with
  | none => exact fireSlots_no_visit hv f x
  | some v =>
    rw [fireSlots_eq hv]
    refine foldl_fixed fun n _ => ?_
    unfold fireAt
    split
    · exact fireSlot_spent hd (fun h => absurd h hx) _ _
    · rfl

theorem slots_split (n : SlotNo) : ∃ low high : List SlotNo, List.finRange 4 = low ++ n :: high ∧
    (∀ k ∈ low, k < n) ∧ ∀ k ∈ high, n < k :=
  ⟨(List.finRange 4).filter (· < n), (List.finRange 4).filter (n < ·), by revert n; decide, by simp, by simp⟩

/-- A slot above one that has just presented its trigger at the same instant changes nothing (R50). -/
theorem fireSlot_after_present (h : n < m) (t t' : Target) (c : Option MarkCode) :
    fireSlot m t' c x (present (.slot n) t x false s) = present (.slot n) t x false s := by
  have hnot : ¬m < n := not_lt.2 h.le
  cases hv : s.engine.visit with
  | none =>
    rw [present_no_visit hv]
    cases c with
    | none => exact present_no_visit hv _ _ _ _
    | some code => simp [fireSlot, coordinatedCondition, hv]
  | some v =>
    cases hd : s.engine.decided with
    | none =>
      rw [present_undecided hv hd]
      exact fireSlot_spent (decideExit_decided _ _ _ _) (fun _ => by simp [ranksBefore, hnot]) _ _
    | some d =>
      by_cases hr : d.instant = x ∧ ranksBefore (.slot n) d.decider = true
      · rw [present_ranked hv hd hr.1 hr.2]
        exact fireSlot_spent (decideExit_decided _ _ _ _) (fun _ => by simp [ranksBefore, hnot]) _ _
      · have hlow : d.instant = x → ranksBefore (.slot n) d.decider = false := fun hx => by simpa [hx] using hr
        have hhigh : d.instant = x → ranksBefore (.slot m) d.decider = false := fun hx => by
          have := hlow hx
          cases hc : d.decider with
          | slot k =>
            simp only [hc, ranksBefore, decide_eq_false_iff_not, not_lt] at this ⊢
            exact this.trans h.le
          | backstop => simp [hc, ranksBefore] at this
          | stop => rfl
        rw [present_spent hd hlow]
        exact fireSlot_spent hd hhigh _ _

/-- Of the slots that one event reaches the first presents its trigger, where that carries no code, and the others change
nothing (R50). -/
theorem fireSlots_first {f : Trigger → Option (Target × Option MarkCode)} {t : Target} (hv : s.engine.visit = some v)
    (hn : f (visitTrigger s v n) = some (t, none)) (hlow : ∀ k, k < n → f (visitTrigger s v k) = none) (x : Instant) :
    fireSlots f x s = present (.slot n) t x false s := by
  obtain ⟨low, high, hsplit, hbelow, habove⟩ := slots_split n
  have hbefore : low.foldl (fireAt f x v s) s = s :=
    foldl_fixed fun k hk => by simp [fireAt, hlow k (hbelow k hk)]
  rw [fireSlots_eq hv, hsplit, List.foldl_append, hbefore, List.foldl_cons]
  have hat : fireAt f x v s s n = present (.slot n) t x false s := by simp [fireAt, hn, fireSlot]
  rw [hat]
  refine foldl_fixed fun k hk => ?_
  unfold fireAt
  split
  · exact fireSlot_after_present (habove k hk) _ _ _
  · rfl

/-! ### An exit due at this boundary (R50) -/

theorem settleBoundary_undecided (h : s.engine.decided = none) : settleBoundary s = s := by simp [settleBoundary, h]

theorem settleBoundary_before (hd : s.engine.decided = some d) (h : s.now < d.boundary) : settleBoundary s = s := by
  have hdue : exitDue s = false := by
    have hb : ¬d.boundary ≤ s.now := Nat.not_le.2 h
    cases hv : s.engine.visit <;> simp [exitDue, hd, hv, hb]
  simp [settleBoundary, hd, hdue]

theorem settleBoundary_at (hd : s.engine.decided = some d) (h : d.instant = s.now) : settleBoundary s = s := by
  simp [settleBoundary, hd, h]

theorem settleBoundary_no_visit (h : s.engine.visit = none) : settleBoundary s = s := by
  unfold settleBoundary
  split
  · simp [exitDue, h]
  · rfl

end Sys2Proof.Proofs
end

section
/-! STOP, STEP and MARK of another station (R48 to R50, R58, R146, R147). -/

namespace Sys2Proof.Proofs

open Sys2Proof.Machine Sys2Proof.Safety Sys2Proof.Claims

variable {s t : State} {f : RxFrame} {l : Label} {v : Visit} {p : PendingMark} {d : DecidedExit} {n : SlotNo}

/-! ### STOP (R58) -/

theorem exec_stop (h : Heard f s) (hn : Names 4 l f) (he : coordStop l (acked s) = t) (hq : t.link.notices = []) :
    exec (.stop f) s = .next t := by
  rw [← settle_of_quiet t hq, ← he]
  exact congrArg Host.Outcome.next (receiveGroup_names h hn (by decide) (by decide) coordStop)

theorem engineStop_not_running (h : s.engine.runState ≠ .running) : engineStop s = s := by simp [engineStop, h]

theorem engineStop_no_visit (hr : s.engine.runState = .running) (hv : s.engine.visit = none) :
    engineStop s = enterEnding .stop s := by simp [engineStop, hr, hv]

/-- A STOP takes the place of no exit and of one decided to a state. -/
theorem engineStop_decides (hr : s.engine.runState = .running) (hv : s.engine.visit = some v)
    (hd : ∀ d, s.engine.decided = some d → ∃ st, d.target = some (.state st)) :
    engineStop s = { s with
      engine := { s.engine with
        decided := some
          { instant := s.now, decider := .stop, target := none, boundary := exitBoundaryOf v.entry s.now } } } := by
  cases hdec : s.engine.decided with
  | none =>
    simp [engineStop, hr, hv, hdec, State.modEngine]
  | some d =>
    obtain ⟨st, hst⟩ := hd d hdec
    simp [engineStop, hr, hv, hdec, hst, State.modEngine]

/-- An exit decided to END and a STOP decided already stand. -/
theorem engineStop_stands (hv : s.engine.visit = some v) (hd : s.engine.decided = some d)
    (ht : d.target = none ∨ d.target = some .endRun) : engineStop s = s := by
  rcases ht with ht | ht <;> simp [engineStop, hv, hd, ht]

theorem writeSummary_reserve (e : EndState) (s : State) : (writeSummary e s).store.reserve = none :=
  storeSummary_reserve _ _ _

theorem finishRun_store (s : State) : (finishRun s).store = (writeSummary .finished s).store := by
  unfold finishRun
  dsimp only
  split <;> simp

/-- A run that ends with nothing to evaluate is FINISHED at once, and its reserve with it (R111, R158). -/
theorem enterEnding_reserve (hp : s.eval.pendingList = []) (r : EndReason) :
    (enterEnding r s).store.reserve = none := by
  have hdone : (s.modEngine fun g => { g with runState := .ending, endReason := r, held := [] }).eval.pendingList = [] := hp
  simp [enterEnding, finishIfDone, hp, finishRun_store, writeSummary_reserve]

/-- Settles O18: by what STOP does with no visit, with an exit that it abandons and with one that stands. -/
theorem stopEndsTheVisit : Obligations.StopEndsTheVisit := by
  unfold Obligations.StopEndsTheVisit
  intro f l s h hn
  have hlabelled (hl : s.engine.runLabel = some l) : coordStop l (acked s) = engineStop (acked s) := by
    have : (acked s).engine.runLabel = some l := hl
    simp [coordStop, this]
  have unchanged (he : coordStop l (acked s) = acked s) : exec (.stop f) s = .next (acked s) :=
    exec_stop h hn he (acked_quiet h)
  refine ⟨fun hne => unchanged ?_, fun v hl hr hv hd => ?_, fun v d hl hr hv hd ht => unchanged ?_, fun hl hr hv hp => ?_⟩
  · unfold coordStop
    split
    · next hl =>
      have hr : s.engine.runState ≠ .running := hne.resolve_left fun hne => hne (beq_iff_eq.1 hl)
      exact engineStop_not_running hr
    · rfl
  · have he := (hlabelled hl).trans (engineStop_decides (s := acked s) hr hv hd)
    exact ⟨_, _, exec_stop h hn he (acked_quiet h), isExitBoundary_exitBoundaryOf v.entry s.now, rfl⟩
  · exact (hlabelled hl).trans (engineStop_stands (s := acked s) hv hd ht)
  · have he := (hlabelled hl).trans (engineStop_no_visit (s := acked s) hr hv)
    obtain ⟨hreason, hlevels, hbreaker, -⟩ := enterEnding_quiesced .stop (acked s)
    have hstate : (enterEnding .stop (acked s)).engine.runState = .finished := by
      rw [enterEnding_runState, if_pos]
      exact hp
    refine ⟨_, exec_stop h hn he (by simpa using acked_quiet h), hstate, hreason, hlevels, ?_, hbreaker,
      enterEnding_reserve (s := acked s) hp .stop, ?_⟩
    all_goals simp [acked, driven]

/-! ### STEP (R49) -/

theorem exec_step (h : Heard f s) (hn : Names 5 l f) (he : coordStep l (acked s) = t) (hq : t.link.notices = []) :
    exec (.step f) s = .next t := by
  rw [← settle_of_quiet t hq, ← he]
  exact congrArg Host.Outcome.next (receiveGroup_names h hn (by decide) (by decide) coordStep)

/-- What a STEP is to a slot. -/
def steps : Trigger → Option (Target × Option MarkCode)
  | .step target => some (target, none)
  | _ => none

theorem steps_none {g : Trigger} (h : ∀ target, g ≠ .step target) : steps g = none := by
  cases g with
  | step target => exact absurd rfl (h target)
  | _ => rfl

theorem engineStep_eq (s : State) : engineStep s =
    if s.engine.runState = .running then fireSlots steps (settleBoundary s).now (settleBoundary s) else s := by
  simp only [engineStep, beq_iff_eq]
  rfl

/-- The exit that an event of this instant decides from a slot (R50). -/
def exitAt (n : SlotNo) (target : Target) (v : Visit) (s : State) : DecidedExit :=
  { instant := s.now, decider := .slot n, target := some target, boundary := exitBoundaryOf v.entry s.now }

/-- An event fires the first slot that it reaches, where nothing is decided. -/
theorem fireSlots_decides {f : Trigger → Option (Target × Option MarkCode)} {target : Target} (hv : s.engine.visit = some v)
    (hd : s.engine.decided = none) (hn : f (visitTrigger s v n) = some (target, none))
    (hlow : ∀ k, k < n → f (visitTrigger s v k) = none) :
    fireSlots f (settleBoundary s).now (settleBoundary s) = decideExit (exitAt n target v s) v false s := by
  rw [settleBoundary_undecided hd, fireSlots_first hv hn hlow, present_undecided hv hd]
  rfl

/-- An event between the deciding instant of an exit and its boundary fires nothing. -/
theorem fireSlots_ignored (f : Trigger → Option (Target × Option MarkCode)) (hd : s.engine.decided = some d)
    (hi : d.instant < s.now) (hb : s.now < d.boundary) :
    fireSlots f (settleBoundary s).now (settleBoundary s) = s := by
  rw [settleBoundary_before hd hb, fireSlots_spent hd hi.ne]

theorem engineStep_decides {target : Target} (hr : s.engine.runState = .running) (hv : s.engine.visit = some v)
    (hd : s.engine.decided = none) (hn : (s.plan.items.states.get v.state).triggers.get n = .step target)
    (hlow : ∀ k target', k < n → (s.plan.items.states.get v.state).triggers.get k ≠ .step target') :
    engineStep s = decideExit (exitAt n target v s) v false s := by
  have hn' : steps (visitTrigger s v n) = some (target, none) := congrArg steps hn
  rw [engineStep_eq, if_pos hr, fireSlots_decides hv hd hn' fun k hk => steps_none fun g => hlow k g hk]

/-- Settles O19: by the first slot that the STEP reaches. -/
theorem stepFiresTheStepSlot : Obligations.StepFiresTheStepSlot := by
  unfold Obligations.StepFiresTheStepSlot
  intro f l s h hn
  have unchanged (he : engineStep (acked s) = acked s) : exec (.step f) s = .next (acked s) := by
    refine exec_step h hn ?_ (acked_quiet h)
    unfold coordStep
    split
    · exact he
    · rfl
  have hlabelled (hl : s.engine.runLabel = some l) : coordStep l (acked s) = engineStep (acked s) := by
    have : (acked s).engine.runLabel = some l := hl
    simp [coordStep, this]
  refine ⟨fun hne => ?_, fun d hd hi hb => unchanged ?_, fun v hv hd hno => unchanged ?_,
    fun v n target hl hr hv hd hp hslot hlow => ?_, fun v n target p hq hl hr hv hd hp hne hslot hlow => ?_⟩
  · rcases hne with hl | hr | hv
    · have hne : ((acked s).engine.runLabel == some l) = false := beq_eq_false_iff_ne.2 hl
      exact exec_step h hn (by simp [coordStep, hne]) (acked_quiet h)
    · exact unchanged (by rw [engineStep_eq, if_neg]; exact hr)
    · refine unchanged ?_
      have hv' : (acked s).engine.visit = none := hv
      rw [engineStep_eq, settleBoundary_no_visit hv', fireSlots_no_visit hv', ite_self]
  · rw [engineStep_eq, fireSlots_ignored (s := acked s) steps hd hi hb, ite_self]
  · have hd' : (acked s).engine.decided = none := hd
    have hv' : (acked s).engine.visit = some v := hv
    have hsilent : ∀ w, (acked s).engine.visit = some w → ∀ n, steps (visitTrigger (acked s) w n) = none := by
      intro w hw n
      obtain rfl : v = w := Option.some.inj (hv'.symm.trans hw)
      exact steps_none fun target => hno n target
    rw [engineStep_eq, settleBoundary_undecided hd', fireSlots_silent hsilent, ite_self]
  · have he := (hlabelled hl).trans (engineStep_decides (s := acked s) hr hv hd hslot hlow)
    rw [decideExit_no_mark (s := acked s) hp] at he
    exact ⟨_, _, exec_step h hn he (acked_quiet h), isExitBoundary_exitBoundaryOf v.entry s.now, rfl⟩
  · have he := (hlabelled hl).trans (engineStep_decides (s := acked s) hr hv hd hslot hlow)
    have hother : (exitAt n target v (acked s)).decider ≠ .slot p.slot := fun hc => hne (Decider.slot.inj hc).symm
    obtain ⟨hgiven, hengine, hrest⟩ := decideExit_gives_up (s := acked s) (QueuesOk.ages hq) hp hl hother v
    refine ⟨_, _, exec_step h hn he ?_, isExitBoundary_exitBoundaryOf v.entry s.now, hgiven, hengine, hrest⟩
    simpa using acked_quiet h

/-! ### MARK of another station (R48, R146) -/

/-- What a MARK of `origin` with `code` is to a slot. -/
def marks (origin : StationNo) (code : Byte) : Trigger → Option (Target × Option MarkCode)
  | .mark c from? target => if c == code && (from?.isNone || from? == some origin) then some (target, none) else none
  | _ => none

theorem marks_listens {o : StationNo} {c : Byte} {from? : Option StationNo} (h : from? = none ∨ from? = some o)
    (target : Target) :
    marks o c (.mark c from? target) = some (target, none) := by
  rcases h with rfl | rfl <;> simp [marks]

theorem marks_none {o : StationNo} {c : Byte} {g : Trigger}
    (h : ¬∃ origin target, g = .mark c origin target ∧ (origin = none ∨ origin = some o)) : marks o c g = none := by
  cases g with
  | mark c' from? target =>
    refine if_neg fun hc => h ⟨from?, target, ?_⟩
    simp only [Bool.and_eq_true, beq_iff_eq, Bool.or_eq_true, Option.isNone_iff_eq_none] at hc
    obtain ⟨rfl, hf⟩ := hc
    exact ⟨rfl, hf⟩
  | _ => rfl

theorem engineMark_eq (o : StationNo) (c : Byte) (s : State) : engineMark o c s =
    if s.engine.runState = .running then fireSlots (marks o c) (settleBoundary s).now (settleBoundary s) else s := by
  simp only [engineMark, beq_iff_eq]
  rfl

theorem engineMark_decides {o : StationNo} {c : Byte} {origin : Option StationNo} {target : Target}
    (hr : s.engine.runState = .running)
    (hv : s.engine.visit = some v) (hd : s.engine.decided = none)
    (hn : (s.plan.items.states.get v.state).triggers.get n = .mark c origin target) (ho : origin = none ∨ origin = some o)
    (hlow : ∀ k, k < n → ¬∃ origin target, (s.plan.items.states.get v.state).triggers.get k = .mark c origin target ∧
      (origin = none ∨ origin = some o)) :
    engineMark o c s = decideExit (exitAt n target v s) v false s := by
  have hn' : marks o c (visitTrigger s v n) = some (target, none) :=
    (congrArg (marks o c) hn).trans (marks_listens ho target)
  rw [engineMark_eq, if_pos hr, fireSlots_decides hv hd hn' fun k hk => marks_none (hlow k hk)]

theorem exec_mark {code d0 d1 d2 d3 : Byte} (h : Heard f s) (hk : f.kind.toNat = 2)
    (hp : f.payload = [l, code, d0, d1, d2, d3])
    (h1 : 1 ≤ l.toNat) (h254 : l.toNat ≤ 254) (hc : 1 ≤ code.toNat) (hc' : code.toNat ≤ 63)
    (he : coordMark f.origin l code (((d0.toNat * 256 + d1.toNat) * 256 + d2.toNat) * 256 + d3.toNat) (acked s) = t)
    (hq : t.link.notices = []) : exec (.mark f) s = .next t := by
  have hnum : num4 [l, code, d0, d1, d2, d3] 2 = ((d0.toNat * 256 + d1.toNat) * 256 + d2.toNat) * 256 + d3.toNat := by
    simp [num4, num2, byteAt]
    ring
  have hm : markPayload f.payload =
      some (l, code, ((d0.toNat * 256 + d1.toNat) * 256 + d2.toNat) * 256 + d3.toNat) := by
    rw [hp, ← hnum]
    simp [markPayload, labelOk_of_range h1 h254, markOk, hc, hc']
  rw [← settle_of_quiet t hq, ← he]
  exact congrArg Host.Outcome.next (receiveGroup_heard h hk (by decide) (by decide) hm
    fun m => coordMark f.origin m.1 m.2.1 m.2.2)

/-- The state after the record of a mark heard, before the slots. -/
def heardMark (l : Label) (c : Contents) (s : State) : State := { acked s with store := (storeEvent l c s).store }

theorem coordMark_eq {o : StationNo} {c : Byte} {x : Instant} (hl : s.engine.runLabel = some l)
    (hu : s.runUnderWay = true) :
    coordMark o l c x (acked s) = engineMark o c (heardMark l (.markHeard o c x) s) := by
  have hl' : (acked s).engine.runLabel = some l := hl
  have hu' : (acked s).runUnderWay = true := hu
  have hst : (storeEvent l (.markHeard o c x) (acked s)).store = (storeEvent l (.markHeard o c x) s).store :=
    storeEvent_store_of l _ rfl rfl rfl rfl
  rw [coordMark, if_pos (by simp [hl', hu']), storeRunEvent_eq hu' hl', hst]
  rfl

/-- Settles O21: by the record stored and the first slot that the mark reaches. -/
theorem markHeard : Obligations.MarkHeard := by
  unfold Obligations.MarkHeard
  intro f l code d0 d1 d2 d3 s h hk hpay h1 h254 hc hc' detection logged listens
  have next {t : State} (he : coordMark f.origin l code detection (acked s) = t) (hq : t.link.notices = []) :
      exec (.mark f) s = .next t := exec_mark h hk hpay h1 h254 hc hc' he hq
  let u : State := heardMark l (.markHeard f.origin code detection) s
  have hu : u = { acked s with store := logged } := rfl
  have underWay (hr : s.engine.runState = .running) : s.runUnderWay = true := by simp [State.runUnderWay, hr]
  have loggedOnly (hl : s.engine.runLabel = some l) (hw : s.runUnderWay = true) (he : engineMark f.origin code u = u) :
      exec (.mark f) s = .next u := next ((coordMark_eq hl hw).trans he) (acked_quiet h)
  refine ⟨fun hne => next ?_ (acked_quiet h), fun hl hr => loggedOnly hl (by simp [State.runUnderWay, hr]) ?_,
    fun hl hr hv => loggedOnly hl (underWay hr) ?_, fun d hl hr hd hi hb => loggedOnly hl (underWay hr) ?_,
    fun v hl hr hv hd hno => loggedOnly hl (underWay hr) ?_,
    fun v n origin target hl hr hv hd hp hslot ho hlow => ?_,
    fun v n origin target p hq hl hr hv hd hp hne hslot ho hlow => ?_⟩
  · refine if_neg fun hh => ?_
    simp only [Bool.and_eq_true, beq_iff_eq] at hh
    rcases hne with hne | hne
    · exact hne hh.1
    · exact Bool.false_ne_true (hne.symm.trans hh.2)
  · rw [engineMark_eq, if_neg]
    intro hc
    exact absurd (hr.symm.trans hc) (by decide)
  · rw [engineMark_eq, settleBoundary_no_visit (s := u) hv, fireSlots_no_visit (s := u) hv, ite_self]
  · rw [engineMark_eq, fireSlots_ignored (s := u) _ hd hi hb, ite_self]
  · have hsilent : ∀ w, u.engine.visit = some w → ∀ n, marks f.origin code (visitTrigger u w n) = none := by
      intro w hw n
      obtain rfl : v = w := Option.some.inj (hv.symm.trans hw)
      exact marks_none (hno n)
    rw [engineMark_eq, settleBoundary_undecided (s := u) hd, fireSlots_silent hsilent, ite_self]
  · have he := (coordMark_eq hl (underWay hr)).trans (engineMark_decides (s := u) hr hv hd hslot ho hlow)
    rw [decideExit_no_mark (s := u) hp] at he
    exact ⟨_, _, next he (acked_quiet h), isExitBoundary_exitBoundaryOf v.entry s.now, rfl⟩
  · have he := (coordMark_eq hl (underWay hr)).trans (engineMark_decides (s := u) hr hv hd hslot ho hlow)
    have hother : (exitAt n target v u).decider ≠ .slot p.slot := fun hc => hne (Decider.slot.inj hc).symm
    obtain ⟨hgiven, hengine, hrest⟩ := decideExit_gives_up (s := u) (QueuesOk.ages hq) hp hl hother v
    refine ⟨_, _, next he ?_, isExitBoundary_exitBoundaryOf v.entry s.now, hgiven, hengine, hrest⟩
    simpa [u, heardMark] using acked_quiet h

end Sys2Proof.Proofs
end

section
/-! Expiries and the fallback deadline (R46, R50, R51, R53, R54). -/

namespace Sys2Proof.Proofs

open Sys2Proof.Machine Sys2Proof.Safety Sys2Proof.Claims

variable {s t : State} {l : Label} {v : Visit} {p : PendingMark} {n : SlotNo} {x : Instant} {c : MarkCode} {target : Target}

/-! ### When an expiry is due -/

theorem timerDue_of (hr : s.engine.runState = .running) (hv : s.engine.visit = some v) (ht : s.engine.timers.get n = some x)
    (hx : x ≤ s.now) : timerDue n s = true := by simp [timerDue, hr, hv, ht, hx]

theorem timerDue_not (h : s.engine.runState ≠ .running ∨ s.engine.visit = none ∨
    ∀ x, s.engine.timers.get n = some x → s.now < x) : timerDue n s = false := by
  rcases h with hr | hv | hx
  · simp [timerDue, hr]
  · simp [timerDue, hv]
  · cases ht : s.engine.timers.get n with
    | none => simp [timerDue, ht]
    | some x => simp [timerDue, ht, Nat.not_le.2 (hx x ht)]

theorem backstopDue_of (hr : s.engine.runState = .running) (hv : s.engine.visit = some v) (hb : s.engine.backstop = some x)
    (hx : x ≤ s.now) : backstopDue s = true := by simp [backstopDue, hr, hv, hb, hx]

theorem backstopDue_not (h : s.engine.runState ≠ .running ∨ s.engine.visit = none ∨
    ∀ x, s.engine.backstop = some x → s.now < x) : backstopDue s = false := by
  rcases h with hr | hv | hx
  · simp [backstopDue, hr]
  · simp [backstopDue, hv]
  · cases hb : s.engine.backstop with
    | none => simp [backstopDue, hb]
    | some x => simp [backstopDue, hb, Nat.not_le.2 (hx x hb)]

/-! ### The state with an expiry spent -/

/-- The timer of a slot is spent. -/
def timerSpent (n : SlotNo) (s : State) : State :=
  { s with engine := { s.engine with timers := setAt s.engine.timers n none } }

/-- The backstop is spent. -/
def backstopSpent (s : State) : State := { s with engine := { s.engine with backstop := none } }

theorem takeTimer_eq {d : Nat} {co : Option MarkCode} (hv : s.engine.visit = some v) (ht : s.engine.timers.get n = some x)
    (hslot : (s.plan.items.states.get v.state).triggers.get n = .timer d target co) :
    takeTimer n s = fireSlot n target co x (timerSpent n s) := by
  have hslot' : visitTrigger (timerSpent n s) v n = .timer d target co := hslot
  have hspent : (s.modEngine fun g => { g with timers := setAt g.timers n none }) = timerSpent n s := rfl
  simp only [takeTimer, hv, ht, hspent, hslot']

theorem takeBackstop_eq (hv : s.engine.visit = some v) (hb : s.engine.backstop = some x) :
    takeBackstop s =
      present .backstop (s.plan.items.states.get v.state).control.backstopTarget x false (backstopSpent s) := by
  simp only [takeBackstop, hv, hb]
  rfl

theorem exec_timerExpiry {d : Nat} {co : Option MarkCode} (hr : s.engine.runState = .running) (hv : s.engine.visit = some v)
    (ht : s.engine.timers.get n = some x) (hx : x ≤ s.now)
    (hslot : (s.plan.items.states.get v.state).triggers.get n = .timer d target co)
    (he : fireSlot n target co x (timerSpent n s) = t) (hq : t.link.notices = []) :
    exec (.timerExpiry n) s = .next t := by
  show Host.Outcome.next (if timerDue n s then settle (takeTimer n s) else s) = .next t
  rw [if_pos (timerDue_of hr hv ht hx), takeTimer_eq hv ht hslot, he, settle_of_quiet t hq]

theorem exec_backstopExpiry (hr : s.engine.runState = .running) (hv : s.engine.visit = some v)
    (hb : s.engine.backstop = some x) (hx : x ≤ s.now)
    (he : present .backstop (s.plan.items.states.get v.state).control.backstopTarget x false (backstopSpent s) = t)
    (hq : t.link.notices = []) : exec .backstopExpiry s = .next t := by
  show Host.Outcome.next (if backstopDue s then settle (takeBackstop s) else s) = .next t
  rw [if_pos (backstopDue_of hr hv hb hx), takeBackstop_eq hv hb, he, settle_of_quiet t hq]

/-! ### The condition of a coordinated trigger (R51) -/

/-- The mark that a coordinated condition of slot `n` leaves pending. -/
def newMark (n : SlotNo) (c : MarkCode) (x : Instant) (s : State) : PendingMark :=
  { slot := n, code := c, detection := x, onWire := false, age := s.link.nextAge }

/-- The coordinated condition queues its MARK and waits. -/
def awaitMark (n : SlotNo) (c : MarkCode) (x : Instant) (s : State) : State :=
  queueMark c x { s with engine := { s.engine with pendingMark := some (newMark n c x s) } }

theorem coordinatedCondition_spent (h : s.engine.decided ≠ none ∨ s.engine.pendingFallback ≠ none) :
    coordinatedCondition n c x s = s := by
  have h' : s.engine.decided.isSome = true ∨ s.engine.pendingFallback.isSome = true := by
    simpa only [Option.isSome_iff_ne_none] using h
  rcases h' with h' | h' <;> simp [coordinatedCondition, h']

theorem coordinatedCondition_alone (hv : s.engine.visit = some v) (hd : s.engine.decided = none)
    (hf : s.engine.pendingFallback = none) (hp : s.engine.pendingMark = none) :
    coordinatedCondition n c x s = awaitMark n c x s := by
  simp [coordinatedCondition, hv, hd, hf, hp]
  rfl

theorem coordinatedCondition_replaces (hv : s.engine.visit = some v) (hd : s.engine.decided = none)
    (hf : s.engine.pendingFallback = none) (hp : s.engine.pendingMark = some p) (hx : p.detection = x) (hn : n < p.slot)
    (hw : p.onWire = false) : coordinatedCondition n c x s = awaitMark n c x (giveUpMark s) := by
  simp [coordinatedCondition, hv, hd, hf, hp, hx, hn, hw, awaitMark, newMark, State.modEngine]

theorem coordinatedCondition_stands (hp : s.engine.pendingMark = some p)
    (h : ¬(p.detection = x ∧ n < p.slot ∧ p.onWire = false)) : coordinatedCondition n c x s = s := by
  unfold coordinatedCondition
  dsimp only
  split
  · rfl
  · simp only [hp]
    exact if_neg h

/-- What a coordinated condition leaves when its MARK finds a place. -/
theorem awaitMark_room (h : Room s) (hl : s.engine.runLabel = some l) :
    awaitMark n c x s = { s with
      engine := { s.engine with pendingMark := some (newMark n c x s) }
      link := { s.link with
        nextAge := s.link.nextAge + 1
        tx := insertByPriority (newEntry (groupFrame (.mark l c x) .engine) s) s.link.tx } } :=
  queueMark_room (s := { s with engine := { s.engine with pendingMark := some (newMark n c x s) } }) h hl c x

/-! ### Two triggers at one instant (R50) -/

theorem ranksBefore_total {a b : Decider} (ha : a ≠ .stop) (hb : b ≠ .stop) (hne : a ≠ b) :
    ranksBefore a b = !ranksBefore b a := by
  cases a with
  | stop => exact absurd rfl ha
  | backstop =>
    cases b with
    | stop => exact absurd rfl hb
    | backstop => exact absurd rfl hne
    | slot m => rfl
  | slot n =>
    cases b with
    | stop => exact absurd rfl hb
    | backstop => rfl
    | slot m =>
      have hnm : n ≠ m := fun h => hne (congrArg Decider.slot h)
      rcases lt_or_gt_of_ne hnm with h | h <;> simp [ranksBefore, h, h.le]

/-- The visit `v` with the exit decided by `a`, nothing else of the state `s` changed. -/
def decidedBy (a : Decider) (target : Target) (x : Instant) (v : Visit) (s : State) : State :=
  { s with
    engine := { s.engine with
      decided := some { instant := x, decider := a, target := some target, boundary := exitBoundaryOf v.entry x }
      visit := some { v with uncoordinated := false } } }

theorem present_decidedBy (hv : s.engine.visit = some v) (hd : s.engine.decided = none) (hp : s.engine.pendingMark = none)
    (a : Decider) : present a target x false s = decidedBy a target x v s := by
  rw [present_undecided hv hd, decideExit_no_mark hp]
  rfl

theorem present_behind (hp : s.engine.pendingMark = none) (a b : Decider) (ta tb : Target) :
    present b tb x false (decidedBy a ta x v s) =
      if ranksBefore b a = true then decidedBy b tb x v s else decidedBy a ta x v s := by
  split
  · next h =>
    rw [present_ranked (s := decidedBy a ta x v s) rfl rfl rfl h, decideExit_no_mark (s := decidedBy a ta x v s) hp]
    rfl
  · next h => exact present_spent (s := decidedBy a ta x v s) rfl (fun _ => by simpa using h) tb false

/-- Of two triggers at one instant the same one decides, whichever is presented first. -/
theorem present_comm {a b : Decider} (ha : a ≠ .stop) (hb : b ≠ .stop) (hne : a ≠ b) (hd : s.engine.decided = none)
    (hp : s.engine.pendingMark = none) (ta tb : Target) :
    present b tb x false (present a ta x false s) = present a ta x false (present b tb x false s) := by
  cases hv : s.engine.visit with
  | none => simp only [present_no_visit hv]
  | some v =>
    rw [present_decidedBy hv hd hp, present_decidedBy hv hd hp, present_behind hp, present_behind hp,
      ranksBefore_total ha hb hne]
    cases ranksBefore b a <;> rfl

/-- Of two triggers at one instant the one that ranks first decides, whichever is presented first. -/
theorem present_first {a b : Decider} (hr : ranksBefore a b = true) (hr' : ranksBefore b a = false)
    (hv : s.engine.visit = some v) (hd : s.engine.decided = none) (hp : s.engine.pendingMark = none) (ta tb : Target) :
    present b tb x false (present a ta x false s) = decidedBy a ta x v s ∧
      present a ta x false (present b tb x false s) = decidedBy a ta x v s := by
  simp [present_decidedBy hv hd hp, present_behind hp, hr, hr']

/-! ### The expiries -/

/-- An expiry of a slot without a code with nothing decided decides the exit; with a decided one of another instant it is
only spent. -/
theorem timerExpiry_plain {d : Nat} (hq : Quiet s) (hr : s.engine.runState = .running) (hv : s.engine.visit = some v)
    (ht : s.engine.timers.get n = some x) (hx : x ≤ s.now)
    (hslot : (s.plan.items.states.get v.state).triggers.get n = .timer d target none) :
    (s.engine.decided = none → s.engine.pendingMark = none →
      exec (.timerExpiry n) s = .next (decidedBy (.slot n) target x v (timerSpent n s))) ∧
    (∀ old, s.engine.decided = some old → old.instant ≠ x → exec (.timerExpiry n) s = .next (timerSpent n s)) := by
  refine ⟨fun hd hp => ?_, fun old hd hne => ?_⟩
  · exact exec_timerExpiry hr hv ht hx hslot (present_decidedBy (s := timerSpent n s) hv hd hp _) hq
  · exact exec_timerExpiry hr hv ht hx hslot
      (present_spent (s := timerSpent n s) hd (fun h => absurd h hne) target false) hq

theorem backstopExpiry_plain (hq : Quiet s) (hr : s.engine.runState = .running) (hv : s.engine.visit = some v)
    (hb : s.engine.backstop = some x) (hx : x ≤ s.now) :
    (s.engine.decided = none → s.engine.pendingMark = none →
      exec .backstopExpiry s =
        .next (decidedBy .backstop (s.plan.items.states.get v.state).control.backstopTarget x v (backstopSpent s))) ∧
    (∀ old, s.engine.decided = some old → exec .backstopExpiry s = .next (backstopSpent s)) := by
  refine ⟨fun hd hp => ?_, fun old hd => ?_⟩
  · exact exec_backstopExpiry hr hv hb hx (present_decidedBy (s := backstopSpent s) hv hd hp _) hq
  · exact exec_backstopExpiry hr hv hb hx (present_spent (s := backstopSpent s) hd (fun _ => rfl) _ false) hq

/-- An expiry of a coordinated slot with no mark pending. -/
theorem timerExpiry_coordinated {d : Nat} (hq : Quiet s) (hroom : Room s) (hr : s.engine.runState = .running)
    (hv : s.engine.visit = some v) (ht : s.engine.timers.get n = some x) (hx : x ≤ s.now)
    (hslot : (s.plan.items.states.get v.state).triggers.get n = .timer d target (some c))
    (hl : s.engine.runLabel = some l) :
    (s.engine.decided = none → s.engine.pendingMark = none → s.engine.pendingFallback = none →
      ∃ t, exec (.timerExpiry n) s = .next t ∧
        t.engine = { s.engine with timers := setAt s.engine.timers n none, pendingMark := some (newMark n c x s) } ∧
        Inserted (newEntry (groupFrame (.mark l c x) .engine) s) s.link.tx t.link.tx ∧
        t = { s with engine := t.engine, link := t.link }) ∧
    (s.engine.decided ≠ none ∨ s.engine.pendingFallback ≠ none → exec (.timerExpiry n) s = .next (timerSpent n s)) := by
  refine ⟨fun hd hp hf => ?_, fun h => ?_⟩
  · have he : fireSlot n target (some c) x (timerSpent n s) = _ :=
      (coordinatedCondition_alone (s := timerSpent n s) hv hd hf hp).trans (awaitMark_room (s := timerSpent n s) hroom hl)
    exact ⟨_, exec_timerExpiry hr hv ht hx hslot he hq, rfl, inserted_insertByPriority _ _, rfl⟩
  · exact exec_timerExpiry hr hv ht hx hslot (coordinatedCondition_spent (s := timerSpent n s) h) hq

/-- An expiry of a coordinated slot with the mark `p` pending: it takes the place of a later-ranking one of its own instant
that still waits, and is ignored else (R51). -/
theorem timerExpiry_replaces {d : Nat} (hq : Quiet s) (hqueue : QueuesOk s) (hr : s.engine.runState = .running)
    (hv : s.engine.visit = some v) (ht : s.engine.timers.get n = some x) (hx : x ≤ s.now)
    (hslot : (s.plan.items.states.get v.state).triggers.get n = .timer d target (some c))
    (hl : s.engine.runLabel = some l) (hd : s.engine.decided = none) (hf : s.engine.pendingFallback = none)
    (hp : s.engine.pendingMark = some p) (hdet : p.detection = x) (hn : n < p.slot) (hw : p.onWire = false)
    (hwait : ∃ e ∈ s.link.tx, e.age = p.age ∧ e.begun = false) :
    ∃ t, exec (.timerExpiry n) s = .next t ∧
      t.engine = { s.engine with timers := setAt s.engine.timers n none, pendingMark := some (newMark n c x s) } ∧
      Inserted (newEntry (groupFrame (.mark l c x) .engine) s) (s.link.tx.filter fun u => u.age ≠ p.age) t.link.tx ∧
      t.store = (storeEvent l (.markSent p.code p.detection .dropped none) s).store ∧
      t = { s with engine := t.engine, link := t.link, store := t.store } := by
  have hgone := (givenUp_giveUpMark (s := s) (u := timerSpent n s) (QueuesOk.ages hqueue) hp hl hl rfl rfl rfl rfl).2.1 hwait
  obtain ⟨hlink, hstore⟩ := hgone
  have hnew : newMark n c x (giveUpMark (timerSpent n s)) = newMark n c x s := by simp [newMark, timerSpent]
  have hentry : newEntry (groupFrame (.mark l c x) .engine) (giveUpMark (timerSpent n s)) =
      newEntry (groupFrame (.mark l c x) .engine) s := by simp [newEntry, timerSpent]
  have hroom : Room (giveUpMark (timerSpent n s)) := by
    obtain ⟨e, he, hage, -⟩ := hwait
    rw [Room, hlink, ← hage]
    exact free_of_removed hqueue he
  have hcond := coordinatedCondition_replaces (s := timerSpent n s) (n := n) (c := c) (x := x) hv hd hf hp hdet hn hw
  have he : fireSlot n target (some c) x (timerSpent n s) = _ :=
    hcond.trans (awaitMark_room hroom (by simpa [timerSpent] using hl))
  refine ⟨_, exec_timerExpiry hr hv ht hx hslot he ?_, ?_, ?_, hstore, ?_⟩
  · simpa [timerSpent, Quiet] using hq
  · rw [hnew, giveUpMark_eq]
    rfl
  · simp only [hentry, hlink]
    exact inserted_insertByPriority _ _
  · rw [giveUpMark_eq]
    rfl

/-- Settles O36: each expiry by its slot's code and by what is decided or pending; equal instants by the order of R50. -/
theorem expiriesDecideTheExit : Obligations.ExpiriesDecideTheExit := by
  unfold Obligations.ExpiriesDecideTheExit
  refine ⟨⟨fun n s h => ?_, fun s h => ?_, fun n v x d target s hq hr hv ht hx hslot => ?_,
      fun v x s hq hr hv hb hx => ?_, fun n v x d target code l s hq hroom hr hv ht hx hslot hl => ?_⟩,
    fun n v x d target code p l s hq hqueue hr hv ht hx hslot hl hd hf hp => ⟨fun hdet hn hw hwait => ?_, fun h => ?_⟩,
    fun n v x d target p l s hq hqueue hr hv ht hx hslot hl hd hp hne => ?_,
    fun v x p l s hq hqueue hr hv hb hx hl hd hp => ?_,
    fun a b ta tb x s ha hb hne hd hp => present_comm ha hb hne hd hp ta tb,
    fun n b v ta tb x s hb hv hd hp => ?_⟩
  · show Host.Outcome.next (if timerDue n s then settle (takeTimer n s) else s) = .next s
    simp [timerDue_not h]
  · show Host.Outcome.next (if backstopDue s then settle (takeBackstop s) else s) = .next s
    simp [backstopDue_not h]
  · obtain ⟨hdecides, hspent⟩ := timerExpiry_plain hq hr hv ht hx hslot
    exact ⟨fun hd hp => ⟨_, _, hdecides hd hp, isExitBoundary_exitBoundaryOf v.entry x, rfl⟩, hspent⟩
  · obtain ⟨hdecides, hspent⟩ := backstopExpiry_plain hq hr hv hb hx
    exact ⟨fun hd hp => ⟨_, _, hdecides hd hp, isExitBoundary_exitBoundaryOf v.entry x, rfl⟩, hspent⟩
  · exact timerExpiry_coordinated hq hroom hr hv ht hx hslot hl
  · exact timerExpiry_replaces hq hqueue hr hv ht hx hslot hl hd hf hp hdet hn hw hwait
  · refine exec_timerExpiry hr hv ht hx hslot (coordinatedCondition_stands (s := timerSpent n s) hp ?_) hq
    rintro ⟨hdet, hn, hw⟩
    rcases h with h | h | h
    · exact absurd hdet h.ne
    · exact absurd hn (not_lt.2 h.le)
    · simp [h] at hw
  · have he := present_undecided (s := timerSpent n s) hv hd (.slot n) target x false
    obtain ⟨hgiven, hengine, hrest⟩ := decideExit_gives_up (s := timerSpent n s) (QueuesOk.ages hqueue) hp hl
      (d := { instant := x, decider := .slot n, target := some target, boundary := exitBoundaryOf v.entry x })
      (fun hc => hne (Decider.slot.inj hc).symm) v
    refine ⟨_, _, exec_timerExpiry hr hv ht hx hslot he ?_, isExitBoundary_exitBoundaryOf v.entry x, ?_, hengine, hrest⟩
    · simpa [timerSpent, Quiet] using hq
    · obtain ⟨hnone, hwaits, hbegun⟩ := hgiven
      exact ⟨hnone, fun hw => ⟨(hwaits hw).1, (hwaits hw).2.trans (storeEvent_store_of l _ rfl rfl rfl rfl)⟩, hbegun⟩
  · have he := present_undecided (s := backstopSpent s) hv hd .backstop
      (s.plan.items.states.get v.state).control.backstopTarget x false
    obtain ⟨hgiven, hengine, hrest⟩ := decideExit_gives_up (s := backstopSpent s) (QueuesOk.ages hqueue) hp hl
      (d := { instant := x, decider := .backstop, target := some (s.plan.items.states.get v.state).control.backstopTarget,
              boundary := exitBoundaryOf v.entry x }) (by simp) v
    refine ⟨_, _, exec_backstopExpiry hr hv hb hx he ?_, isExitBoundary_exitBoundaryOf v.entry x, ?_, hengine, hrest⟩
    · simpa [backstopSpent, Quiet] using hq
    · obtain ⟨hnone, hwaits, hbegun⟩ := hgiven
      exact ⟨hnone, fun hw => ⟨(hwaits hw).1, (hwaits hw).2.trans (storeEvent_store_of l _ rfl rfl rfl rfl)⟩, hbegun⟩
  · have hranks : ranksBefore (.slot n) b = true ∧ ranksBefore b (.slot n) = false := by
      rcases hb with rfl | ⟨m, rfl, hm⟩
      · exact ⟨rfl, rfl⟩
      · simp [ranksBefore, hm, hm.le]
    obtain ⟨hfirst, hsecond⟩ := present_first (x := x) hranks.1 hranks.2 hv hd hp ta tb
    refine ⟨_, isExitBoundary_exitBoundaryOf v.entry x, ?_, ?_⟩
    · rw [hfirst]
      rfl
    · rw [hsecond]
      rfl

/-! ### The fallback deadline (R53) -/

/-- The state with the exit decided at a fallback instant. -/
def uncoordinatedExit (d : DecidedExit) (v : Visit) (s : State) : State :=
  { s with
    engine := { s.engine with decided := some d, visit := some { v with uncoordinated := true } }
    status := { s.status with latch := { s.status.latch with markUncoordinated := true } } }

theorem decideExit_fallback (h : s.engine.pendingMark = none) (d : DecidedExit) (v : Visit) :
    decideExit d v true s = uncoordinatedExit d v s := by
  simp [decideExit, h, State.modEngine, State.latch, uncoordinatedExit]
  rfl

/-- The exit that a fallback decides from slot `n`. -/
def fallbackExit (n : SlotNo) (x : Instant) (v : Visit) (s : State) : DecidedExit :=
  { instant := x, decider := .slot n
    target := some (triggerTarget ((s.plan.items.states.get v.state).triggers.get n)),
    boundary := exitBoundaryOf v.entry x }

/-- What a fallback deadline leaves, where nothing is decided. -/
theorem takeFallback_eq (hv : s.engine.visit = some v) (hd : s.engine.decided = none)
    (hf : fallbackInstant s = some (n, x)) :
    takeFallback s = uncoordinatedExit (fallbackExit n x v s) v
      ((giveUpMark s).modEngine fun g => { g with pendingFallback := none }) := by
  have hv' : ((giveUpMark s).modEngine fun g => { g with pendingFallback := none }).engine.visit = some v :=
    by simpa using hv
  have hd' : ((giveUpMark s).modEngine fun g => { g with pendingFallback := none }).engine.decided = none :=
    by simpa using hd
  have hp' : ((giveUpMark s).modEngine fun g => { g with pendingFallback := none }).engine.pendingMark = none := by
    rw [giveUpMark_eq]
    rfl
  have htarget : visitTrigger ((giveUpMark s).modEngine fun g => { g with pendingFallback := none }) v n =
      (s.plan.items.states.get v.state).triggers.get n := by simp [visitTrigger, State.stateItems]
  simp only [takeFallback, hv, hf]
  rw [present_undecided hv' hd', decideExit_fallback hp', htarget]
  rfl

theorem exec_fallbackDeadline (hr : s.engine.runState = .running) (hv : s.engine.visit = some v)
    (hf : fallbackInstant s = some (n, x)) (hx : x ≤ s.now) (he : takeFallback s = t) (hq : t.link.notices = []) :
    exec .fallbackDeadline s = .next t := by
  have hdue : fallbackDue s = true := by simp [fallbackDue, hr, hv, hf, hx]
  show Host.Outcome.next (if fallbackDue s then settle (takeFallback s) else s) = .next t
  rw [if_pos hdue, he, settle_of_quiet t hq]

theorem exec_fallbackDeadline_early (h : fallbackDue s = false) : exec .fallbackDeadline s = .next s := by
  show Host.Outcome.next (if fallbackDue s then settle (takeFallback s) else s) = .next s
  simp [h]

/-- Settles O38: by the deadline of a pending mark and of a pending fallback. -/
theorem fallbackDecidesUncoordinated : Obligations.FallbackDecidesUncoordinated := by
  unfold Obligations.FallbackDecidesUncoordinated
  refine ⟨fun s h => exec_fallbackDeadline_early ?_, fun p s hp hx => exec_fallbackDeadline_early ?_,
    fun p s hp hf hx => exec_fallbackDeadline_early ?_, fun v p s hq hqueue hr hv hp hx hd => ?_,
    fun v p s hq hr hv hp hf hx hd => ?_⟩
  · rcases h with hr | hv | ⟨hp, hf⟩
    · simp [fallbackDue, hr]
    · simp [fallbackDue, hv]
    · simp [fallbackDue, fallbackInstant, hp, hf]
  · have hx' : ¬p.detection + Config.fallbackDelay ≤ s.now := Nat.not_le.2 hx
    simp [fallbackDue, fallbackInstant, hp, hx']
  · simp [fallbackDue, fallbackInstant, hp, hf, Nat.not_le.2 hx]
  · have hf : fallbackInstant s = some (p.slot, p.detection + 20000) := by
      simp [fallbackInstant, hp, Config.fallbackDelay]
    refine ⟨_, _, exec_fallbackDeadline hr hv hf hx (takeFallback_eq hv hd hf) ?_, isExitBoundary_exitBoundaryOf v.entry _,
      ?_, ?_, fun l hl => ?_, ?_, ?_⟩
    · simpa [uncoordinatedExit, Quiet] using hq
    · rw [giveUpMark_eq]
      rfl
    · rw [giveUpMark_eq]
      rfl
    · have hgiven := givenUp_giveUpMark (s := s) (u := s) (QueuesOk.ages hqueue) hp hl hl rfl rfl rfl rfl
      refine ⟨⟨by rw [giveUpMark_eq]; rfl, hgiven.2⟩, fun e he hage => ?_⟩
      by_contra hb
      have he' : e ∈ (giveUpMark s).link.tx := he
      have hm : e ∈ s.link.tx := (giveUpMark_tx_sublist s).subset he'
      rw [(hgiven.2.1 ⟨e, hm, hage, by simpa using hb⟩).1] at he'
      simp [hage] at he'
    · exact fun e he => (giveUpMark_tx_sublist s).subset he
    · rw [giveUpMark_eq]
      rfl
  · have hfi : fallbackInstant s = some (p.slot, p.instant) := by simp [fallbackInstant, hp, hf]
    have he := takeFallback_eq hv hd hfi
    rw [giveUpMark_none hp] at he
    exact ⟨_, _, exec_fallbackDeadline hr hv hfi hx he hq, isExitBoundary_exitBoundaryOf v.entry _, rfl⟩

end Sys2Proof.Proofs
end

section
/-! The frame instant of the part's own MARK (R48, R52, R122, R145). -/

namespace Sys2Proof.Proofs

open Sys2Proof.Machine Sys2Proof.Safety Sys2Proof.Claims

variable {s t : State} {e : TxEntry} {l : Label} {v : Visit} {p : PendingMark} {n m : SlotNo} {x : Instant} {c : MarkCode}
  {target : Target} {o : StationNo} {d : Instant}

/-! ### The frame on the wire at its frame instant -/

/-- The frame has left the queue, with the sender's own bit in the roll-call field (R121, R122). -/
def sentFrame (e : TxEntry) (own : Bool) (s : State) : State :=
  { s with link := { s.link with
      tx := s.link.tx.filter fun u => u.age ≠ e.age
      drive := { ack := false, busy := false, rollBit := own } } }

theorem exec_frameOutcome (hq : QueuesOk s) (he : e ∈ s.link.tx) (hw : e.onWire = true) (ack busy : Bool)
    (answers : BitVec 16) :
    exec (.frameOutcome ack busy answers) s = .next (settle (frameEnded e (outcomeOf e.frame.body ack busy)
      (mapRead answers (ownRollBit e.frame.body s) s) (sentFrame e (ownRollBit e.frame.body s) s))) := by
  show Host.Outcome.next (takeFrameOutcome ack busy answers s) = _
  simp only [takeFrameOutcome, onWireEntry_mem hq he hw, removeEntry, removeAge_eq]
  rfl

theorem exec_frameOutcome_none (h : ∀ e ∈ s.link.tx, e.onWire = false) (ack busy : Bool) (answers : BitVec 16) :
    exec (.frameOutcome ack busy answers) s = .next s := by
  show Host.Outcome.next (takeFrameOutcome ack busy answers s) = _
  simp only [takeFrameOutcome, onWireEntry_none h]

/-! ### One event at the slots, over an exit that this instant has decided -/

/-- Of the slots that an event reaches one is the first. -/
theorem exists_first {f : SlotNo → Prop} (h : ∃ n, f n) : ∃ n, f n ∧ ∀ k, k < n → ¬f k := by
  obtain ⟨n, hn, hmin⟩ := wellFounded_lt.has_min {n | f n} h
  exact ⟨n, hn, fun k hk hf => hmin k hf hk⟩

/-- The station's own MARK at the slots of a visit whose exit slot `m` decided at this instant: the first slot below `m`
that listens takes its place, and with none the exit stands. -/
theorem fireSlots_marks_decidedBy (hp : s.engine.pendingMark = none) :
    ∃ n t, fireSlots (marks o c) x (decidedBy (.slot m) target x v s) = decidedBy (.slot n) t x v s ∧ n ≤ m ∧
      ((n = m ∧ t = target) ∨
        ∃ from?, (s.stateItems v.state).triggers.get n = .mark c from? t ∧ (from? = none ∨ from? = some o)) ∧
      ∀ k from? t', k < n → (from? = none ∨ from? = some o) → (s.stateItems v.state).triggers.get k ≠ .mark c from? t' := by
  have silent_of {k : SlotNo} (h : ¬∃ from? t', (s.stateItems v.state).triggers.get k = .mark c from? t' ∧
      (from? = none ∨ from? = some o)) : ∀ from? t', (from? = none ∨ from? = some o) →
      (s.stateItems v.state).triggers.get k ≠ .mark c from? t' := fun from? t' ho hk => h ⟨from?, t', hk, ho⟩
  by_cases hex : ∃ k, ∃ from? t', (s.stateItems v.state).triggers.get k = .mark c from? t' ∧ (from? = none ∨ from? = some o)
  · obtain ⟨k, ⟨from?, t, hk, ho⟩, hlow⟩ := exists_first hex
    have hfire : fireSlots (marks o c) x (decidedBy (.slot m) target x v s) =
        present (.slot k) t x false (decidedBy (.slot m) target x v s) :=
      fireSlots_first (s := decidedBy (.slot m) target x v s) rfl ((congrArg (marks o c) hk).trans (marks_listens ho t))
        (fun j hj => marks_none (hlow j hj)) x
    rw [hfire, present_behind hp]
    by_cases hkm : k < m
    · exact ⟨k, t, by simp [ranksBefore, hkm], hkm.le, .inr ⟨from?, hk, ho⟩,
        fun j from? t' hj ho => silent_of (hlow j hj) from? t' ho⟩
    · exact ⟨m, target, by simp [ranksBefore, hkm], le_rfl, .inl ⟨rfl, rfl⟩,
        fun j from? t' hj ho => silent_of (hlow j (hj.trans_le (not_lt.1 hkm))) from? t' ho⟩
  · have hnone : ∀ k, ¬∃ from? t', (s.stateItems v.state).triggers.get k = .mark c from? t' ∧
        (from? = none ∨ from? = some o) := fun k hk => hex ⟨k, hk⟩
    have hfire : fireSlots (marks o c) x (decidedBy (.slot m) target x v s) = decidedBy (.slot m) target x v s := by
      refine fireSlots_silent (fun w hw k => ?_) x
      obtain rfl : { v with uncoordinated := false } = w := Option.some.inj hw
      exact marks_none (hnone k)
    exact ⟨m, target, hfire, le_rfl, .inl ⟨rfl, rfl⟩, fun j from? t' _ ho => silent_of (hnone j) from? t' ho⟩

/-! ### The pending coordinated mark -/

/-- The record of a mark's outcome stands in the store `st`, and no mark is pending. -/
def markSent (st : Store) (s : State) : State :=
  { s with store := st, engine := { s.engine with pendingMark := none } }

/-- What a frame instant makes of the pending coordinated mark: its record, and the exit decided from its slot. -/
def markSettled (p : PendingMark) (v : Visit) (st : Store) (s : State) : State :=
  decidedBy (.slot p.slot) (triggerTarget ((s.stateItems v.state).triggers.get p.slot)) s.now v (markSent st s)

theorem markOutcome_heard (hp : s.engine.pendingMark = some p) (ha : p.age = e.age) (hv : s.engine.visit = some v)
    (hd : s.engine.decided = none) {out : FrameOutcome} (ho : out = .delivered ∨ out = .unheard) :
    markOutcome e.age l c d out s =
      markSettled p v (storeEvent l (.markSent c d out (some s.now)) s).store s := by
  have hheard : (out == .delivered || out == .unheard) = true := by rcases ho with rfl | rfl <;> rfl
  simp only [markOutcome, hheard, if_true, logMark]
  rw [storeEvent_eq]
  simp only [hp, ha, if_true]
  split
  · next w hw =>
    obtain rfl : v = w := Option.some.inj (hv.symm.trans hw)
    exact present_decidedBy (s := markSent _ s) hv hd rfl _
  · next hw => exact absurd (hv.symm.trans hw) (by simp)

/-- Settles O9: the mark's slot decides, then the station's own MARK slots hear the mark. -/
theorem coordinatedMarkDecidesTheExit : Obligations.CoordinatedMarkDecidesTheExit := by
  unfold Obligations.CoordinatedMarkDecidesTheExit
  intro e p v l c d ack busy answers s hqueue hq he hw hb hp ha hv hd hr hl
  have hown : ownRollBit e.frame.body s = false := by rw [hb]; rfl
  have hout : outcomeOf e.frame.body ack busy = if ack = true then .delivered else .unheard := by simp [hb, outcomeOf]
  have hheard : (if ack = true then FrameOutcome.delivered else .unheard) = .delivered ∨
      (if ack = true then FrameOutcome.delivered else .unheard) = .unheard := by cases ack <;> simp
  have hexec := exec_frameOutcome hqueue he hw ack busy answers
  rw [hown, hout] at hexec
  generalize (if ack = true then FrameOutcome.delivered else .unheard) = out at hexec hheard ⊢
  let st : Store := (storeEvent l (.markSent c d out (some s.now)) s).store
  have hst : (storeEvent l (.markSent c d out (some (sentFrame e false s).now)) (sentFrame e false s)).store = st :=
    storeEvent_store_of l _ rfl rfl rfl rfl
  have hmark := markOutcome_heard (s := sentFrame e false s) (l := l) (c := c) (d := d) hp ha hv hd hheard
  rw [hst] at hmark
  let u : State := markSettled p v st (sentFrame e false s)
  have hended : frameEnded e out (mapRead answers false s) (sentFrame e false s) = engineMark s.own c u := by
    have hl' : u.engine.runLabel = some l := hl
    have hown' : (sentFrame e false s).own = s.own := rfl
    simp only [frameEnded, hb]
    rw [hmark, if_pos (by simpa [u] using hl')]
    rfl
  have hengine : engineMark s.own c u = fireSlots (marks s.own c) s.now u := by
    have hr' : u.engine.runState = .running := hr
    rw [engineMark_eq, if_pos hr', settleBoundary_at (s := u) rfl rfl]
    rfl
  obtain ⟨n, t, hfire, hle, hn, hlow⟩ := fireSlots_marks_decidedBy (o := s.own) (c := c) (x := s.now) (m := p.slot) (v := v)
    (target := triggerTarget ((s.stateItems v.state).triggers.get p.slot))
    (s := markSent st (sentFrame e false s)) rfl
  have htarget : t = triggerTarget ((s.stateItems v.state).triggers.get n) := by
    rcases hn with ⟨rfl, rfl⟩ | ⟨from?, hk, -⟩
    · rfl
    · exact (congrArg triggerTarget hk).symm
  have hquiet : (decidedBy (.slot n) t s.now v (markSent st (sentFrame e false s))).link.notices = [] := hq
  rw [hended, hengine, show fireSlots (marks s.own c) s.now u = _ from hfire, settle_of_quiet _ hquiet] at hexec
  refine ⟨_, _, hexec, rfl, rfl, ⟨n, rfl, hle, congrArg some htarget, ?_, fun k origin t' hk ho => hlow k origin t' hk ho⟩,
    isExitBoundary_exitBoundaryOf v.entry s.now, rfl, rfl, rfl, rfl, rfl⟩
  rcases hn with ⟨rfl, -⟩ | ⟨from?, hk, ho⟩
  · exact .inl rfl
  · exact .inr ⟨from?, t, hk, ho⟩

end Sys2Proof.Proofs
end

section
/-! An accepted change in a visit (R47, R54): refuted. -/

namespace Sys2Proof.Proofs

open Sys2Proof.Machine Sys2Proof.Safety Sys2Proof.Claims

/-- A waiting reply of another block. -/
def waitingReply (age : Nat) : TxEntry :=
  { frame := { dest := some 1, tag := 0, body := .reply 16 [], owner := .statusUnit }, age := age
    begun := false, onWire := false }

/-- A waiting read of station 3. -/
def waitingRead (age : Nat) (tag : Byte) : TxEntry :=
  { frame := { dest := some 3, tag := tag, body := .recordRead 5 0, owner := .gatherEngine }, age := age
    begun := false, onWire := false }

/-- A HALT gather that awaits its read of station 3, with a requester to be told of its end. -/
def haltingCursor : Cursor where
  label := 5
  sweepSet := Vector.replicate 16 true
  waitPending := false
  haltSilence := true
  merge := false
  requester := some (1, 0)
  station := some 3
  index := 0
  notYetSince := none
  readTag := some 1
  deadline := none
  repeatAt := none

/-- The visit in which the change is accepted. -/
def openVisit : Visit := { state := 0, number := 1, entry := 1000, uncoordinated := false }

/-- A pending mark whose frame is not in the queue, and whose age is that of the second frame placed from now. -/
def strayMark : PendingMark := { slot := 2, code := 9, detection := 2000, onWire := false, age := 9 }

/-- BI4 is about to operate at t = 2050 in a visit whose state has an INPUT slot and a STATE-MARKS code for it, with a full
transmit queue whose youngest entry of the lowest priority is the outstanding read of a HALT gather. -/
def fullQueueState : State :=
  { State.reset with
    plan :=
      { PlanMemory.emptied with
        items := { PlanItems.initial with
          states := modAt PlanItems.initial.states 0 fun x =>
            { x with triggers := setAt x.triggers 1 (.input 3 .operate .endRun none), marks := setAt x.marks 3 (some 7) } } }
    engine := { Engine.initial with
      runState := .running, runLabel := some 5, visit := some openVisit, visitCount := 1, pendingMark := some strayMark }
    cond :=
      { count := 5000
        inputs := Vector.replicate 8
          { raw := true, accepted := false, candidate := some 4000, history := [], lockout := none } }
    clock := { Clock.initial with running := true, now := 2050 }
    link := { State.reset.link with
      state := .online
      tx := [waitingReply 0, waitingReply 1, waitingReply 2, waitingReply 3, waitingReply 4, waitingReply 5,
        waitingRead 6 0, waitingRead 7 1]
      nextAge := 8
      outstanding := some { station := 3, tag := 1 } }
    gather := { GatherEngine.initial with state := .sweeping, cursor := some haltingCursor } }

/-- The first-operate mark takes the place of the gather's read, and the GATHER-DONE that the silent read brings on gets
the age of the stray pending mark. -/
theorem fullQueueState_leaves_waiting :
    ¬∀ e ∈ (settle (settleCandidate 3 fullQueueState)).link.tx, e.age = strayMark.age → e.begun = true := by
  decide +kernel
theorem queuesOk_fullQueueState : QueuesOk fullQueueState := by
  unfold QueuesOk
  refine ⟨by decide +kernel, by decide +kernel, by decide +kernel, by decide +kernel, by decide +kernel, by decide +kernel,
     by decide +kernel, fun a ha => ?_⟩
  rcases ha with ha | ha | ha <;> cases ha

/-- Refutes O46: with a pending mark whose age is not below the next age, a frame that is placed when the change has pushed
an entry out of a full queue can stand waiting under that age. -/
theorem not_acceptedChangeInAVisit : ¬Obligations.AcceptedChangeInAVisit := by
  rintro ⟨-, -, hgiven, -⟩
  obtain ⟨t, ht, hslot⟩ := hgiven 3 4000 openVisit strayMark fullQueueState rfl queuesOk_fullQueueState (by decide +kernel)
    (by decide +kernel) (by decide +kernel) rfl nofun rfl rfl rfl (by decide +kernel)
  obtain rfl : settle (settleCandidate 3 fullQueueState) = t := Host.Outcome.next.inj ht
  have hlowest : ∀ k : SlotNo, k < 1 → ¬∃ target coord,
      (fullQueueState.plan.items.states.get openVisit.state).triggers.get k = .input 3 .operate target coord := by
    rintro k hk ⟨target, coord, hslot⟩
    obtain rfl : k = 0 := (Fin.lt_one_iff k).1 hk
    have hempty : (fullQueueState.plan.items.states.get openVisit.state).triggers.get 0 = .empty := by decide +kernel
    exact nomatch hempty.symm.trans hslot
  obtain ⟨-, hbegun, -⟩ := hslot 1 .endRun (by decide +kernel) hlowest (by decide +kernel)
  exact fullQueueState_leaves_waiting hbegun

end Sys2Proof.Proofs
end

section
/-! ARM (R136, R137, R142). -/

namespace Sys2Proof.Proofs

open Sys2Proof.Machine Sys2Proof.Safety Sys2Proof.Claims

variable {s t w : State} {f : RxFrame} {l : Label}

/-! ### ARM judged (R136) -/

theorem exec_arm (h : Heard f s) (hn : Names 6 l f) (he : coordArm l (acked s) = t) (hq : t.link.notices = []) :
    exec (.arm f) s = .next t := by
  rw [← settle_of_quiet t hq, ← he]
  exact congrArg Host.Outcome.next (receiveGroup_names h hn (by decide) (by decide) coordArm)

theorem armedWith_iff (l : Label) (s : State) :
    armedWith l s = true ↔ s.engine.runState = .armed ∧ s.engine.runLabel = some l := by simp [armedWith]

/-- The conditions of R136, as `armRefusal` reads them. -/
theorem armRefusal_conditions (l : Label) (s : State) :
    ((s.runActive || s.link.state != .online) = true ↔
      s.engine.runState = .armed ∨ s.engine.runState = .running ∨ s.engine.runState = .ending ∨ s.link.state ≠ .online) ∧
    ((s.plan.state != .valid) = true ↔ s.plan.state ≠ .valid) ∧
    (isHeld s.store l = true ↔ ∃ h ∈ s.store.heldLabels, h.label = l) ∧
    ((s.amp.state == .faulted && !debouncersClear s.amp) = true ↔
      s.amp.state = .faulted ∧ ∃ i, s.amp.debouncers.get i ≠ .clear) := by
  have hclear : debouncersClear s.amp = false ↔ ∃ i, s.amp.debouncers.get i ≠ .clear := by
    rw [← Bool.not_eq_true, debouncersClear_iff, not_forall]
  refine ⟨by simp [State.runActive, or_assoc], by simp, by simp [isHeld_iff, labelsOf], ?_⟩
  rw [Bool.and_eq_true, beq_iff_eq, Bool.not_eq_true', hclear]

theorem coordArm_refused {c : ArmCause} (h : armedWith l s = false) (hc : armRefusal l s = some c) :
    coordArm l s = { s with status := { s.status with latch := { s.status.latch with armRefused := some c } } } := by
  simp only [coordArm, h, hc]
  rfl

/-! ### ARM accepted (R137) -/

/-- The state of an accepted ARM before the supervisor and the poller. -/
def armedRun (l : Label) (s : State) : State :=
  { s with
    engine :=
      { s.engine with
        runState := .armed, runLabel := some l, visit := none, visitCount := 0, decided := none, pendingMark := none
        pendingFallback := none, latestVisit := none, endReason := .none, lastState := none }
    store := { s.store with reserve := some { evaluations := 0, dropped := 0 } } }

theorem coordArm_accepted (h : armRefusal l s = none) (hn : armedWith l s = false) :
    coordArm l s = pollerMayStart (ampArm (armedRun l s)) := by
  simp only [coordArm, hn, h]
  rfl

/-- An accepted ARM at the supervisor changes the supervisor and the latch only. -/
theorem ampArm_eq (s : State) : ampArm s = { s with amp := (ampArm s).amp, status := (ampArm s).status } := by
  unfold ampArm ampStandby ampWarm ampFault
  (repeat' split) <;> rfl

/-- R93, by the supervisor's state. -/
theorem ampArm_table (s : State) :
    (s.amp.state = .absent ∨ s.amp.state = .warming → (ampArm s).amp = s.amp) ∧
    (s.amp.state = .ready → (ampArm s).amp = { s.amp with idle := some (s.amp.count + 60000000) }) ∧
    ((s.amp.state = .standby ∨ (s.amp.state = .faulted ∧ debouncersClear s.amp = true)) → s.supplyFail = false →
      inOverload s.amp = false →
      (ampArm s).amp = { s.amp with state := .warming, warmUp := some (s.amp.count + 400000), idle := none }) ∧
    (s.amp.state = .standby → s.supplyFail = true → (ampArm s).amp = s.amp) ∧
    (s.amp.state = .faulted → debouncersClear s.amp = true → s.supplyFail = true → (ampArm s).amp.state = .standby) ∧
    (s.amp.state = .standby → s.supplyFail = false → inOverload s.amp = true →
      (ampArm s).amp.state = .faulted ∧ (ampArm s).status.latch.ampFault = true) ∧
    (¬(s.amp.state = .standby ∧ s.supplyFail = false ∧ inOverload s.amp = true) → (ampArm s).status = s.status) := by
  have hnot : debouncersClear s.amp = true → inOverload s.amp = false := fun h =>
    not_inOverload_of_clear ((debouncersClear_iff _).1 h)
  refine ⟨fun h => ?_, fun h => ?_, fun h hs ho => ?_, fun h hs => ?_, fun h hc hs => ?_, fun h hs ho => ?_, fun h => ?_⟩
  · rcases h with h | h <;> simp [ampArm, h]
  · simp [ampArm, h, State.modAmp, Config.idlePeriod]
  · rcases h with h | ⟨h, hc⟩
    · simp [ampArm, h, hs, ampWarm, ho, State.modAmp, Config.warmUp]
    · simp [ampArm, h, hc, hs, ampWarm, ho, State.modAmp, Config.warmUp]
  · simp [ampArm, h, hs]
  · simp [ampArm, h, hc, hs, ampStandby_state (hnot hc)]
  · simp [ampArm, h, hs, ampWarm, ho, ampFault, State.modAmp, State.latch, State.modStatus]
  · cases ha : s.amp.state with
    | standby =>
      by_cases hs : s.supplyFail = true
      · simp [ampArm, ha, hs]
      · have ho : inOverload s.amp = false := by simpa [ha, hs] using h
        simp [ampArm, ha, hs, ampWarm, ho, State.modAmp]
    | faulted =>
      by_cases hc : debouncersClear s.amp = true
      · by_cases hs : s.supplyFail = true <;> simp [ampArm, ha, hs, hc, ampStandby, ampWarm, hnot hc, State.modAmp]
      · simp [ampArm, ha, hc]
    | ready => simp [ampArm, ha, State.modAmp]
    | warming => simp [ampArm, ha]
    | absent => simp [ampArm, ha]

/-- READY and ABSENT are what counts as ready, before an accepted ARM and behind it. -/
theorem ampArm_ready_iff (s : State) : (ampArm s).amp.state = .ready ∨ (ampArm s).amp.state = .absent ↔
    s.amp.state = .ready ∨ s.amp.state = .absent := by
  cases ha : s.amp.state with
  | standby =>
    by_cases hs : s.supplyFail = true
    · simp [ampArm, ha, hs]
    · by_cases ho : inOverload s.amp = true <;> simp [ampArm, ha, hs, ampWarm, ho, ampFault, State.modAmp]
  | faulted =>
    by_cases hc : debouncersClear s.amp = true
    · have ho : inOverload s.amp = false := not_inOverload_of_clear ((debouncersClear_iff _).1 hc)
      by_cases hs : s.supplyFail = true <;> simp [ampArm, ha, hs, hc, ampWarm, ampStandby, ho, State.modAmp]
    · simp [ampArm, ha, hc]
  | ready => simp [ampArm, ha, State.modAmp]
  | warming => simp [ampArm, ha]
  | absent => simp [ampArm, ha]

/-! ### The poller at an ARM (R142) -/

theorem pollerMayRun_iff (s : State) : pollerMayRun s = true ↔
    s.engine.runState = .armed ∧ (∃ i, s.plan.items.header.startSet.get i = true) ∧
      (s.amp.state = .ready ∨ s.amp.state = .absent) := by
  simp [pollerMayRun, toList_eq_map_get, Amplifier.countsReady, State.header, and_assoc]

/-- The poller in POLLING, its next poll instant 20,000 µs away (R142). -/
def polling (c : Coordination) : Coordination := { c with poller := .polling, nextPoll := some (c.count + 20000) }

/-- POLLING entered with a roll-call of the poller's in the queue already. -/
theorem enterPolling_queued (hr : readyRollQueued s = true) : enterPolling s = { s with coord := polling s.coord } := by
  have hr' : readyRollQueued (s.modCoord polling) = true := hr
  show queueReadyRoll (s.modCoord polling) = _
  rw [queueReadyRoll, hr']
  rfl

/-- POLLING entered with room in the queue and no roll-call of the poller's in it. -/
theorem enterPolling_room (hroom : Room s) (hr : readyRollQueued s = false) :
    enterPolling s = { s with
      coord := { polling s.coord with ownRoll := some s.link.nextAge }
      link := { s.link with
        nextAge := s.link.nextAge + 1
        tx := insertByPriority (newEntry (groupFrame (.rollcall .ready) .coordination) s) s.link.tx } } := by
  have hr' : readyRollQueued (s.modCoord polling) = false := hr
  show queueReadyRoll (s.modCoord polling) = _
  rw [queueReadyRoll, hr']
  exact place_room (s := { s with coord := { polling s.coord with ownRoll := some s.link.nextAge } }) hroom _

/-- The poller leaves OFF only where its three conditions hold. -/
theorem pollerMayStart_stays (h : pollerMayRun s = false) : pollerMayStart s = s := by simp [pollerMayStart, h]

theorem pollerMayStart_starts (h : pollerMayRun s = true) (hoff : s.coord.poller = .off) :
    pollerMayStart s = enterPolling s := by simp [pollerMayStart, h, hoff]

/-! ### O15 -/

/-- An ARM that no condition refuses (R137). -/
theorem exec_arm_accepted (h : Heard f s) (hn : Names 6 l f) (hidle : s.runActive = false) (hon : s.link.state = .online)
    (hr : armRefusal l s = none) (hoff : s.coord.poller = .off) (hlen : s.link.tx.length < 8) :
    let w := ampArm (armedRun l (acked s))
    let polls := (∃ i, s.plan.items.header.startSet.get i = true) ∧ (s.amp.state = .ready ∨ s.amp.state = .absent)
    ∃ t, exec (.arm f) s = .next t ∧ t.engine = w.engine ∧ t.store = w.store ∧ t.amp = w.amp ∧ t.status = w.status ∧
      (¬polls → t = w) ∧
      (polls → readyRollQueued s = false →
        t.coord = { polling s.coord with ownRoll := some s.link.nextAge } ∧
          Inserted (newEntry (groupFrame (.rollcall .ready) .coordination) s) s.link.tx t.link.tx) ∧
      t = { w with coord := t.coord, link := t.link } := by
  intro w polls
  have hquiet : s.link.notices = [] := acked_quiet h
  have hnot : armedWith l (acked s) = false := by
    have : ¬s.engine.runState = .armed := fun ha => by simp [State.runActive, ha] at hidle
    exact Bool.eq_false_iff.2 fun hc => this ((armedWith_iff l (acked s)).1 hc).1
  have hw : coordArm l (acked s) = pollerMayStart w := coordArm_accepted (s := acked s) hr hnot
  have hweq : w = { armedRun l (acked s) with amp := w.amp, status := w.status } := ampArm_eq _
  have hlink : w.link = (acked s).link := by rw [hweq]; rfl
  have hcoord : w.coord = s.coord := by rw [hweq]; rfl
  have hmay : pollerMayRun w = true ↔ polls := by
    have harmed : w.engine.runState = .armed := by rw [hweq]; rfl
    have hplan : w.plan = s.plan := by rw [hweq]; rfl
    rw [pollerMayRun_iff, hplan]
    exact ⟨fun ⟨_, hset, ha⟩ => ⟨hset, (ampArm_ready_iff (armedRun l (acked s))).1 ha⟩,
      fun ⟨hset, ha⟩ => ⟨harmed, hset, (ampArm_ready_iff (armedRun l (acked s))).2 ha⟩⟩
  have hroll : readyRollQueued w = readyRollQueued s := by rw [readyRollQueued, hlink]; rfl
  have hoffw : w.coord.poller = .off := by rw [hcoord]; exact hoff
  by_cases hp : polls
  · have hstart := hw.trans (pollerMayStart_starts (hmay.2 hp) hoffw)
    cases hq : readyRollQueued s with
    | true =>
      rw [enterPolling_queued (hroll.trans hq)] at hstart
      exact ⟨_, exec_arm h hn hstart (by rw [hlink]; exact hquiet), rfl, rfl, rfl, rfl, fun hno => absurd hp hno,
        nofun, rfl⟩
    | false =>
      have hroom : Room w := by
        rw [Room, hlink]
        exact ⟨fun hm => by simp [acked, driven, hon] at hm, hlen⟩
      rw [enterPolling_room hroom (hroll.trans hq)] at hstart
      refine ⟨_, exec_arm h hn hstart ?_, rfl, rfl, rfl, rfl, fun hno => absurd hp hno, fun _ _ => ⟨?_, ?_⟩, rfl⟩
      · show w.link.notices = []
        rw [hlink]
        exact hquiet
      · show { polling w.coord with ownRoll := some w.link.nextAge } = _
        rw [hcoord, hlink]
        rfl
      · show Inserted _ _ (insertByPriority (newEntry _ w) w.link.tx)
        have hentry : newEntry (groupFrame (.rollcall .ready) .coordination) w =
            newEntry (groupFrame (.rollcall .ready) .coordination) s := by rw [newEntry, newEntry, hlink]; rfl
        rw [hentry, hlink]
        exact inserted_insertByPriority _ _
  · have hstay : pollerMayRun w = false := Bool.eq_false_iff.2 fun hc => hp (hmay.1 hc)
    exact ⟨_, exec_arm h hn (hw.trans (pollerMayStart_stays hstay)) (by rw [hlink]; exact hquiet), rfl, rfl, rfl, rfl,
      fun _ => rfl, fun hc => absurd hc hp, rfl⟩

/-- Settles O15: by the first condition of R136 that holds, and by the supervisor's and the poller's part of R137. -/
theorem armIsJudgedAndAccepted : Obligations.ArmIsJudgedAndAccepted := by
  unfold Obligations.ArmIsJudgedAndAccepted
  refine ⟨fun f l s h hn => ?_, fun f l s h hn hidle hon hplan hlabel hlen hfree hamp hoff htx => ?_⟩
  · obtain ⟨h2, h3, h4, h7⟩ := armRefusal_conditions l s
    intro refusedWith c1 c2 c3 c4 c5 c6 c7
    have refused {c : ArmCause} (hnot : ¬c1) (hc : armRefusal l s = some c) : refusedWith c :=
      exec_arm h hn (coordArm_refused (s := acked s) (Bool.eq_false_iff.2 fun ha => hnot ((armedWith_iff l s).1 ha)) hc)
        (acked_quiet h)
    have unarmed (hnot : ¬c2) : ¬c1 := fun hc => hnot (.inl hc.1)
    refine ⟨fun hc => ?_, fun hn1 hc => refused hn1 ?_, fun hn2 hc => refused (unarmed hn2) ?_,
      fun hn2 hn3 hc => refused (unarmed hn2) ?_, fun hn2 hn3 hn4 hc => refused (unarmed hn2) ?_,
      fun hn2 hn3 hn4 hn5 hc => refused (unarmed hn2) ?_, fun hn2 hn3 hn4 hn5 hn6 hc => refused (unarmed hn2) ?_⟩
    · exact exec_arm h hn (if_pos ((armedWith_iff l s).2 hc)) (acked_quiet h)
    · rw [armRefusal, if_pos (h2.2 hc)]
    · rw [armRefusal, if_neg (mt h2.1 hn2), if_pos (h3.2 hc)]
    · rw [armRefusal, if_neg (mt h2.1 hn2), if_neg (mt h3.1 hn3), if_pos (h4.2 hc)]
    · rw [armRefusal, if_neg (mt h2.1 hn2), if_neg (mt h3.1 hn3), if_neg (mt h4.1 hn4)]
      exact if_pos hc
    · rw [armRefusal, if_neg (mt h2.1 hn2), if_neg (mt h3.1 hn3), if_neg (mt h4.1 hn4)]
      exact (if_neg hn5).trans (if_pos hc)
    · rw [armRefusal, if_neg (mt h2.1 hn2), if_neg (mt h3.1 hn3), if_neg (mt h4.1 hn4)]
      exact (if_neg hn5).trans ((if_neg hn6).trans (if_pos (h7.2 hc)))
  · have hr : armRefusal l s = none := by
      obtain ⟨-, -, h4, h7⟩ := armRefusal_conditions l s
      have hidle' : ¬(s.runActive || s.link.state != .online) = true := by simp [hidle, hon]
      have hheld : ¬isHeld s.store l = true := fun hc => by
        obtain ⟨g, hg, hgl⟩ := h4.1 hc
        exact hlabel g hg hgl
      have hfault : ¬(s.amp.state == .faulted && !debouncersClear s.amp) = true := fun hc => by
        obtain ⟨hs, i, hi⟩ := h7.1 hc
        exact hi (hamp hs i)
      rw [armRefusal, if_neg hidle', if_neg (by simp [hplan]), if_neg hheld]
      exact (if_neg (Nat.not_le.2 hlen)).trans ((if_neg (Nat.not_lt.2 hfree)).trans (if_neg hfault))
    obtain ⟨t, hexec, hengine, hstore, hampEq, hstatus, hstays, hpolls, hrest⟩ :=
      exec_arm_accepted h hn hidle hon hr hoff htx
    obtain ⟨habsent, hready, hwarm, hfail, hfaulted, hover, hlatch⟩ := ampArm_table (armedRun l (acked s))
    have hweq := ampArm_eq (armedRun l (acked s))
    have hclear : s.amp.state = .faulted → debouncersClear s.amp = true := fun hs => (debouncersClear_iff _).2 (hamp hs)
    rw [← hampEq] at habsent hready hwarm hfail hfaulted hover
    rw [← hstatus] at hover hlatch
    refine ⟨t, hexec, hengine.trans (by rw [hweq]; rfl), hstore.trans (by rw [hweq]; rfl), habsent, hready,
      fun hs hf ho => ?_, hfail, fun hs hf => ?_, hover, hlatch, fun hno => ?_, hpolls, ?_⟩
    · have hw := hwarm (hs.imp_right fun hs => ⟨hs, hclear hs⟩) hf ho
      exact ⟨hw, by rw [hw]; rfl⟩
    · have hw := hfaulted hs (hclear hs) hf
      exact ⟨hw, by simp [Amplifier.aen, hw]⟩
    · rw [hstays hno, hweq]
      exact ⟨rfl, rfl⟩
    · rw [hweq] at hrest
      rw [hrest]
      rfl

end Sys2Proof.Proofs
end

section
/-! START (R133, R134, R144): the epoch, and the abort NOT-READY. -/

namespace Sys2Proof.Proofs

open Sys2Proof.Machine Sys2Proof.Safety Sys2Proof.Claims

variable {s t : State} {f : RxFrame} {l : Label} {e : TxEntry} {c : Contents}

theorem exec_start (h : Heard f s) (hn : Names 3 l f) (he : engineStart l (acked s) = t) (hq : t.link.notices = []) :
    exec (.start f) s = .next t := by
  rw [← settle_of_quiet t hq, ← he]
  exact congrArg Host.Outcome.next (receiveGroup_names h hn (by decide) (by decide) engineStart)

/-! ### The poller gives up (R144) -/

theorem giveUp_eq (a : Option Nat) (s : State) :
    giveUp a s = { s with link := { s.link with tx := (giveUp a s).link.tx } } := by
  cases a with
  | none => rfl
  | some a => exact withdraw_link_eq a s

theorem pollerOff_eq (s : State) :
    pollerOff s = { s with coord := pollerOffOf s.coord, link := { s.link with tx := (pollerOff s).link.tx } } := by
  have h1 := giveUp_eq s.coord.ownRoll s
  have h2 := giveUp_eq s.coord.ownStart (giveUp s.coord.ownRoll s)
  unfold pollerOff
  rw [h2, h1]
  rfl

theorem begun_of_mem_giveUp {a : Nat} (h : AgesDiffer s.link.tx) (he : e ∈ (giveUp (some a) s).link.tx) (ha : e.age = a) :
    e.begun = true := begun_of_mem_withdraw h he ha

/-- What the queue still holds of the poller's frames has begun. -/
theorem begun_of_mem_pollerOff (h : AgesDiffer s.link.tx) (he : e ∈ (pollerOff s).link.tx)
    (ha : some e.age = s.coord.ownRoll ∨ some e.age = s.coord.ownStart) : e.begun = true := by
  have he' : e ∈ (giveUp s.coord.ownStart (giveUp s.coord.ownRoll s)).link.tx := he
  rcases ha with ha | ha
  · have hm : e ∈ (giveUp s.coord.ownRoll s).link.tx := (giveUp_tx_sublist _ _).subset he'
    rw [← ha] at hm
    exact begun_of_mem_giveUp h hm rfl
  · rw [← ha] at he'
    exact begun_of_mem_giveUp (h.sublist (giveUp_tx_sublist _ _)) he' rfl

/-! ### The epoch (R133, R134) -/

theorem driveContacts_eq (s : State) :
    driveContacts s = { s with engine := { s.engine with boLevels := (driveContacts s).engine.boLevels } } := by
  unfold driveContacts
  split <;> rfl

/-- The contacts of a CLOSED breaker (R88). -/
theorem driveContacts_closed (h : s.breaker.state = .closed) (o : OutputNo) :
    (driveContacts s).engine.boLevels.get o =
      if s.plan.items.breaker.enabled = true ∧ s.plan.items.breaker.out52a = some o then true
      else if s.plan.items.breaker.enabled = true ∧ s.plan.items.breaker.out52b = some o then false
      else s.engine.boLevels.get o := by
  unfold driveContacts State.breakerSetup
  split
  · next he => simp [he, h, level52a, tabulate_get, State.modEngine]
  · next he => simp [he]

/-- The state at the epoch before the contacts are driven. -/
def epochOf (s : State) : State :=
  { s with
    coord := pollerOffOf s.coord
    link := { s.link with tx := (pollerOff s).link.tx }
    clock := { s.clock with
      running := true, now := BitVec.ofNat 32 s.link.straps.cableDelay.val, sampleTaken := false }
    engine := { s.engine with runState := .running }
    breaker := .initial }

theorem takeEpoch_eq (s : State) :
    takeEpoch s = { driveContacts (epochOf s) with amp := { s.amp with idle := none } } := by
  have h : takeEpoch s = (driveContacts (epochOf s)).modAmp fun a => { a with idle := none } := by
    unfold takeEpoch epochOf
    rw [pollerOff_eq]
    rfl
  rw [h, driveContacts_eq]
  rfl

/-! ### The abort NOT-READY (R60, R134, R154) -/

/-- A RUN-SUMMARY behind the records of its label stands last there. -/
theorem summarised_of_logs {log : List (Option Record)} {time : Instant} {e : EndState} (hs : StoreOk t.store)
    (hlog : logOf t.store l = logged log time c) (hend : endStateOf t.store l = e) : Summarised l time e c t := by
  obtain ⟨h, hm, hl, hchain, hi, hrec⟩ := held_of_logOf (st := t.store) (l := l) (i := log.length)
    (r := some { index := log.length, time := time, contents := c }) (by simp [hlog, logged])
  have hcount : h.count = log.length + 1 := by
    rw [← chainLog_length t.store h, ← hchain, hlog]
    simp [logged]
  refine ⟨⟨h, _, hm, hl, by rw [hcount]; exact hrec, by rw [hcount]; rfl, rfl, rfl⟩, fun g hg hgl => ?_⟩
  rw [← endStateOf_of_mem hs hg, hgl]
  exact hend

/-- The state of the abort before its summary. -/
def notReady (s : State) : State :=
  { s with
    engine := { s.engine with runState := .aborted, endReason := .notReady }
    status := { s.status with latch := { s.status.latch with notReady := true } } }

/-- The summary of a run of no visits written. -/
def notReadySummed (s : State) : State := storeSummary (summaryOf (notReady s) none) .aborted (notReady s)

theorem storeSummary_eq (c : Contents) (e : EndState) (s : State) :
    storeSummary c e s = { s with store := (storeSummary c e s).store } := by
  unfold storeSummary
  split <;> rfl

theorem startNotReady_eq (s : State) :
    startNotReady s = queueAbort .notReady false (pollerOff (notReadySummed s)) := rfl

/-- What a START leaves whose amplifier is not ready, the queue having room for the ABORT. -/
theorem startNotReady_room (hl : s.engine.runLabel = some l) (hroom : Room s) :
    ∃ q, startNotReady s = { s with
        engine := { s.engine with runState := .aborted, endReason := .notReady }
        status := { s.status with latch := { s.status.latch with notReady := true } }
        store := (notReadySummed s).store
        coord := pollerOffOf s.coord
        link := { s.link with nextAge := s.link.nextAge + 1, tx := q } } ∧
      ∃ e ∈ q, e.frame = groupFrame (.abort l .notReady) .engine ∧ e.begun = false := by
  have hsum : notReadySummed s = { notReady s with store := (notReadySummed s).store } := storeSummary_eq _ _ _
  have hlink : (notReadySummed s).link = s.link := by rw [hsum]; rfl
  have hoff := pollerOff_eq (notReadySummed s)
  have hroom' : Room (pollerOff (notReadySummed s)) := by
    obtain ⟨hm, hlen⟩ := hroom
    rw [Room, hoff, hlink]
    refine ⟨hm, Nat.lt_of_le_of_lt ?_ hlen⟩
    rw [← hlink]
    exact (pollerOff_tx_sublist _).length_le
  have hl' : (pollerOff (notReadySummed s)).engine.runLabel = some l := by rw [hoff, hsum]; exact hl
  have hplace : startNotReady s = place (groupFrame (.abort l .notReady) .engine) false (pollerOff (notReadySummed s)) := by
    rw [startNotReady_eq, queueAbort, hl']
    rfl
  refine ⟨insertByPriority (newEntry (groupFrame (.abort l .notReady) .engine) (pollerOff (notReadySummed s)))
    (pollerOff (notReadySummed s)).link.tx, ?_, _, (mem_insertByPriority _ _ _).2 (.inl rfl), rfl, rfl⟩
  rw [hplace, place_room_eq hroom', hoff, hsum]
  rfl

/-- Settles O17: the epoch by what it changes in turn; the abort by the summary of a run of no visits. -/
theorem startIsTheEpochOrNotReady : Obligations.StartIsTheEpochOrNotReady := by
  unfold Obligations.StartIsTheEpochOrNotReady
  refine ⟨fun f l s h hn hqueue => ⟨fun hne => ?_, fun hr hl ha => ?_⟩, fun f l s h hn hr hl hne hne' hinv hroom hres => ?_⟩
  · refine exec_start h hn (if_neg fun hc => hne ?_) (acked_quiet h)
    simpa [acked, driven] using hc
  · have hstart : engineStart l (acked s) = takeEpoch (acked s) := by
      have hr' : (acked s).engine.runState = .armed := hr
      have hl' : (acked s).engine.runLabel = some l := hl
      have ha' : (acked s).amp.countsReady = true := by simpa [Amplifier.countsReady, acked, driven] using ha
      simp [engineStart, hr', hl', ha']
    rw [takeEpoch_eq, driveContacts_eq] at hstart
    exact ⟨_, exec_start h hn hstart (acked_quiet h), rfl, rfl, driveContacts_closed (s := epochOf (acked s)) rfl, rfl, rfl,
      rfl, fun e he ho => begun_of_mem_pollerOff (s := acked s) (QueuesOk.ages hqueue) he ho, rfl⟩
  · have hl' : (acked s).engine.runLabel = some l := hl
    have hstart : engineStart l (acked s) = startNotReady (acked s) := by
      have hr' : (acked s).engine.runState = .armed := hr
      have ha' : ¬(acked s).amp.countsReady = true := by
        have hamp : (acked s).amp = s.amp := rfl
        simp [Amplifier.countsReady, hamp, hne, hne']
      simp [engineStart, hr', hl', ha']
    obtain ⟨q, heq, habort⟩ := startNotReady_room hl' hroom
    have hnow : RunInv .armed (notReady (acked s)) := by
      have h1 : RunInv .armed s := hr ▸ (inv_of_runInvariant s hinv).2
      exact h1.same rfl
    have hcount : s.engine.visitCount = 0 := by
      obtain ⟨-, -, -, ⟨-, -, hzero, -⟩, -⟩ := hinv
      exact hzero hr
    have hcontents : summaryOf (notReady (acked s)) none = .runSummary .notReady 0 0 none s.link.straps.cableDelay.val := by
      have hc : (notReady (acked s)).engine.visitCount = 0 := hcount
      have hd : (notReady (acked s)).store.reserve = some { evaluations := 0, dropped := 0 } := hres
      simp only [summaryOf, hc, hd]
      rfl
    obtain ⟨hlog, hend⟩ := logOf_storeSummary (l := l) hnow rfl hl (summaryOf (notReady (acked s)) none) .aborted
    have hkept := keeps_storeSummary (s := notReady (acked s)) hnow.ok.store
      (summaryOf (notReady (acked s)) none) .aborted
    refine ⟨_, exec_start h hn (hstart.trans heq) (acked_quiet h), rfl, rfl, storeSummary_reserve _ _ _, ?_, rfl, habort, rfl⟩
    rw [← hcontents]
    exact summarised_of_logs hkept.ok hlog hend

end Sys2Proof.Proofs
end

section
/-! CLOCK_LIMIT and BO_DELAY_EXPIRY (R57, R62). -/

namespace Sys2Proof.Proofs

open Sys2Proof.Machine Sys2Proof.Safety Sys2Proof.Claims

variable {s : State} {o : OutputNo} {x : Instant} {b : Bool}

/-! ### The clock limit (R57) -/

/-- A visit current at the clock limit is closed there, and what is due is evaluated. -/
def limitClosed (s : State) : State := evaluateDue (closeVisit Config.clockLimit .clockLimit s)

theorem limitClosed_visit (s : State) : (limitClosed s).engine.visit = none := by
  cases hv : s.engine.visit <;> simp [limitClosed, closeVisit, hv]

theorem takeClockLimit_evaluates (s : State) :
    EvaluatedWhileDue (closeVisit Config.clockLimit .clockLimit s).eval.pendingList s (takeClockLimit s) := by
  refine evaluatedWhileDue_of (by simp) (by simp [takeClockLimit]) fun hinv l hl => ?_
  have hclose := (runInv_closeVisit (inv_of_runInvariant s hinv).2 Config.clockLimit .clockLimit).1
  exact ⟨hclose, by simpa using hl, (keeps_enterEnding (runInv_evaluateDue hclose).ok.store .clockLimit).log l⟩

theorem exec_clockLimit_not_due (h : s.engine.runState ≠ .running ∨ s.now < 3600000000) :
    exec .clockLimit s = .next s := by
  refine congrArg Host.Outcome.next (if_neg ?_)
  rcases h with h | h
  · simp [clockLimitDue, h]
  · simp [clockLimitDue, Config.clockLimit, Nat.not_le.2 h]

theorem exec_clockLimit (hr : s.engine.runState = .running) (hx : 3600000000 ≤ s.now) (hq : Quiet s) :
    exec .clockLimit s = .next (takeClockLimit s) := by
  have hdue : clockLimitDue s = true := by simp [clockLimitDue, hr, Config.clockLimit, hx]
  have hquiet : (takeClockLimit s).link.notices = [] := by simpa [takeClockLimit] using show s.link.notices = [] from hq
  exact (congrArg Host.Outcome.next (if_pos hdue)).trans (congrArg _ (settle_of_quiet _ hquiet))

/-! ### A delayed output (R62) -/

theorem exec_boDelayExpiry_not_due (h : s.engine.runState ≠ .running ∨ s.engine.visit = none ∨ closingDue s = true ∨
    ∀ x b, s.engine.boSchedule.get o = some (x, b) → s.now < x) : exec (.boDelayExpiry o) s = .next s := by
  refine congrArg Host.Outcome.next (if_neg ?_)
  rcases h with h | h | h | h
  · simp [boLevelDue, boDelayDue, h]
  · simp [boLevelDue, boDelayDue, h]
  · simp [boLevelDue, h]
  · cases hs : s.engine.boSchedule.get o with
    | none => simp [boLevelDue, boDelayDue, hs]
    | some p => simp [boLevelDue, boDelayDue, hs, Nat.not_le.2 (h p.1 p.2 hs)]

theorem boLevelDue_of (hr : s.engine.runState = .running) (hv : s.engine.visit ≠ none) (hc : closingDue s = false)
    (hs : s.engine.boSchedule.get o = some (x, b)) (hx : x ≤ s.now) : boLevelDue o s = true := by
  have hexit : exitDue s = false := by
    by_contra h
    simp [closingDue, h] at hc
  have hv' : s.engine.visit.isSome = true := Option.isSome_iff_ne_none.2 hv
  simp [boLevelDue, boDelayDue, hr, hv', hexit, hs, hx, hc]

/-- Settles O39: the clock limit is a close with the end of the run behind it, and a delayed output is one assignment. -/
theorem clockLimitAndDelayedOutputs : Obligations.ClockLimitAndDelayedOutputs := by
  unfold Obligations.ClockLimitAndDelayedOutputs
  refine ⟨⟨fun s h => exec_clockLimit_not_due h, fun s hr hx hq => ?_⟩,
    fun o s h => exec_boDelayExpiry_not_due h, fun o x b s hr hv hc hs hx => ?_⟩
  · obtain ⟨hreason, hlevels, hbreaker, hword⟩ := enterEnding_quiesced .clockLimit (limitClosed s)
    have hstate : (takeClockLimit s).engine.runState =
      if (limitClosed s).eval.pendingList = [] then .finished else .ending :=
      enterEnding_runState .clockLimit (limitClosed s)
    have hpending : (takeClockLimit s).eval.pendingList = (limitClosed s).eval.pendingList := by
      simp [takeClockLimit, limitClosed]
    refine ⟨_, exec_clockLimit hr hx hq, ?_, ?_, hreason, ?_, ?_, ?_, hbreaker, hword, ?_, ?_, ?_, ?_, ?_, ?_,
      takeClockLimit_evaluates s⟩
    · rw [hstate]
      split <;> simp
    · rw [hstate, hpending]
      simp
    · simpa [takeClockLimit, limitClosed] using limitClosed_visit s
    · simp [takeClockLimit]
    · exact hlevels.trans (by simp [limitClosed])
    all_goals simp [takeClockLimit]
  · refine (congrArg Host.Outcome.next (if_pos (boLevelDue_of hr hv hc hs hx))).trans ?_
    simp [takeBoDelay, hs, State.modEngine]

end Sys2Proof.Proofs
end

section
/-! SETTLE_HORIZON (R103, R110, R111), and what the store does with an event record (R155 to R157). -/

namespace Sys2Proof.Proofs

open Sys2Proof.Machine Sys2Proof.Safety Sys2Proof.Claims

variable {s t : State} {st st' : Store} {l m : Label} {h : HeldLabel} {c : Contents} {time : Instant} {p : PendingEntry}
  {rest : List PendingEntry} {x : Reserve}

/-! ### The capacity that a label sees (R150) -/

/-- The room in a label's tail block follows from the number of its records. -/
theorem tailRoom_eq (hs : StoreOk st) (l : Label) : tailRoom st l = (8 - (logOf st l).length % 8) % 8 := by
  cases e : findLabel st l with
  | none => simp [tailRoom_of_not_held e, logOf, e]
  | some h =>
    have hok := hs.1 h (findLabel_mem e).1
    have hlen : (logOf st l).length = h.count := by simp [logOf, e, chainLog_length]
    obtain ⟨-, -, -, hlo, hhi⟩ := hok
    rw [tailRoom_of_held e (hs.1 h (findLabel_mem e).1), hlen]
    omega

theorem capacity_eq (hs : StoreOk st) (l : Label) : capacity st l = freeCapacity st l := by
  unfold capacity freeCapacity
  refine congrArg _ ?_
  cases e : findLabel st l with
  | none =>
    have e' : (st.heldLabels.find? fun h => h.label == l) = none := e
    simp [tailRoom_of_not_held e, e']
  | some h =>
    have e' : (st.heldLabels.find? fun h => h.label == l) = some h := e
    simp [tailRoom_of_held e (hs.1 h (findLabel_mem e).1), e']

/-- What every label of the store sees: the FREE blocks and a part of one block. -/
theorem freeCapacity_eq (hs : StoreOk st) (l : Label) :
    freeCapacity st l = 8 * (freeBlocks st).length + (8 - (logOf st l).length % 8) % 8 := by
  rw [freeCapacity, tailRoom_eq hs, Nat.mul_comm]
  rfl

/-- The tail block of a label is full. -/
def TailFull (st : Store) (l : Label) : Prop := ∀ h ∈ st.heldLabels, h.label = l → 8 * h.chain.length = h.count

theorem tailFull_iff (hs : StoreOk st) (l : Label) : TailFull st l ↔ tailRoom st l = 0 := by
  cases e : findLabel st l with
  | none =>
    rw [tailRoom_of_not_held e]
    exact ⟨fun _ => rfl, fun _ h hm hl => absurd hl (findLabel_none e h hm)⟩
  | some h =>
    obtain ⟨hm, hl⟩ := findLabel_mem e
    rw [tailRoom_of_held e (hs.1 h hm)]
    obtain ⟨-, -, -, hlo, hhi⟩ := hs.1 h hm
    refine ⟨fun hf => ?_, fun h0 g hg hgl => ?_⟩
    · have := hf h hm hl
      omega
    · obtain rfl : g = h := eq_of_label_eq hs.2.1 hg hm (hgl.trans hl.symm)
      omega

theorem hasRoom_iff (hs : StoreOk st) (l : Label) :
    hasRoom st l = true ↔ ¬TailFull st l ∨ freeBlocks st ≠ [] := by
  simp [hasRoom, tailFull_iff hs, Nat.pos_iff_ne_zero]

/-- An append takes a FREE block from every other label's view where its own tail block is full. -/
theorem freeCapacity_append_other (hs : StoreOk st) (hroom : hasRoom st l = true) (hne : m ≠ l)
    (time : Instant) (c : Contents) :
    freeCapacity (appendTo l time c st) m + (if tailRoom st l = 0 then 8 else 0) = freeCapacity st m := by
  have happ := appendOk time c hs hroom
  have hlogs := logs_appendTo time c hs hroom
  have hown := happ.capacity
  have hlen : (logOf (appendTo l time c st) l).length = (logOf st l).length + 1 := by simp [hlogs.same, logged]
  rw [freeCapacity_eq happ.store, freeCapacity_eq hs, hlen] at hown
  rw [freeCapacity_eq happ.store, freeCapacity_eq hs, hlogs.other m hne, tailRoom_eq hs]
  split <;> omega

/-! ### A record appended (R152, R155) -/

theorem lastRecord_of_logs {log : List (Option Record)} (hlog : logOf t.store l = logged log time c) :
    LastRecord l time c t := by
  obtain ⟨h, hm, hl, hchain, hi, hrec⟩ := held_of_logOf (st := t.store) (l := l) (i := log.length)
    (r := some { index := log.length, time := time, contents := c }) (by simp [hlog, logged])
  have hcount : h.count = log.length + 1 := by
    rw [← chainLog_length t.store h, ← hchain, hlog]
    simp [logged]
  exact ⟨h, _, hm, hl, by rw [hcount]; exact hrec, by rw [hcount]; rfl, rfl, rfl⟩

theorem held_iff (st : Store) (l : Label) : isHeld st l = true ↔ ∃ h ∈ st.heldLabels, h.label = l := by
  simp [isHeld_iff, labelsOf]

/-- The list of a label whose records an append under `l` leaves or adds to. -/
theorem logOf_append (hs : StoreOk st) (hroom : hasRoom st l = true) (time : Instant) (c : Contents) (m : Label) :
    logOf (appendTo l time c st) m =
      logOf st m ++ if m = l then [some { index := (logOf st l).length, time := time, contents := c }] else [] := by
  have hlogs := logs_appendTo time c hs hroom
  split
  · next hm => rw [hm, hlogs.same, logged]
  · next hm => rw [hlogs.other m hm, List.append_nil]

/-- An append that has a place to go, as the statements speak of it. -/
theorem appended_of_room (hs : StoreOk s.store) (hroom : hasRoom s.store l = true)
    (ht : t = { s with store := appendTo l s.now c s.store }) : Appended l c s t := by
  have happ := appendOk s.now c hs hroom
  have hlogs := logs_appendTo s.now c hs hroom
  have hstore : t.store = appendTo l s.now c s.store := by rw [ht]
  refine ⟨lastRecord_of_logs (hstore ▸ hlogs.same), by rw [ht], by rw [hstore, appendTo_reserve], fun h hm => ?_,
    fun g hg hno => ?_⟩
  · obtain ⟨g, hg, hgl⟩ : ∃ g ∈ t.store.heldLabels, g.label = h.label := by
      rw [hstore, ← held_iff, isHeld_iff, happ.labels]
      have hmem : h.label ∈ labelsOf s.store := List.mem_map_of_mem hm
      split
      · exact hmem
      · exact List.mem_append_left _ hmem
    have hchain : chainLog t.store g = chainLog s.store h ++
        if h.label = l then [some { index := (logOf s.store l).length, time := s.now, contents := c }] else [] := by
      rw [← logOf_of_mem (hstore ▸ happ.store) hg, ← logOf_of_mem hs hm, hgl, hstore, logOf_append hs hroom]
    refine ⟨g, hg, hgl, ?_, ?_, fun i hi => ?_⟩
    · rw [← endStateOf_of_mem (hstore ▸ happ.store) hg, ← endStateOf_of_mem hs hm, hgl, hstore, hlogs.endState]
    · have hlen := congrArg List.length hchain
      simp only [List.length_append, chainLog_length] at hlen
      split at hlen <;> simp_all
    · have hget : (chainLog t.store g)[i]? = (chainLog s.store h)[i]? := by
        rw [hchain, List.getElem?_append_left (by rwa [chainLog_length])]
      have hig : i < g.count := by
        have hlen := congrArg List.length hchain
        simp only [List.length_append, chainLog_length] at hlen
        omega
      rw [chainLog_getElem? hi, chainLog_getElem? hig] at hget
      exact Option.some.inj hget
  · have hnot : g.label ∉ labelsOf s.store := fun hmem => by
      obtain ⟨h, hm, hl⟩ := List.mem_map.1 hmem
      exact hno h hm hl
    have hgl : g.label = l := by
      have hmem : g.label ∈ labelsOf t.store := List.mem_map_of_mem hg
      rw [hstore, happ.labels] at hmem
      split at hmem
      · exact absurd hmem hnot
      · exact List.mem_singleton.1 ((List.mem_append.1 hmem).resolve_left hnot)
    have hfind : findLabel s.store l = none := by
      rw [← Option.not_isSome_iff_eq_none]
      exact fun hc => hnot (hgl ▸ (isHeld_iff s.store l).1 hc)
    have hempty : logOf s.store l = [] := by simp [logOf, hfind]
    refine ⟨hgl, ?_, ?_⟩
    · rw [← chainLog_length t.store g, ← logOf_of_mem (hstore ▸ happ.store) hg, hgl, hstore, hlogs.same, hempty]
      rfl
    · rw [← endStateOf_of_mem (hstore ▸ happ.store) hg, hgl, hstore, hlogs.endState]
      simp [endStateOf, hfind]

/-! ### What the store does with an event record (R156, R157) -/

/-- A record of the run while its bookkeeping stands. -/
theorem storeEvent_own (hr : s.store.reserve = some x) (hl : s.engine.runLabel = some l) (c : Contents) :
    storeEvent l c s =
      if requiredReserve s.header.visitLimit x ≤ freeCapacity (appendTo l s.now c s.store) l ∧ hasRoom s.store l = true then
        { s with store := appendTo l s.now c s.store }
      else { s with store := { s.store with reserve := some { x with dropped := min 65535 (x.dropped + 1) } } } := by
  simp only [storeEvent, hr, hl, beq_self_eq_true, if_true, Bool.and_eq_true, decide_eq_true_eq]
  rfl

/-- A late record while the bookkeeping of another run stands. -/
theorem storeEvent_late (hr : s.store.reserve = some x) (hl : s.engine.runLabel = some m) (hne : m ≠ l) (c : Contents) :
    storeEvent l c s =
      if (isHeld s.store l = true ∧ hasRoom s.store l = true) ∧
          requiredReserve s.header.visitLimit x ≤ freeCapacity (appendTo l s.now c s.store) m then
        { s with store := appendTo l s.now c s.store }
      else s := by
  have hne' : (l == m) = false := beq_eq_false_iff_ne.2 hne.symm
  simp only [storeEvent, hr, hl, hne', Bool.false_eq_true, if_false, Bool.and_eq_true, decide_eq_true_eq]
  rfl

/-- A late record with no bookkeeping. -/
theorem storeEvent_free (hr : s.store.reserve = none) (l : Label) (c : Contents) :
    storeEvent l c s =
      if isHeld s.store l = true ∧ hasRoom s.store l = true then { s with store := appendTo l s.now c s.store } else s := by
  simp only [storeEvent, hr, Bool.and_eq_true]
  rfl

/-- The free capacity that a late record of `l` must find under the run's label `m`, by the tail block of `l`. -/
def LateRoom (limit : Nat) (x : Reserve) (l m : Label) (st : Store) : Prop :=
  (TailFull st l → limit - x.evaluations + 9 ≤ capacity st m) ∧
    (¬TailFull st l → limit - x.evaluations + 1 ≤ capacity st m)

theorem storeEvent_late_spec (hs : StoreOk s.store) (hx : s.store.reserve = some x) (hl : s.engine.runLabel = some m)
    (hne : m ≠ l) (c : Contents) :
    (isHeld s.store l = true → LateRoom s.header.visitLimit x l m s.store → Appended l c s (storeEvent l c s)) ∧
      (¬isHeld s.store l = true ∨ ¬LateRoom s.header.visitLimit x l m s.store → storeEvent l c s = s) := by
  have hafter (hr : hasRoom s.store l = true) := freeCapacity_append_other hs hr hne s.now c
  have hfull : TailFull s.store l ↔ tailRoom s.store l = 0 := tailFull_iff hs l
  rw [LateRoom, capacity_eq hs]
  refine ⟨fun hh ⟨hf, hnf⟩ => ?_, fun hno => (storeEvent_late hx hl hne c).trans (if_neg ?_)⟩
  · have hr : hasRoom s.store l = true := (hasRoom_iff hs l).2 <| by
      refine or_iff_not_imp_left.2 fun ht hfree => ?_
      have hcap := hf (not_not.1 ht)
      rw [freeCapacity_eq hs, hfree] at hcap
      simp only [List.length_nil] at hcap
      omega
    have hle : requiredReserve s.header.visitLimit x ≤ freeCapacity (appendTo l s.now c s.store) m := by
      have hcap := hafter hr
      simp only [requiredReserve]
      by_cases ht : TailFull s.store l
      · rw [if_pos (hfull.1 ht)] at hcap
        have := hf ht
        omega
      · rw [if_neg (mt hfull.2 ht)] at hcap
        have := hnf ht
        omega
    exact appended_of_room hs hr ((storeEvent_late hx hl hne c).trans (if_pos ⟨⟨hh, hr⟩, hle⟩))
  · rintro ⟨⟨hh, hr⟩, hle⟩
    have hcap := hafter hr
    simp only [requiredReserve] at hle
    refine hno.elim (fun h => h hh) fun h => h ⟨fun ht => ?_, fun ht => ?_⟩
    · rw [if_pos (hfull.1 ht)] at hcap
      omega
    · rw [if_neg (mt hfull.2 ht)] at hcap
      omega

/-! ### The horizon (R103, R111) -/

theorem evaluateHead_eq (hp : s.eval.pendingList = p :: rest) :
    evaluateHead s = { s with eval := { s.eval with pendingList := rest }, store := (evaluateHead s).store } := by
  simp only [evaluateHead, hp, storeEvaluation]
  split <;> rfl

theorem evaluateHead_reserve (hp : s.eval.pendingList = p :: rest) (hl : s.engine.runLabel = some l) :
    (evaluateHead s).store.reserve = s.store.reserve.map fun x => { x with evaluations := x.evaluations + 1 } := by
  have hl' : (s.modEval fun x => { x with pendingList := rest }).engine.runLabel = some l := hl
  simp only [evaluateHead, hp, storeEvaluation, hl', State.modStore]
  rw [appendTo_reserve]
  rfl

theorem exec_settleHorizon (hp : s.eval.pendingList = p :: rest) (hx : p.horizon ≤ s.now)
    (he : finishIfDone (evaluateHead s) = t) (hq : t.link.notices = []) : exec .settleHorizon s = .next t := by
  have hdue : horizonDue s = true := by simp [horizonDue, hp, hx]
  refine (congrArg Host.Outcome.next (if_pos hdue)).trans ?_
  rw [takeHorizon, he, settle_of_quiet t hq]

theorem ampRunEnded_eq (s : State) : ampRunEnded s = { s with amp := (ampRunEnded s).amp } := by
  unfold ampRunEnded
  split <;> rfl

/-- The last state set, before the summary. -/
def lastStateSet (s : State) : State := { s with engine := { s.engine with lastState := s.engine.latestVisit } }

theorem writeSummary_eq (e : EndState) (s : State) :
    writeSummary e s = { lastStateSet s with store := (writeSummary e s).store } :=
  storeSummary_eq (summaryOf (lastStateSet s) s.engine.latestVisit) e (lastStateSet s)

/-- The end of a run with nothing left to evaluate (R59, R111). -/
theorem finishRun_eq (hl : s.engine.runLabel = some l) :
    finishRun s = { s with
      engine := { s.engine with runState := .finished, lastState := s.engine.latestVisit }
      store := (writeSummary .finished s).store
      amp := (ampRunEnded s).amp
      gather := { s.gather with onFinish := some (s.gather.count + 50000, l) } } := by
  have hamp : (ampRunEnded ((writeSummary .finished s).modEngine fun g => { g with runState := .finished })).amp =
      (ampRunEnded s).amp := by
    rw [writeSummary_eq]
    unfold ampRunEnded
    split <;> simp_all [lastStateSet, State.modEngine, State.modAmp]
  have hl' : (ampRunEnded ((writeSummary .finished s).modEngine fun g =>
        { g with runState := .finished })).engine.runLabel =
      some l := by simpa using hl
  simp only [finishRun, hl']
  rw [ampRunEnded_eq, hamp, writeSummary_eq]
  rfl

/-- The oldest entry evaluated, where the run goes on. -/
theorem settleHorizon_continues (h : RunInvariant s) (hp : s.eval.pendingList = p :: rest) (hl : s.engine.runLabel = some l)
    (hgo : s.engine.runState = .running ∨ rest ≠ []) :
    finishIfDone (evaluateHead s) = evaluateHead s ∧ LastRecord l s.now (evaluated p) (evaluateHead s) := by
  refine ⟨if_neg fun hc => ?_, lastRecord_of_logs (logs_evaluateHead (inv_of_runInvariant s h).2 hl hp).same⟩
  rw [evaluateHead_eq hp] at hc
  simp only [Bool.and_eq_true, beq_iff_eq, List.isEmpty_iff] at hc
  rcases hgo with hgo | hgo
  · simp [hgo] at hc
  · exact hgo hc.2

/-- The last entry of an ENDING run evaluated: the run is FINISHED. -/
theorem settleHorizon_finishes (hp : s.eval.pendingList = [p]) (hend : s.engine.runState = .ending) :
    finishIfDone (evaluateHead s) = finishRun (evaluateHead s) := by
  refine if_pos ?_
  rw [evaluateHead_eq hp]
  simp [hend]

/-- The records of a run that finishes: the last EVALUATION, and its RUN-SUMMARY behind it. -/
theorem finished_records (h : RunInvariant s) (hp : s.eval.pendingList = [p]) (hend : s.engine.runState = .ending)
    (hl : s.engine.runLabel = some l) (ht : t.store = (writeSummary .finished (evaluateHead s)).store) :
    Summarised l s.now .finished
        (.runSummary s.engine.endReason s.engine.visitCount ((s.store.reserve.map (·.dropped)).getD 0)
          s.engine.latestVisit s.link.straps.cableDelay.val) t ∧
      ∃ h ∈ t.store.heldLabels, h.label = l ∧ 2 ≤ h.count ∧
        ∃ r, recordAt t.store h (h.count - 2) = some r ∧ r.index = h.count - 2 ∧ r.time = s.now ∧
          r.contents = evaluated p := by
  have hinv : RunInv .ending s := hend ▸ (inv_of_runInvariant s h).2
  have hlogs := (logs_evaluateHead hinv hl hp).same
  have hset : RunInv .ending (lastStateSet (evaluateHead s)) := (runInv_evaluateHead hinv).same rfl
  have hl' : (lastStateSet (evaluateHead s)).engine.runLabel = some l := by simpa [lastStateSet] using hl
  have hcontents : summaryOf (lastStateSet (evaluateHead s)) (evaluateHead s).engine.latestVisit =
      .runSummary s.engine.endReason s.engine.visitCount ((s.store.reserve.map (·.dropped)).getD 0)
        s.engine.latestVisit s.link.straps.cableDelay.val := by
    have hres : (lastStateSet (evaluateHead s)).store.reserve =
        s.store.reserve.map fun x => { x with evaluations := x.evaluations + 1 } := evaluateHead_reserve hp hl
    simp only [summaryOf, hres]
    cases s.store.reserve <;> simp [lastStateSet]
  obtain ⟨hlog, hstate⟩ := logOf_storeSummary hset rfl hl'
    (summaryOf (lastStateSet (evaluateHead s)) (evaluateHead s).engine.latestVisit) .finished
  have hok := (keeps_storeSummary (s := lastStateSet (evaluateHead s)) hset.ok.store
    (summaryOf (lastStateSet (evaluateHead s)) (evaluateHead s).engine.latestVisit) .finished).ok
  have hstore : t.store = (storeSummary (summaryOf (lastStateSet (evaluateHead s)) (evaluateHead s).engine.latestVisit)
      .finished (lastStateSet (evaluateHead s))).store := ht
  have hnow : (lastStateSet (evaluateHead s)).now = s.now := by rw [evaluateHead_eq hp]; rfl
  rw [hcontents, hnow] at hlog
  rw [hcontents] at hstate hok hstore
  rw [← hstore] at hlog hstate hok
  refine ⟨summarised_of_logs hok hlog hstate, ?_⟩
  have hbefore : logOf (lastStateSet (evaluateHead s)).store l = logged (logOf s.store l) s.now (evaluated p) := hlogs
  rw [hbefore] at hlog
  obtain ⟨g, hg, hgl, hchain, hi, hrec⟩ := held_of_logOf (st := t.store) (l := l) (i := (logOf s.store l).length)
    (r := some { index := (logOf s.store l).length, time := s.now, contents := evaluated p }) (by simp [hlog, logged])
  have hcount : g.count = (logOf s.store l).length + 2 := by
    rw [← chainLog_length t.store g, ← hchain, hlog]
    simp [logged]
  exact ⟨g, hg, hgl, by omega, _, by rw [hcount]; exact hrec, by rw [hcount]; rfl, rfl, rfl⟩

/-- Settles O42: the horizon by the entry evaluated and the run's end behind it; the event records by what the store's
guards say in figures. -/
theorem horizonEvaluatesTheOldestVisit : Obligations.HorizonEvaluatesTheOldestVisit := by
  unfold Obligations.HorizonEvaluatesTheOldestVisit
  refine ⟨fun s h => congrArg Host.Outcome.next (if_neg ?_), fun p rest l s h hp hx hl => ?_, fun l c s hs => ?_⟩
  · cases hp : s.eval.pendingList with
    | nil => simp [horizonDue, hp]
    | cons p rest => simp [horizonDue, hp, Nat.not_le.2 (h p rest hp)]
  · have hquiet : s.link.notices = [] := (inv_of_runInvariant s h).1
    have hhead := evaluateHead_eq hp
    by_cases hgo : s.engine.runState = .running ∨ rest ≠ []
    · obtain ⟨he, hlast⟩ := settleHorizon_continues h hp hl hgo
      have heval : (evaluateHead s).eval = { s.eval with pendingList := rest } := by rw [hhead]
      refine ⟨_, exec_settleHorizon hp hx he (by rw [hhead]; exact hquiet), heval, fun _ =>
        ⟨hlast, evaluateHead_reserve hp hl, by rw [heval]; exact hhead⟩, fun hend hrest => ?_⟩
      rcases hgo with hgo | hgo
      · rw [hgo] at hend
        cases hend
      · exact absurd hrest hgo
    · obtain ⟨hrun, rfl⟩ : s.engine.runState ≠ .running ∧ rest = [] := by simpa using hgo
      have hend : s.engine.runState = .ending :=
        ((inv_of_runInvariant s h).2.ok.pending (by simp [ledger, hp])).resolve_left hrun
      have hl' : (evaluateHead s).engine.runLabel = some l := by simpa using hl
      have he := (settleHorizon_finishes hp hend).trans (finishRun_eq hl')
      refine ⟨_, exec_settleHorizon hp hx he (by simpa using hquiet), by rw [hhead],
      fun hc => absurd hc (by simpa using hrun),
        fun _ _ => ?_⟩
      obtain ⟨hsum, hrecord⟩ := finished_records h hp hend hl (t := finishRun (evaluateHead s)) (finishRun_store _)
      rw [finishRun_eq hl'] at hsum hrecord
      refine ⟨by rw [hhead], by rw [hhead], writeSummary_reserve _ _, hsum, hrecord, fun ha => ?_, ?_⟩
      · simp [ampRunEnded, ha, State.modAmp, Config.idlePeriod]
      · rw [hhead]
  · intro limit held tailFull
    have hheld : isHeld s.store l = true ↔ held := held_iff s.store l
    have hroom := hasRoom_iff hs l
    have hcap (m : Label) := capacity_eq hs m
    have hown (hr : hasRoom s.store l = true) := (appendOk s.now c hs hr).capacity
    refine ⟨fun x hx hl => ⟨fun hc => ?_, fun hc => ?_⟩, fun x m hx hl hne => ?_, fun hx => ?_⟩
    · rw [hcap] at hc
      have hr : hasRoom s.store l = true := hasRoom_of_capacity (by omega)
      have hle : requiredReserve s.header.visitLimit x ≤ freeCapacity (appendTo l s.now c s.store) l := by
        have := hown hr
        simp only [requiredReserve, State.header]
        omega
      exact appended_of_room hs hr ((storeEvent_own hx hl c).trans (if_pos ⟨hle, hr⟩))
    · rw [hcap] at hc
      refine (storeEvent_own hx hl c).trans (if_neg fun ⟨hle, hr⟩ => ?_)
      have := hown hr
      simp only [requiredReserve, State.header] at hle
      omega
    · exact ⟨fun hh hr => (storeEvent_late_spec hs hx hl hne c).1 (hheld.2 hh) hr,
        fun hno => (storeEvent_late_spec hs hx hl hne c).2 (hno.imp_left (mt hheld.1))⟩
    · refine ⟨fun hh hr => ?_, fun hno => (storeEvent_free hx l c).trans (if_neg fun ⟨hh, hr⟩ => ?_)⟩
      · exact appended_of_room hs (hroom.2 hr) ((storeEvent_free hx l c).trans (if_pos ⟨hheld.2 hh, hroom.2 hr⟩))
      · rcases hno with hno | ⟨hfull, hnone⟩
        · exact hno (hheld.1 hh)
        · exact (hroom.1 hr).elim (fun h => h hfull) fun h => h hnone

end Sys2Proof.Proofs
end

section
/-! Aborts (R60, R61, R112, R148): their records for every reason, the marks they withdraw, and a peer's ABORT. -/

namespace Sys2Proof.Proofs

open Sys2Proof.Machine Sys2Proof.Safety Sys2Proof.Claims

variable {s t u : State} {l : Label} {r : EndReason} {e : TxEntry} {f : RxFrame}

/-! ### The records of an abort (R60, R112, R154) -/

/-- The records of an abort stand last under the run's label, where no late record follows them. -/
theorem abortRecords_abort (h : Inv s) (hu : s.runUnderWay = true) (hh : s.engine.held = [])
    (ht : t.store = (abortUnderWay r s).store) : AbortRecords r s t := by
  intro l hl
  obtain ⟨log, d, hlog, hend, hdropped⟩ := log_abortUnderWay h hu hh r hl
  generalize (closeVisit s.now .abort s).eval.pendingList = ps at hlog ⊢
  have hok : StoreOk t.store := ht ▸ (inv_abortUnderWay h hu r).ok.store
  rw [← ht] at hlog hend
  have hlen : (loggedAll log s.now (ps.map evaluated)).length = log.length + ps.length := by
    rw [loggedAll_length, List.length_map]
  obtain ⟨g, hg, hlabel, hchain, -, hrec⟩ := held_of_logOf (st := t.store) (l := l)
    (i := (loggedAll log s.now (ps.map evaluated)).length)
    (by rw [hlog, logged, List.getElem?_concat_length])
  have hcount : g.count = log.length + ps.length + 1 := by
    rw [← chainLog_length t.store g, ← hchain, hlog, logged, List.length_append, hlen]
    rfl
  have hsub : g.count - 1 - ps.length = log.length := by omega
  have hlast : g.count - 1 = (loggedAll log s.now (ps.map evaluated)).length := by omega
  refine ⟨g, hg, hlabel, by rw [← endStateOf_of_mem hok hg, hlabel, hend], g.count, d, by omega, le_rfl, fun _ => rfl,
    fun k p hp => ?_, ⟨_, by rw [hlast]; exact hrec, hlast.symm, rfl, rfl⟩, hdropped⟩
  have hat := loggedAll_getElem? (log := log) (time := s.now) (cs := ps.map evaluated) (c := evaluated p) (k := k)
    (by rw [List.getElem?_map, hp]; rfl)
  have hat' := (congrArg (·[log.length + k]?) hlog).trans (getElem?_of_prefix (List.prefix_append _ _) hat)
  obtain ⟨g', hg', hlabel', -, -, hrec'⟩ := held_of_logOf hat'
  obtain rfl := eq_of_label_eq hok.2.1 hg' hg (hlabel'.trans hlabel.symm)
  rw [hsub]
  exact ⟨_, hrec', rfl, rfl, rfl⟩

theorem closeVisit_eval_congr (hv : t.engine.visit = s.engine.visit) (he : t.eval = s.eval) (hp : t.plan = s.plan)
    (hy : t.synth = s.synth) (x : Instant) (c : ExitCause) :
    (closeVisit x c t).eval = (closeVisit x c s).eval := by
  cases hs : s.engine.visit with
  | none => simp [closeVisit, hs, hv, he]
  | some v =>
    rw [closeVisit_eval (hv.trans hs), closeVisit_eval hs]
    simp [closeWorking, State.stateItems, settleHorizon, State.inputSetup, he, hp, hy]

/-- What the records of an abort out of `s` read of `s`. -/
structure AbortView (s u : State) : Prop where
  label : u.engine.runLabel = s.engine.runLabel
  count : u.engine.visitCount = s.engine.visitCount
  latest : u.engine.latestVisit = s.engine.latestVisit
  now : u.now = s.now
  straps : u.link.straps = s.link.straps
  pending : (closeVisit u.now .abort u).eval.pendingList = (closeVisit s.now .abort s).eval.pendingList
  dropped : s.engine.pendingMark = none → (∀ e ∈ s.link.tx, ∀ m c x, e.frame.body ≠ .mark m c x) →
    u.engine.pendingMark = none ∧ (∀ e ∈ u.link.tx, ∀ m c x, e.frame.body ≠ .mark m c x) ∧
      u.store.reserve.map (·.dropped) = s.store.reserve.map (·.dropped)

/-- The records of an abort out of a state that agrees with `s` in what they read. -/
theorem AbortRecords.of_view (h : AbortRecords r u t) (hv : AbortView s u) : AbortRecords r s t := by
  intro l hl
  obtain ⟨g, hg, hlabel, hend, n, d, hlt, hle, hlast, hevals, hsum, hdropped⟩ := h l (hv.label.trans hl)
  rw [hv.pending] at hlt hevals
  rw [hv.now] at hevals hsum
  rw [hv.count, hv.latest, hv.straps] at hsum
  refine ⟨g, hg, hlabel, hend, n, d, hlt, hle, hlast, hevals, hsum, fun hp hm => ?_⟩
  obtain ⟨hp', hm', hd⟩ := hv.dropped hp hm
  exact hd ▸ hdropped hp' hm'

/-! ### The marks that an abort withdraws (R55, R60) -/

/-- What an abort does with one entry of the queue. -/
def withdrawRunMark (s : State) (e : TxEntry) : State :=
  match e.frame.body with
  | .mark l c d => if s.engine.runLabel == some l then withdrawMark e.age l c d s else s
  | _ => s

theorem withdrawRunMark_tx_sublist (s : State) (e : TxEntry) : (withdrawRunMark s e).link.tx.Sublist s.link.tx := by
  unfold withdrawRunMark
  (repeat' split)
  · exact withdrawMark_tx_sublist _ _ _ _ _
  · exact List.Sublist.refl _
  · exact List.Sublist.refl _

theorem withdrawRunMark_engine (s : State) (e : TxEntry) : (withdrawRunMark s e).engine = s.engine := by
  unfold withdrawRunMark
  (repeat' split) <;> simp

/-- What the queue still holds of a mark of the run has begun, once the mark has been withdrawn. -/
theorem begun_of_withdrawRunMark (h : AgesDiffer s.link.tx) (hl : s.engine.runLabel = some l) {c : MarkCode} {d : Instant}
    (hb : e.frame.body = .mark l c d) (he : e ∈ (withdrawRunMark s e).link.tx) : e.begun = true := by
  have hw : withdrawRunMark s e = withdrawMark e.age l c d s := by simp [withdrawRunMark, hb, hl]
  rw [hw, withdrawMark] at he
  split at he
  · exact begun_of_mem_withdraw (a := e.age) h (by simpa [logMark] using he) rfl
  · next hnot =>
    by_contra hn
    exact hnot (isWaiting_of_mem h he (by simpa using hn))

theorem begun_of_foldl_withdrawRunMark {q : List TxEntry} (h : AgesDiffer s.link.tx) (hl : s.engine.runLabel = some l)
    {c : MarkCode} {d : Instant} (hb : e.frame.body = .mark l c d) (hq : e ∈ q)
    (he : e ∈ (q.foldl withdrawRunMark s).link.tx) : e.begun = true := by
  induction q generalizing s with
  | nil => cases hq
  | cons x xs ih =>
    rw [List.foldl_cons] at he
    have hages := h.sublist (withdrawRunMark_tx_sublist s x)
    have hlabel : (withdrawRunMark s x).engine.runLabel = some l := by rw [withdrawRunMark_engine, hl]
    by_cases hxs : e ∈ xs
    · exact ih hages hlabel hxs he
    · obtain rfl : e = x := (List.mem_cons.1 hq).resolve_right hxs
      have hsub : ((xs.foldl withdrawRunMark (withdrawRunMark s e)).link.tx).Sublist (withdrawRunMark s e).link.tx :=
        foldl_induct (fun t => t.link.tx.Sublist (withdrawRunMark s e).link.tx) _
          (fun t y ht => (withdrawRunMark_tx_sublist t y).trans ht) xs _ (List.Sublist.refl _)
      exact begun_of_withdrawRunMark h hl hb (hsub.subset he)

/-- No mark of the run waits once its marks have been withdrawn. -/
theorem begun_of_mem_withdrawRunMarks (h : AgesDiffer s.link.tx) (hl : s.engine.runLabel = some l) {c : MarkCode}
    {d : Instant} (hb : e.frame.body = .mark l c d) (he : e ∈ (withdrawRunMarks s).link.tx) : e.begun = true :=
  begun_of_foldl_withdrawRunMark h hl hb ((withdrawRunMarks_tx_sublist s).subset he) he

theorem begun_of_mem_stopped (h : AgesDiffer s.link.tx) (hl : s.engine.runLabel = some l) {c : MarkCode} {d : Instant}
    (hb : e.frame.body = .mark l c d) (he : e ∈ (stopped r s).link.tx) : e.begun = true := by
  have hages : AgesDiffer (closeVisit s.now .abort (aborting r s)).link.tx :=
    h.sublist (closeVisit_tx_sublist s.now .abort (aborting r s))
  exact begun_of_mem_withdrawRunMarks (l := l) hages (by simpa [aborting] using hl) hb (by simpa [stopped] using he)

/-! ### What an abort leaves of the run, whatever is held -/

/-- The state from which an abort closes the visit: the held operates resolved, the run called ABORTED. -/
def abortBegun (r : EndReason) (s : State) : State :=
  (resolveHeld s).modEngine fun g => { g with runState := .aborted, endReason := r }

theorem abortUnderWay_begun (r : EndReason) (s : State) :
    abortUnderWay r s = ampRunEnded (writeSummary .aborted (flushPending (quiesce (withdrawRunMarks
      (closeVisit (abortBegun r s).now .abort (abortBegun r s)))))) := rfl

theorem flushPending_empty (s : State) : (flushPending s).eval.pendingList = [] := by
  rw [flushPending, evaluateTimes_pendingList, List.drop_length]

/-- The run's own part of an abort (R60). -/
theorem abortUnderWay_engine (r : EndReason) (s : State) :
    (abortUnderWay r s).engine.runState = .aborted ∧ (abortUnderWay r s).engine.endReason = r ∧
      (abortUnderWay r s).engine.runLabel = s.engine.runLabel ∧ (abortUnderWay r s).engine.visit = none ∧
      (abortUnderWay r s).engine.boLevels = s.plan.items.header.boRest ∧
      (abortUnderWay r s).eval.pendingList = [] ∧ (abortUnderWay r s).store.reserve = none ∧
      (abortUnderWay r s).breaker = Breaker.initial := by
  have hvisit : (closeVisit (abortBegun r s).now .abort (abortBegun r s)).engine.visit = none := by
    cases hv : (abortBegun r s).engine.visit <;> simp [closeVisit, hv]
  rw [abortUnderWay_begun]
  refine ⟨by simp [abortBegun], by simp [abortBegun], by simp [abortBegun], by simpa using hvisit, ?_, ?_, ?_, ?_⟩
  · simp [quiesce, outputsToRest, abortBegun, State.header]
  · simpa using flushPending_empty _
  · simpa using writeSummary_reserve _ _
  · simp [quiesce, resetBreaker]

/-! ### A peer's ABORT (R61, R148) -/

theorem exec_abort {reason : Byte} (h : Heard f s) (hk : f.kind.toNat = 1) (hp : f.payload = [l, reason])
    (h1 : 1 ≤ l.toNat) (h254 : l.toNat ≤ 254) (he : enginePeerAbort l (acked s) = t) (hq : t.link.notices = []) :
    exec (.abort f) s = .next t := by
  have hpay : abortPayload f.payload = some l := by
    rw [hp]
    simp [abortPayload, labelOk_of_range h1 h254]
  rw [← settle_of_quiet t hq, ← he]
  exact congrArg Host.Outcome.next (receiveGroup_heard h hk (by decide) (by decide) hpay enginePeerAbort)

/-- An abort from ARMED that writes no record. -/
theorem abortArmed_silent (hr : (r == .notReady) = false) (s : State) :
    abortArmed r s = { s with
      engine := { s.engine with runState := .aborted, endReason := r }
      store := { s.store with reserve := none }
      coord := pollerOffOf s.coord
      link := { s.link with tx := (abortArmed r s).link.tx } } := by
  have h : abortArmed r s = pollerOff { s with
      engine := { s.engine with runState := .aborted, endReason := r }, store := { s.store with reserve := none } } := by
    simp only [abortArmed, hr]
    rfl
  rw [h, pollerOff_eq]

theorem abortArmed_tx_sublist (hr : (r == .notReady) = false) (s : State) :
    (abortArmed r s).link.tx.Sublist s.link.tx := by
  have h : abortArmed r s = pollerOff { s with
      engine := { s.engine with runState := .aborted, endReason := r }, store := { s.store with reserve := none } } := by
    simp only [abortArmed, hr]
    rfl
  rw [h]
  exact pollerOff_tx_sublist _

theorem ampRunEnded_amp (s : State) :
    (s.amp.state = .ready → (ampRunEnded s).amp = { s.amp with idle := some (s.amp.count + 60000000) }) ∧
      (s.amp.state ≠ .ready → (ampRunEnded s).amp = s.amp) :=
  ⟨fun h => by simp [ampRunEnded, h, State.modAmp, Config.idlePeriod], fun h => by simp [ampRunEnded, h]⟩

/-- The state before the amplifier learns of an abort. -/
def summed (r : EndReason) (s : State) : State := writeSummary .aborted (flushPending (stopped r s))

theorem abortUnderWay_summed (hh : s.engine.held = []) (r : EndReason) : abortUnderWay r s = ampRunEnded (summed r s) :=
  abortUnderWay_eq hh r

theorem abortView_acked (s : State) : AbortView s (acked s) :=
  ⟨rfl, rfl, rfl, rfl, rfl, congrArg _ (closeVisit_eval_congr (t := acked s) (s := s) rfl rfl rfl rfl _ _),
    fun hp hm => ⟨hp, hm, rfl⟩⟩

/-- Settles O20: by the abort of a run that is under way, and of an armed one. -/
theorem peerAbort : Obligations.PeerAbort := by
  unfold Obligations.PeerAbort
  intro f l reason s h hk hp h1 h254 hqueue hshape
  have next {t : State} (he : enginePeerAbort l (acked s) = t) (hq : t.link.notices = []) : exec (.abort f) s = .next t :=
    exec_abort h hk hp h1 h254 he hq
  have hquiet : s.link.notices = [] := acked_quiet h
  have hrun : (acked s).engine = s.engine := rfl
  refine ⟨fun hne => next ?_ hquiet, fun hl hr => ?_, fun hl hr hh => ?_⟩
  · unfold enginePeerAbort
    split
    · next hl =>
      obtain ⟨hr, hr'⟩ := hne.resolve_left fun hne => hne (beq_iff_eq.1 hl)
      simp [hrun, hr, hr']
    · rfl
  · have he : enginePeerAbort l (acked s) = abortArmed .peerAbort (acked s) := by simp [enginePeerAbort, hrun, hl, hr]
    have hsub := abortArmed_tx_sublist (r := .peerAbort) rfl (acked s)
    rw [abortArmed_silent rfl] at he
    exact ⟨_, next he hquiet, rfl, rfl, rfl, fun e hm => hsub.subset hm, rfl⟩
  · have hu : s.runUnderWay = true := by simp [State.runUnderWay, hr]
    have he : enginePeerAbort l (acked s) = abortUnderWay .peerAbort (acked s) := by simp [enginePeerAbort, hrun, hl, hr]
    obtain ⟨hstate, hreason, hlabel, hvisit, hlevels, hpending, hreserve, hbreaker⟩ :=
      abortUnderWay_engine .peerAbort (acked s)
    obtain ⟨-, hclear⟩ := stopped_clear (s := acked s) hshape.2.1 .peerAbort
    obtain ⟨hnone, -⟩ := stopped_clear (s := acked s) hshape.2.1 .peerAbort
    obtain ⟨hdecided, hmark, hfallback, -, -⟩ := hclear hnone
    have hframe := stopped_frame .peerAbort (acked s)
    have hsum := abortUnderWay_summed (s := acked s) hh .peerAbort
    obtain ⟨hready, hother⟩ := ampRunEnded_amp (summed .peerAbort (acked s))
    have hamp : (summed .peerAbort (acked s)).amp = s.amp := by
      refine Eq.trans (b := (stopped .peerAbort (acked s)).amp) (by simp [summed]) ?_
      simp [stopped, aborting, acked, driven]
    have htx : (abortUnderWay .peerAbort (acked s)).link.tx = (stopped .peerAbort (acked s)).link.tx := by
      rw [hsum]
      simp [summed]
    rw [hamp, ← hsum] at hready hother
    refine ⟨_, next he ?_, hstate, hreason, hlabel.trans hl, hvisit, ?_, ?_, ?_, hlevels, ?_, hpending, hreserve,
      fun hinv => ?_,
      hbreaker, fun e hm => ?_, fun e hm c d hb => ?_, hready, hother, ?_⟩
    · rw [hsum]
      refine Eq.trans (b := (stopped .peerAbort (acked s)).link.notices) (by simp [summed]) ?_
      simpa [stopped, aborting, acked, driven] using hquiet
    · rw [hsum]
      simpa [summed] using hdecided
    · rw [hsum]
      simpa [summed] using hmark
    · rw [hsum]
      simpa [summed] using hfallback
    · have hlast : (flushPending (stopped .peerAbort (acked s))).engine.latestVisit = s.engine.latestVisit := by
        simp [hframe, hrun]
      rw [hsum, ampRunEnded_eq, summed, writeSummary_eq]
      exact hlast
    · have hi : Inv (acked s) := (inv_of_runInvariant s hinv).2.same rfl rfl
      exact AbortRecords.of_view (abortRecords_abort hi hu hh rfl) (abortView_acked s)
    · exact (stopped_tx_sublist .peerAbort (acked s)).subset (htx ▸ hm)
    · exact begun_of_mem_stopped (s := acked s) (QueuesOk.ages hqueue) hl hb (htx ▸ hm)
    · rw [hsum]
      simp [summed, stopped, aborting, acked, driven]

end Sys2Proof.Proofs
end

section
/-! What the outcomes of frames do to the fault latch: they latch drops and marks, and leave AMP-FAULT as it stands
(R185). -/

namespace Sys2Proof.Proofs

open Sys2Proof.Machine Sys2Proof.Safety Sys2Proof.Claims

variable {s t u : State}

/-- From `s` to `t` AMP-FAULT stays as it is, and a TX-DROPPED that was latched stays latched. -/
structure LatchStep (s t : State) : Prop where
  ampFault : t.status.latch.ampFault = s.status.latch.ampFault
  txDropped : s.status.latch.txDropped = true → t.status.latch.txDropped = true

theorem LatchStep.of_eq (h : t.status = s.status) : LatchStep s t := ⟨by rw [h], fun hs => by rw [h]; exact hs⟩

theorem LatchStep.refl (s : State) : LatchStep s s := .of_eq rfl

theorem LatchStep.trans (h : LatchStep s t) (h' : LatchStep t u) : LatchStep s u :=
  ⟨h'.ampFault.trans h.ampFault, fun hs => h'.txDropped (h.txDropped hs)⟩

/-- A step behind one that leaves the status as it is. -/
theorem LatchStep.after (h : LatchStep t u) (he : t.status = s.status) : LatchStep s u := (LatchStep.of_eq he).trans h

theorem latchStep_dropEntry (e : TxEntry) (s : State) : LatchStep s (dropEntry e s) := ⟨rfl, fun _ => rfl⟩

theorem latchStep_place (f : TxFrame) (b : Bool) (s : State) : LatchStep s (place f b s) := by
  unfold place
  dsimp only
  (repeat' split)
  · exact (latchStep_dropEntry _ _).after rfl
  · exact .of_eq rfl
  · exact .of_eq rfl
  all_goals exact (latchStep_dropEntry _ _).after rfl

theorem latchStep_queueMark (c : MarkCode) (x : Instant) (s : State) : LatchStep s (queueMark c x s) := by
  unfold queueMark
  split
  · exact latchStep_place _ _ _
  · exact .refl s

theorem latchStep_foldl {α : Type} {f : State → α → State} (hf : ∀ s a, LatchStep s (f s a)) (as : List α) (s : State) :
    LatchStep s (as.foldl f s) :=
  foldl_induct (LatchStep s) f (fun t a h => h.trans (hf t a)) as s (.refl s)

theorem latchStep_firstOperateMark (i : InputNo) (s : State) : LatchStep s (firstOperateMark i s) := by
  unfold firstOperateMark
  (repeat' split)
  · exact .refl s
  · exact (latchStep_queueMark _ _ _).after rfl
  · exact .refl s
  · exact .refl s

theorem latchStep_takeHeld (hs : List HeldOperate) (s : State) : LatchStep s (takeHeld hs s) := by
  refine latchStep_foldl (fun s h => ?_) hs s
  dsimp only
  split
  · exact (latchStep_firstOperateMark _ _).after (by simp)
  · exact latchStep_firstOperateMark _ _

theorem latchStep_decideExit (d : DecidedExit) (v : Visit) (b : Bool) (s : State) :
    LatchStep s (decideExit d v b s) := by
  cases b
  all_goals
    unfold decideExit
    dsimp only
    (repeat' split)
    all_goals exact ⟨by simp [State.latch], by simp [State.latch]⟩

theorem latchStep_present (d : Decider) (t : Target) (x : Instant) (b : Bool) (s : State) :
    LatchStep s (present d t x b s) := by
  unfold present
  (repeat' split)
  · exact .refl s
  · exact latchStep_decideExit _ _ _ _
  · exact latchStep_decideExit _ _ _ _
  · exact .refl s

theorem latchStep_markOutcome (a : Nat) (l : Label) (c : MarkCode) (x : Instant) (o : FrameOutcome) (s : State) :
    LatchStep s (markOutcome a l c x o s) := by
  unfold markOutcome
  dsimp only
  (repeat' split)
  · exact (latchStep_present _ _ _ _ _).after (by simp)
  all_goals exact .of_eq (by simp)

theorem latchStep_endGather (c : Cursor) (o : GatherOutcome) (s : State) : LatchStep s (endGather c o s) := by
  unfold endGather sendGatherDone
  dsimp only
  split
  · exact (latchStep_place _ _ _).after rfl
  · exact .of_eq rfl

theorem latchStep_sweepOn (n : Nat) (s : State) : LatchStep s (sweepOn n s) := by
  induction n generalizing s with
  | zero => exact .refl s
  | succ n ih =>
    unfold sweepOn
    (repeat' split)
    · exact .refl s
    · exact latchStep_endGather _ _ _
    · exact .refl s
    · exact (ih _).after (by simp)
    · exact (latchStep_place _ _ _).after rfl

theorem latchStep_readSilent (s : State) : LatchStep s (readSilent s) := by
  unfold readSilent
  dsimp only
  (repeat' split)
  · exact .refl s
  · exact .refl s
  · exact (latchStep_endGather _ _ _).after (by simp)
  · exact (latchStep_sweepOn _ _).after (by simp)

theorem latchStep_react (e : TxEntry) (o : FrameOutcome) (s : State) : LatchStep s (react e o s) := by
  unfold react readOutcome gatherRollLost
  dsimp only
  (repeat' split)
  · exact latchStep_markOutcome _ _ _ _ _ _
  · exact .of_eq (by simp)
  · exact .refl s
  · exact .of_eq rfl
  · exact (latchStep_endGather _ _ _).after rfl
  · exact .of_eq rfl
  · exact .refl s
  · exact .of_eq rfl
  · exact latchStep_readSilent s
  · exact .refl s
  · exact .refl s
  · exact .refl s

theorem latchStep_settleFor (n : Nat) (s : State) : LatchStep s (settleFor n s) := by
  induction n generalizing s with
  | zero => exact .of_eq rfl
  | succ n ih =>
    unfold settleFor
    split
    · exact .refl s
    · exact ((latchStep_react _ _ _).trans (ih _)).after rfl

theorem latchStep_settle (s : State) : LatchStep s (settle s) := latchStep_settleFor _ s

theorem latchStep_abortUnderWay (r : EndReason) (s : State) : LatchStep s (abortUnderWay r s) :=
  have hheld : LatchStep s (resolveHeld s) := (latchStep_takeHeld s.engine.held _).after rfl
  hheld.trans (.of_eq (by rw [abortUnderWay_begun]; simp [abortBegun]))

theorem latchStep_queueAbort (r : EndReason) (b : Bool) (s : State) : LatchStep s (queueAbort r b s) := by
  unfold queueAbort
  split
  · exact latchStep_place _ _ _
  · exact .refl s

theorem latchStep_abortRun (r : EndReason) (s : State) : LatchStep s (abortRun r s) := by
  unfold abortRun
  (repeat' split)
  · exact latchStep_abortUnderWay r s
  · exact .of_eq (by simp)
  · exact .refl s

end Sys2Proof.Proofs
end

section
/-! The overload lines and the supply-fail line (R92, R96, R98, R99). -/

namespace Sys2Proof.Proofs

open Sys2Proof.Machine Sys2Proof.Safety Sys2Proof.Claims

variable {s t u : State} {l : Label} {r : EndReason} {i : OverloadLine}

/-! ### The amplifier in an abort -/

theorem abortUnderWay_amp (h : s.amp.state ≠ .ready) (r : EndReason) : (abortUnderWay r s).amp = s.amp := by
  have hinner : (writeSummary .aborted (flushPending (quiesce (withdrawRunMarks
      (closeVisit (abortBegun r s).now .abort (abortBegun r s)))))).amp = s.amp := by simp [abortBegun]
  rw [abortUnderWay_begun, (ampRunEnded_amp _).2 (by rw [hinner]; exact h), hinner]

/-- An abort with no operate held tells nobody anything, and leaves room where there was room. -/
theorem abortUnderWay_link (hh : s.engine.held = []) (r : EndReason) :
    (abortUnderWay r s).link.notices = s.link.notices ∧ (abortUnderWay r s).link.tx.Sublist s.link.tx ∧
      (abortUnderWay r s).link.state = s.link.state := by
  have hlink : (abortUnderWay r s).link = (stopped r s).link := by
    rw [abortUnderWay_eq hh]
    simp
  rw [hlink]
  exact ⟨by simp [stopped_frame], stopped_tx_sublist r s, by simp [stopped_frame]⟩

theorem room_abortUnderWay (hroom : Room s) (hh : s.engine.held = []) (r : EndReason) : Room (abortUnderWay r s) := by
  obtain ⟨hm, hlen⟩ := hroom
  obtain ⟨-, hsub, hstate⟩ := abortUnderWay_link hh r
  exact ⟨by rw [hstate]; exact hm, Nat.lt_of_le_of_lt hsub.length_le hlen⟩

/-! ### An overload report (R96) -/

/-- The debouncer of a line in a state. -/
def debounced (i : OverloadLine) (x : Debouncer) (s : State) : State :=
  { s with amp := { s.amp with debouncers := setAt s.amp.debouncers i x } }

theorem overloadDue_of {x : Nat} (hd : s.amp.debouncers.get i = .timing x) (hx : x + 2000 ≤ s.amp.count) :
    overloadDue i s = true := by simp [overloadDue, hd, Config.overloadDebounce, hx]

theorem overloadDue_not (h : ∀ x, s.amp.debouncers.get i = .timing x → s.amp.count < x + 2000) :
    overloadDue i s = false := by
  unfold overloadDue
  split
  · next x hx => exact decide_eq_false (Nat.not_le.2 (h x hx))
  · rfl
  · rfl

/-- The supervisor FAULTED, AMP-FAULT latched. -/
theorem pollerCheck_faulted (h : s.amp.state = .faulted) :
    pollerCheck s = if s.coord.poller = .off then s else pollerOff s := by
  have hnot : pollerMayRun s = false := Bool.eq_false_iff.2 fun hc => by simpa [h] using ((pollerMayRun_iff s).1 hc).2.2
  by_cases hp : s.coord.poller = .off <;> simp [pollerCheck, hnot, hp]

/-- A report of a supervisor that drives no RUNNING run. -/
theorem takeOverload_idle (ha : s.amp.state = .ready ∨ s.amp.state = .warming ∨ s.amp.state = .standby)
    (hno : s.amp.state ≠ .ready ∨ s.engine.runState ≠ .running) :
    takeOverload i s = pollerCheck (ampFault (debounced i .held s)) := by
  rcases ha with ha | ha | ha
  · have hr : s.engine.runState ≠ .running := hno.resolve_left fun h => h ha
    simp [takeOverload, ha, hr]
    rfl
  · simp [takeOverload, ha]
    rfl
  · simp [takeOverload, ha]
    rfl

theorem takeOverload_running (ha : s.amp.state = .ready) (hr : s.engine.runState = .running) :
    takeOverload i s = queueAbort .overload false (abortUnderWay .overload (ampFault (debounced i .held s))) := by
  simp [takeOverload, ha, hr]
  rfl

theorem takeOverload_ignored (ha : s.amp.state = .faulted ∨ s.amp.state = .absent) :
    takeOverload i s = debounced i .held s := by
  rcases ha with ha | ha <;>
  · simp [takeOverload, ha]
    rfl

theorem exec_overloadReport {x : Nat} (hd : s.amp.debouncers.get i = .timing x) (hx : x + 2000 ≤ s.amp.count) :
    exec (.overloadReport i) s = .next (settle (takeOverload i s)) :=
  congrArg Host.Outcome.next (if_pos (overloadDue_of hd hx))

/-- A report that aborts a RUNNING run: what stands whatever is held. -/
theorem takeOverload_running_faults (ha : s.amp.state = .ready) (hr : s.engine.runState = .running) :
    (takeOverload i s).amp = { s.amp with
        debouncers := setAt s.amp.debouncers i .held, state := .faulted, warmUp := none, idle := none } ∧
      (takeOverload i s).status.latch.ampFault = true := by
  rw [takeOverload_running ha hr]
  refine ⟨?_, ?_⟩
  · have hamp := abortUnderWay_amp (s := ampFault (debounced i .held s)) (by simp [ampFault]) .overload
    simp only [queueAbort_frame, hamp]
    rfl
  · rw [(latchStep_queueAbort .overload false _).ampFault, (latchStep_abortUnderWay .overload _).ampFault]
    rfl

theorem abortView_faulted (i : OverloadLine) (s : State) : AbortView s (ampFault (debounced i .held s)) :=
  ⟨rfl, rfl, rfl, rfl, rfl,
    congrArg _ (closeVisit_eval_congr (t := ampFault (debounced i .held s)) (s := s) rfl rfl rfl rfl _ _),
    fun hp hm => ⟨hp, hm, rfl⟩⟩

/-- An ABORT queued behind an abort, with room in the queue. -/
theorem queueAbort_room (hroom : Room s) (hl : s.engine.runLabel = some l) (r : EndReason) :
    queueAbort r false s = { s with link := { s.link with
      nextAge := s.link.nextAge + 1
      tx := insertByPriority (newEntry (groupFrame (.abort l r) .engine) s) s.link.tx } } := by
  simp only [queueAbort, hl]
  exact place_room_eq hroom _

theorem queueAbort_store (r : EndReason) (b : Bool) (s : State) : (queueAbort r b s).store = s.store := by
  unfold queueAbort
  split <;> simp

/-- The report of a READY amplifier in a RUNNING run with no operate held. -/
theorem takeOverload_aborts (ha : s.amp.state = .ready) (hr : s.engine.runState = .running) (hh : s.engine.held = [])
    (hroom : Room s) (hq : Quiet s) :
    (takeOverload i s).link.notices = [] ∧ (takeOverload i s).engine.runState = .aborted ∧
      (takeOverload i s).engine.endReason = .overload ∧ (takeOverload i s).engine.visit = none ∧
      (takeOverload i s).engine.boLevels = s.plan.items.header.boRest ∧ (takeOverload i s).breaker = Breaker.initial ∧
      (takeOverload i s).store.reserve = none ∧ (RunInvariant s → AbortRecords .overload s (takeOverload i s)) ∧
      ∀ l, s.engine.runLabel = some l →
        ∃ e ∈ (takeOverload i s).link.tx, e.frame = groupFrame (.abort l .overload) .engine ∧ e.begun = false := by
  rw [takeOverload_running ha hr]
  have hu : s.runUnderWay = true := by simp [State.runUnderWay, hr]
  obtain ⟨hstate, hreason, hlabel, hvisit, hlevels, -, hreserve, hbreaker⟩ :=
    abortUnderWay_engine .overload (ampFault (debounced i .held s))
  have hroom' : Room (abortUnderWay .overload (ampFault (debounced i .held s))) :=
    room_abortUnderWay (s := ampFault (debounced i .held s)) hroom hh .overload
  have hnotices : (abortUnderWay .overload (ampFault (debounced i .held s))).link.notices = [] :=
    (abortUnderWay_link (s := ampFault (debounced i .held s)) hh .overload).1.trans hq
  refine ⟨?_, by simpa using hstate, by simpa using hreason, by simpa using hvisit, ?_, by simpa using hbreaker,
    by simpa [queueAbort_store] using hreserve, fun hinv => ?_, fun l hl => ?_⟩
  · cases hl : s.engine.runLabel with
    | none =>
      have hl' : (abortUnderWay .overload (ampFault (debounced i .held s))).engine.runLabel = none := hlabel.trans hl
      simp only [queueAbort, hl']
      exact hnotices
    | some l =>
      rw [queueAbort_room hroom' (hlabel.trans hl)]
      exact hnotices
  · simp only [queueAbort_frame]
    exact hlevels
  · have hi : Inv (ampFault (debounced i .held s)) := (inv_of_runInvariant s hinv).2.same rfl rfl
    exact AbortRecords.of_view (abortRecords_abort hi hu hh (queueAbort_store _ _ _)) (abortView_faulted i s)
  · rw [queueAbort_room hroom' (hlabel.trans hl)]
    exact ⟨_, (mem_insertByPriority _ _ _).2 (.inl rfl), rfl, rfl⟩

/-- Whatever a report does, the line's debouncer is HELD behind it. -/
theorem takeOverload_debouncers (i : OverloadLine) (s : State) :
    (takeOverload i s).amp.debouncers = setAt s.amp.debouncers i .held := by
  cases ha : s.amp.state with
  | faulted => rw [takeOverload_ignored (.inl ha)]; rfl
  | absent => rw [takeOverload_ignored (.inr ha)]; rfl
  | warming => rw [takeOverload_idle (by simp [ha]) (by simp [ha])]; simp [debounced]
  | standby => rw [takeOverload_idle (by simp [ha]) (by simp [ha])]; simp [debounced]
  | ready =>
    by_cases hr : s.engine.runState = .running
    · rw [(takeOverload_running_faults ha hr).1]
    · rw [takeOverload_idle (by simp [ha]) (.inr hr)]; simp [debounced]

/-- The report of a supervisor that drives no RUNNING run: the fault, and the poller off. -/
theorem takeOverload_idle_faults (ha : s.amp.state = .ready ∨ s.amp.state = .warming ∨ s.amp.state = .standby)
    (hno : s.amp.state ≠ .ready ∨ s.engine.runState ≠ .running) :
    (s.coord.poller = .off → takeOverload i s = ampFault (debounced i .held s)) ∧
      (s.coord.poller ≠ .off → takeOverload i s = { ampFault (debounced i .held s) with
        coord := pollerOffOf s.coord
        link := { s.link with tx := (pollerOff (ampFault (debounced i .held s))).link.tx } }) := by
  have hcheck := pollerCheck_faulted (s := ampFault (debounced i .held s)) rfl
  have hcoord : (ampFault (debounced i .held s)).coord = s.coord := rfl
  rw [takeOverload_idle ha hno, hcheck, hcoord]
  refine ⟨fun hp => if_pos hp, fun hp => (if_neg hp).trans ?_⟩
  rw [pollerOff_eq]
  rfl

/-- Settles O51: the lines by the debouncer's state, the report by the supervisor's and the run's. -/
theorem overloadDebounce : Obligations.OverloadDebounce := by
  unfold Obligations.OverloadDebounce
  refine ⟨fun i s ha hq => ⟨?_, ?_⟩, fun i s ha => ⟨fun hd => ?_, fun hd => ?_⟩, fun i s ha hq hd => ?_, fun i s hd => ?_,
    fun i x s hd hx hq hroom hqueue => ?_⟩
  · show Host.Outcome.next (lineAsserted i s) = _
    simp [lineAsserted, ha]
  · show Host.Outcome.next (settle (lineDeasserted i s)) = _
    simp [lineDeasserted, ha, settle_of_quiet s hq]
  · show Host.Outcome.next (lineAsserted i s) = _
    simp [lineAsserted, ha, hd, State.modAmp]
  · show Host.Outcome.next (lineAsserted i s) = _
    cases hs : s.amp.debouncers.get i with
    | clear => exact absurd hs hd
    | timing x => simp [lineAsserted, hs]
    | held => simp [lineAsserted, hs]
  · show Host.Outcome.next (settle (lineDeasserted i s)) = _
    have he : lineDeasserted i s = debounced i .clear s := by
      simp [lineDeasserted, ha, overloadDue_not hd]
      rfl
    rw [he, settle_of_quiet (debounced i .clear s) hq]
    rfl
  · exact congrArg Host.Outcome.next (if_neg (by simp [overloadDue_not hd]))
  · refine ⟨_, exec_overloadReport hd hx, by simp [takeOverload_debouncers], by simp, by simp, by simp, by simp,
      fun ha => ?_, fun ha => ?_,
      fun ha hr hh => ?_⟩
    · rw [takeOverload_ignored ha]
      exact settle_of_quiet (debounced i .held s) hq
    · by_cases hrun : s.amp.state = .ready ∧ s.engine.runState = .running
      · obtain ⟨hamp, hfault⟩ := takeOverload_running_faults (i := i) hrun.1 hrun.2
        have hsettled : (settle (takeOverload i s)).amp = (takeOverload i s).amp := by simp
        rw [hsettled, hamp, (latchStep_settle _).ampFault]
        exact ⟨rfl, rfl, rfl, rfl, hfault, fun hno => hno.elim (absurd hrun.1) (absurd hrun.2)⟩
      · have hno : s.amp.state ≠ .ready ∨ s.engine.runState ≠ .running := not_and_or.1 hrun
        obtain ⟨hoff, hon⟩ := takeOverload_idle_faults (i := i) ha hno
        by_cases hp : s.coord.poller = .off
        · rw [hoff hp, settle_of_quiet (ampFault (debounced i .held s)) hq]
          exact ⟨rfl, rfl, rfl, rfl, rfl, fun _ => ⟨rfl, rfl, rfl, fun _ => ⟨rfl, rfl⟩, fun hc => absurd hp hc⟩⟩
        · have hsettled : settle (takeOverload i s) = takeOverload i s :=
            settle_of_quiet _ (by rw [hon hp]; exact hq)
          rw [hsettled, hon hp]
          exact ⟨rfl, rfl, rfl, rfl, rfl, fun _ => ⟨rfl, rfl, rfl, fun hc => absurd hc hp, fun _ => rfl⟩⟩
    · obtain ⟨hnotices, hrest⟩ := takeOverload_aborts (i := i) ha hr hh hroom hq
      rw [settle_of_quiet _ hnotices]
      exact hrest

end Sys2Proof.Proofs
end

section
/-! The supply-fail line (R60, R98, R99). -/

namespace Sys2Proof.Proofs

open Sys2Proof.Machine Sys2Proof.Safety Sys2Proof.Claims

variable {s t u : State} {l : Label} {r : EndReason}

/-! ### Held operates resolved with room for their marks -/

/-- One held operate places at most one mark. -/
theorem firstOperateMark_room (h : Room s) (i : InputNo) :
    (firstOperateMark i s).link.notices = s.link.notices ∧
      (firstOperateMark i s).link.tx.length ≤ s.link.tx.length + 1 := by
  have stays (n : Nat) : n ≤ n + 1 := Nat.le_succ n
  unfold firstOperateMark
  (repeat' split)
  · exact ⟨rfl, stays _⟩
  · next c _ _ =>
    have hroom : Room (s.modEngine fun g => { g with firstOperates := setAt g.firstOperates i true }) := h
    refine ⟨queueMark_room_notices hroom c s.now, ?_⟩
    cases hl : s.engine.runLabel with
    | none =>
      rw [queueMark_unlabelled (s := s.modEngine fun g => { g with firstOperates := setAt g.firstOperates i true }) hl]
      exact stays _
    | some l =>
      rw [queueMark_room hroom (l := l) hl]
      exact (insertByPriority_perm _ _).length_eq.le
  · exact ⟨rfl, stays _⟩
  · exact ⟨rfl, stays _⟩

/-- Held operates place at most one mark each. -/
theorem takeHeld_room {hs : List HeldOperate} (hm : s.link.state ≠ .muted) (hlen : s.link.tx.length + hs.length < 8) :
    (takeHeld hs s).link.notices = s.link.notices ∧ (takeHeld hs s).link.tx.length ≤ s.link.tx.length + hs.length := by
  induction hs generalizing s with
  | nil => exact ⟨rfl, le_rfl⟩
  | cons h hs ih =>
    rw [List.length_cons] at hlen ⊢
    obtain ⟨w, hw, hlink⟩ : ∃ w, takeHeld (h :: hs) s = takeHeld hs (firstOperateMark h.bi w) ∧ w.link = s.link := by
      cases he : h.edge with
      | none => exact ⟨s, by simp [takeHeld, he], rfl⟩
      | some e => exact ⟨attributeEdge h.bi e s, by simp [takeHeld, he], by simp⟩
    have hroom : Room w := by rw [Room, hlink]; exact ⟨hm, by omega⟩
    obtain ⟨hnotices, hstep⟩ := firstOperateMark_room hroom h.bi
    rw [hlink] at hnotices hstep
    obtain ⟨hnotices', hlen'⟩ := ih (s := firstOperateMark h.bi w) (by simpa [hlink] using hm) (by omega)
    rw [hw]
    exact ⟨hnotices'.trans hnotices, by omega⟩

/-- An abort whose held operates find room for their marks tells nobody anything, and leaves room. -/
theorem abortUnderWay_room (hm : s.link.state ≠ .muted) (hlen : s.link.tx.length + s.engine.held.length < 8)
    (r : EndReason) :
    (abortUnderWay r s).link.notices = s.link.notices ∧ Room (abortUnderWay r s) := by
  obtain ⟨hnotices, hle⟩ := takeHeld_room (s := s.modEngine fun g => { g with held := [] }) (hs := s.engine.held) hm hlen
  have hlink : (abortUnderWay r s).link =
      (withdrawRunMarks (closeVisit (abortBegun r s).now .abort (abortBegun r s))).link := by
    rw [abortUnderWay_begun]
    simp
  have hsub : (abortUnderWay r s).link.tx.Sublist (resolveHeld s).link.tx := by
    rw [hlink]
    exact (withdrawRunMarks_tx_sublist _).trans (closeVisit_tx_sublist _ _ (abortBegun r s))
  refine ⟨?_, by simpa using hm, ?_⟩
  · have hheld : (resolveHeld s).link.notices = s.link.notices := hnotices
    rw [hlink]
    simpa [abortBegun] using hheld
  · exact Nat.lt_of_le_of_lt (hsub.length_le.trans hle) hlen

/-! ### The abort at an assertion (R60) -/

/-- What an abort of an active run leaves of the run, in whatever state it is. -/
theorem abortRun_active (h : s.runActive = true) (hr : (r == .notReady) = false)
    (hroom : s.link.state ≠ .muted ∧ s.link.tx.length + s.engine.held.length < 8)
    (hlevels : s.engine.boLevels = s.plan.items.header.boRest) :
    (abortRun r s).engine.runState = .aborted ∧ (abortRun r s).engine.endReason = r ∧
      (abortRun r s).engine.runLabel = s.engine.runLabel ∧ (abortRun r s).store.reserve = none ∧
      (abortRun r s).engine.boLevels = s.plan.items.header.boRest ∧
      (s.runUnderWay = true → (abortRun r s).engine.visit = none ∧ (abortRun r s).eval.pendingList = []) ∧
      (abortRun r s).link.notices = s.link.notices ∧ Room (abortRun r s) := by
  obtain ⟨hm, hlen⟩ := hroom
  cases hu : s.runUnderWay with
  | true =>
    obtain ⟨hstate, hreason, hlabel, hvisit, hrest, hpending, hreserve, -⟩ := abortUnderWay_engine r s
    obtain ⟨hnotices, hroom⟩ := abortUnderWay_room hm hlen r
    rw [abortRun, if_pos hu]
    exact ⟨hstate, hreason, hlabel, hreserve, hrest, fun _ => ⟨hvisit, hpending⟩, hnotices, hroom⟩
  | false =>
    have harmed : s.engine.runState = .armed := by
      simp only [State.runActive, State.runUnderWay, Bool.or_eq_true, Bool.or_eq_false_iff, beq_iff_eq] at h hu
      simp_all
    have he : abortRun r s = abortArmed r s := by simp [abortRun, hu, harmed]
    have hsub := abortArmed_tx_sublist hr s
    rw [he]
    refine ⟨by rw [abortArmed_silent hr], by rw [abortArmed_silent hr], by rw [abortArmed_silent hr],
      by rw [abortArmed_silent hr], by rw [abortArmed_silent hr]; exact hlevels,
      nofun, by rw [abortArmed_silent hr], ?_, ?_⟩
    · rw [abortArmed_silent hr]
      exact hm
    · have := hsub.length_le
      omega

/-- An ABORT placed at the head, with room in the queue. -/
theorem queueAbort_head_room (hroom : Room s) (r : EndReason) :
    (queueAbort r true s).link.notices = s.link.notices ∧
      ∀ l, s.engine.runLabel = some l →
        (queueAbort r true s).link.tx.head?.map (·.frame) = some (groupFrame (.abort l r) .engine) := by
  cases hl : s.engine.runLabel with
  | none => exact ⟨by simp [queueAbort, hl], nofun⟩
  | some l =>
    have he : queueAbort r true s = place (groupFrame (.abort l r) .engine) true s := by
      simp only [queueAbort, hl]
      rfl
    rw [he, place_head_room hroom]
    refine ⟨rfl, fun m hm => ?_⟩
    obtain rfl := Option.some.inj hm
    rfl

/-! ### The supervisor at an assertion (R98) -/

theorem ampSupplyFail_eq (s : State) :
    ampSupplyFail s = { s with amp := (ampSupplyFail s).amp, status := (ampSupplyFail s).status } := by
  unfold ampSupplyFail ampStandby ampFault
  (repeat' split) <;> rfl

theorem ampSupplyFail_status (s : State) : (ampSupplyFail s).status =
    { s.status with latch := { s.status.latch with ampFault := (ampSupplyFail s).status.latch.ampFault } } := by
  unfold ampSupplyFail ampStandby ampFault
  (repeat' split) <;> rfl

/-- R98, by the supervisor's state. -/
theorem ampSupplyFail_table (s : State) :
    (s.amp.state = .absent → (ampSupplyFail s).amp.state = .absent) ∧
      (s.amp.state ≠ .absent → s.amp.state ≠ .standby → inOverload s.amp = false →
        (ampSupplyFail s).amp.state = .standby ∧ (ampSupplyFail s).amp.warmUp = none ∧ (ampSupplyFail s).amp.idle = none ∧
          (ampSupplyFail s).amp.aen = false ∧ (ampSupplyFail s).status.latch.ampFault = s.status.latch.ampFault) ∧
      (s.amp.state ≠ .absent → s.amp.state ≠ .standby → inOverload s.amp = true →
        (ampSupplyFail s).amp.state = .faulted ∧ (ampSupplyFail s).amp.aen = false ∧
          (ampSupplyFail s).status.latch.ampFault = true) ∧
      (s.amp.state = .standby → (ampSupplyFail s).amp.state = .standby) := by
  have acts (h : s.amp.state ≠ .absent) (h' : s.amp.state ≠ .standby) : ampSupplyFail s = ampStandby s := by
    cases ha : s.amp.state with
    | absent => exact absurd ha h
    | standby => exact absurd ha h'
    | warming => simp [ampSupplyFail, ha]
    | ready => simp [ampSupplyFail, ha]
    | faulted => simp [ampSupplyFail, ha]
  refine ⟨fun h => by simp [ampSupplyFail, h], fun h h' ho => ?_, fun h h' ho => ?_, fun h => by simp [ampSupplyFail, h]⟩
  · have he : ampStandby s = { s with amp := { s.amp with state := .standby, warmUp := none, idle := none } } := by
      simp [ampStandby, ho, State.modAmp]
    rw [acts h h', he]
    exact ⟨rfl, rfl, rfl, rfl, rfl⟩
  · have he : ampStandby s = ampFault s := by simp [ampStandby, ho]
    rw [acts h h', he]
    exact ⟨rfl, rfl, rfl⟩

/-- The line asserted, the outputs at rest. -/
def supplyFailed (s : State) : State := { s with supplyFail := true, engine := atRest s }

theorem supplyFails_idle (hf : s.supplyFail = false) (ha : s.runActive = false) :
    supplyFails s = ampSupplyFail (supplyFailed s) := by
  simp only [supplyFails, hf, ha, Bool.false_eq_true, if_false]
  rfl

theorem supplyFails_active (hf : s.supplyFail = false) (ha : s.runActive = true) :
    supplyFails s = ampSupplyFail (queueAbort .supply true (abortRun .supply (supplyFailed s))) := by
  simp only [supplyFails, hf, ha, Bool.false_eq_true, if_false, if_true]
  rfl

theorem abortView_supplyFailed (s : State) : AbortView s (supplyFailed s) :=
  ⟨rfl, rfl, rfl, rfl, rfl, congrArg _ (closeVisit_eval_congr (t := supplyFailed s) (s := s) rfl rfl rfl rfl _ _),
    fun hp hm => ⟨hp, hm, rfl⟩⟩

theorem inOverload_congr {a b : Amplifier} (h : a.debouncers = b.debouncers) : inOverload a = inOverload b := by
  simp only [inOverload, h]

theorem exec_supplyFailAsserted (h : (supplyFails s).link.notices = []) :
    exec .supplyFailAsserted s = .next (supplyFails s) := congrArg _ (settle_of_quiet _ h)

/-- The state of an active run aborted at the assertion, its ABORT placed, before the supervisor acts. -/
def supplyAborted (s : State) : State := queueAbort .supply true (abortRun .supply (supplyFailed s))

/-- What the assertion makes of an active run. -/
theorem supplyAborted_run (ha : s.runActive = true) (hq : Quiet s)
    (hroom : s.link.state ≠ .muted ∧ s.link.tx.length + s.engine.held.length < 8) :
    (supplyAborted s).link.notices = [] ∧ (supplyAborted s).engine.runState = .aborted ∧
      (supplyAborted s).engine.endReason = .supply ∧ (supplyAborted s).engine.runLabel = s.engine.runLabel ∧
      (supplyAborted s).store.reserve = none ∧ (supplyAborted s).engine.boLevels = s.plan.items.header.boRest ∧
      (s.runUnderWay = true → (supplyAborted s).engine.visit = none ∧ (supplyAborted s).eval.pendingList = []) ∧
      ∀ l, s.engine.runLabel = some l →
        (supplyAborted s).link.tx.head?.map (·.frame) = some (groupFrame (.abort l .supply) .engine) := by
  obtain ⟨hstate, hreason, hlabel, hreserve, hlevels, hvisit, hnotices, hroom'⟩ :=
    abortRun_active (s := supplyFailed s) (r := .supply) ha rfl hroom rfl
  obtain ⟨hnotices', hhead⟩ := queueAbort_head_room hroom' .supply
  refine ⟨(hnotices'.trans hnotices).trans hq, ?_, ?_, ?_, (congrArg _ (queueAbort_store _ _ _)).trans hreserve,
      ?_, fun hu => ?_,
    fun l hl => hhead l (hlabel.trans hl)⟩
  · simpa [supplyAborted] using hstate
  · simpa [supplyAborted] using hreason
  · simp only [supplyAborted, queueAbort_frame]
    exact hlabel
  · simp only [supplyAborted, queueAbort_frame]
    exact hlevels
  · simpa [supplyAborted] using hvisit hu

/-- What the assertion leaves of the other blocks, before the supervisor acts. -/
theorem supplyAborted_frame (s : State) :
    (supplyAborted s).supplyFail = true ∧ (supplyAborted s).amp.state = s.amp.state ∧
      (supplyAborted s).amp.debouncers = s.amp.debouncers ∧
      (supplyAborted s).status.latch.ampFault = s.status.latch.ampFault ∧ (supplyAborted s).plan = s.plan ∧
      (supplyAborted s).cond = s.cond ∧ (supplyAborted s).gather = s.gather ∧ (supplyAborted s).clock = s.clock := by
  have hlatch := ((latchStep_abortRun .supply (supplyFailed s)).trans (latchStep_queueAbort .supply true _)).ampFault
  refine ⟨?_, ?_, ?_, hlatch, ?_, ?_, ?_, ?_⟩ <;> simp only [supplyAborted, queueAbort_frame, abortRun_frame] <;> rfl

/-- Settles O5: the supervisor's table, behind the abort of a run that is active. -/
theorem supplyFailLine : Obligations.SupplyFailLine := by
  unfold Obligations.SupplyFailLine
  refine ⟨fun s hf hq hroom => ?_, fun s hf hq => ?_, fun s => rfl⟩
  · cases ha : s.runActive with
    | false =>
      have hidle := supplyFails_idle hf ha
      obtain ⟨habsent, hstandby, hfaulted, hstays⟩ := ampSupplyFail_table (supplyFailed s)
      have heq := ampSupplyFail_eq (supplyFailed s)
      have hdeb : (ampSupplyFail (supplyFailed s)).amp.debouncers = s.amp.debouncers := by simp [supplyFailed]
      refine ⟨_, exec_supplyFailAsserted (by rw [hidle, heq]; exact hq), ?_⟩
      rw [hidle]
      refine ⟨by rw [heq]; rfl, by rw [heq]; rfl, habsent, hstandby, hfaulted, hstays, hdeb,
        fun _ => ⟨heq, ampSupplyFail_status _⟩, nofun⟩
    | true =>
      have hact := supplyFails_active hf ha
      obtain ⟨hnotices, hstate, hreason, hlabel, hreserve, hlevels, hvisit, hhead⟩ := supplyAborted_run ha hq (hroom ha)
      obtain ⟨hsupply, hamp, hdeb, hlatch, hplan, hcond, hgather, hclock⟩ := supplyAborted_frame s
      obtain ⟨habsent, hstandby, hfaulted, hstays⟩ := ampSupplyFail_table (supplyAborted s)
      have hover : inOverload (supplyAborted s).amp = inOverload s.amp := inOverload_congr hdeb
      rw [hamp, hover, hlatch] at hstandby
      rw [hamp, hover] at hfaulted
      rw [hamp] at habsent hstays
      have hstep : supplyFails s = { supplyAborted s with
          amp := (ampSupplyFail (supplyAborted s)).amp, status := (ampSupplyFail (supplyAborted s)).status } :=
        hact.trans (ampSupplyFail_eq (supplyAborted s))
      refine ⟨_, exec_supplyFailAsserted (by rw [hstep]; exact hnotices), ?_⟩
      rw [hstep]
      refine ⟨hsupply, hlevels, habsent, hstandby, hfaulted, hstays, ?_, nofun, fun _ => ⟨hstate, hreason, hlabel, hreserve,
        hvisit, fun hu hinv hh => ?_, hhead, hplan, hcond, hgather, hclock⟩⟩
      · have : (ampSupplyFail (supplyAborted s)).amp.debouncers = (supplyAborted s).amp.debouncers := by simp
        exact this.trans hdeb
      · have hi : Inv (supplyFailed s) := (inv_of_runInvariant s hinv).2.same rfl rfl
        have hrun : abortRun .supply (supplyFailed s) = abortUnderWay .supply (supplyFailed s) := if_pos hu
        refine AbortRecords.of_view (abortRecords_abort hi hu hh ?_) (abortView_supplyFailed s)
        rw [← hrun]
        exact queueAbort_store _ _ _
  · refine (congrArg Host.Outcome.next ?_ : _ = Host.Outcome.next s)
    have he : supplyFails s = s := by simp [supplyFails, hf]
    rw [he, settle_of_quiet s hq]

end Sys2Proof.Proofs
end

section
/-! The payload of a GATHER-DONE (R174, R190): sixteen 3-bit statuses in six bytes. -/

namespace Sys2Proof.Proofs

open Sys2Proof.Machine Sys2Proof.Safety Sys2Proof.Claims

variable {l : Label} {r : Report}

/-! ### Numbers spelt by bits -/

theorem foldl_bits (bs : List Bool) (n : Nat) :
    bs.foldl (fun a b => 2 * a + b.toNat) n = n * 2 ^ bs.length + numOfBits bs := by
  induction bs generalizing n with
  | nil => simp [numOfBits]
  | cons b bs ih =>
    have h0 : numOfBits (b :: bs) = (2 * 0 + b.toNat) * 2 ^ bs.length + numOfBits bs := ih (2 * 0 + b.toNat)
    rw [List.foldl_cons, ih, h0, List.length_cons, pow_succ]
    ring

theorem numOfBits_append (as bs : List Bool) : numOfBits (as ++ bs) = numOfBits as * 2 ^ bs.length + numOfBits bs := by
  rw [numOfBits, List.foldl_append]
  exact foldl_bits bs _

theorem numOfBits_lt (bs : List Bool) : numOfBits bs < 2 ^ bs.length := by
  simpa using numOfBits_reverse_lt bs.reverse

theorem numOfBits_bitsOf_three {n : Nat} (h : n < 8) : numOfBits (bitsOf 3 n) = n := by
  interval_cases n <;> rfl

/-- The bits of 3-bit codes. -/
def codeBits (cs : List Nat) : List Bool := cs.flatMap (bitsOf 3)

theorem codeBits_length (cs : List Nat) : (codeBits cs).length = 3 * cs.length := by
  induction cs with
  | nil => rfl
  | cons c cs ih =>
    rw [codeBits, List.flatMap_cons, List.length_append, bitsOf_length, List.length_cons]
    have : (cs.flatMap (bitsOf 3)).length = 3 * cs.length := ih
    omega

/-- Each code is one octal digit of the number that the bits spell. -/
theorem digit_codeBits {cs : List Nat} (h : ∀ c ∈ cs, c < 8) {i : Nat} (hi : i < cs.length) :
    numOfBits (codeBits cs) / 8 ^ (cs.length - 1 - i) % 8 = cs[i] := by
  have hsplit : cs = cs.take i ++ cs[i] :: cs.drop (i + 1) := by
    rw [List.getElem_cons_drop, List.take_append_drop]
  have hc : cs[i] < 8 := h _ (List.getElem_mem hi)
  have hpow : (2 : Nat) ^ (3 * (cs.drop (i + 1)).length) = 8 ^ (cs.length - 1 - i) := by
    rw [pow_mul, List.length_drop, show cs.length - (i + 1) = cs.length - 1 - i by omega]
    rfl
  have hlow := numOfBits_lt (codeBits (cs.drop (i + 1)))
  have hbits : numOfBits (codeBits cs) =
      (numOfBits (codeBits (cs.take i)) * 8 + cs[i]) * 8 ^ (cs.length - 1 - i) +
        numOfBits (codeBits (cs.drop (i + 1))) := by
    have happ : codeBits cs = (codeBits (cs.take i) ++ bitsOf 3 cs[i]) ++ codeBits (cs.drop (i + 1)) := by
      conv_lhs => rw [hsplit]
      simp only [codeBits, List.flatMap_append, List.flatMap_cons, List.append_assoc]
    rw [happ, numOfBits_append, numOfBits_append, bitsOf_length, numOfBits_bitsOf_three hc, codeBits_length, hpow]
    rfl
  rw [codeBits_length, hpow] at hlow
  rw [hbits, Nat.add_comm, Nat.add_mul_div_right _ _ (by positivity), Nat.div_eq_of_lt hlow]
  omega

/-! ### Bits packed in bytes -/

/-- The number spelt by bytes, most significant first. -/
def numOfBytes (p : List Byte) : Nat := p.foldl (fun a b => a * 256 + b.toNat) 0

theorem foldl_bytes (p : List Byte) (n : Nat) :
    p.foldl (fun a b => a * 256 + b.toNat) n = n * 256 ^ p.length + numOfBytes p := by
  induction p generalizing n with
  | nil => simp [numOfBytes]
  | cons b p ih =>
    have h0 : numOfBytes (b :: p) = (0 * 256 + b.toNat) * 256 ^ p.length + numOfBytes p := ih (0 * 256 + b.toNat)
    rw [List.foldl_cons, ih, h0, List.length_cons, pow_succ]
    ring

theorem packBits_length (k : Nat) (bs : List Bool) : (packBits k bs).length = k := by
  induction k generalizing bs with
  | zero => rfl
  | succ k ih => simp [packBits, ih]

theorem numOfBytes_packBits {k : Nat} {bs : List Bool} (h : bs.length = 8 * k) :
    numOfBytes (packBits k bs) = numOfBits bs := by
  induction k generalizing bs with
  | zero =>
    obtain rfl : bs = [] := List.eq_nil_of_length_eq_zero h
    rfl
  | succ k ih =>
    have hdrop : (bs.drop 8).length = 8 * k := by rw [List.length_drop]; omega
    have htake : (bs.take 8).length = 8 := by rw [List.length_take]; omega
    have hbyte : (byte (numOfBits (bs.take 8))).toNat = numOfBits (bs.take 8) := by
      have := numOfBits_lt (bs.take 8)
      rw [htake] at this
      simpa [byte] using Nat.mod_eq_of_lt this
    rw [packBits, numOfBytes, List.foldl_cons, foldl_bytes, ih hdrop, packBits_length, hbyte]
    conv_rhs => rw [← List.take_append_drop 8 bs, numOfBits_append, hdrop, pow_mul]
    simp

theorem statusCode_lt (x : StationStatus) : x.code < 8 := by cases x <;> decide

/-- The statuses of a report as the number that their six bytes spell. -/
theorem digit_status (v : Vector StationStatus 16) (i : StationNo) :
    numOfBits (v.toList.flatMap fun x => bitsOf 3 x.code) / 8 ^ (15 - i.val) % 8 = (v.get i).code := by
  have hcodes : (v.toList.flatMap fun x => bitsOf 3 x.code) = codeBits (v.toList.map (·.code)) := by
    simp [codeBits, List.flatMap_map]
  have hlen : (v.toList.map (·.code)).length = 16 := by simp
  have hdigit := digit_codeBits (cs := v.toList.map (·.code)) (i := i.val)
    (by simp only [List.mem_map]; rintro _ ⟨x, -, rfl⟩; exact statusCode_lt x) (by rw [hlen]; exact i.isLt)
  simp only [hlen, Nat.reduceSub] at hdigit
  rw [hcodes, hdigit]
  simp [Vector.get_eq_getElem]

/-- Six bytes from position 3 of a payload, as one number. -/
theorem num_six (a b c b0 b1 b2 b3 b4 b5 : Byte) (rest : List Byte) :
    num4 (a :: b :: c :: b0 :: b1 :: b2 :: b3 :: b4 :: b5 :: rest) 3 * 65536 +
        num2 (a :: b :: c :: b0 :: b1 :: b2 :: b3 :: b4 :: b5 :: rest) 7 =
      numOfBytes [b0, b1, b2, b3, b4, b5] := by
  simp [num4, num2, byteAt, numOfBytes]
  ring

theorem exists_six {p : List Byte} (h : p.length = 6) : ∃ b0 b1 b2 b3 b4 b5, p = [b0, b1, b2, b3, b4, b5] := by
  match p, h with
  | [b0, b1, b2, b3, b4, b5], _ => exact ⟨b0, b1, b2, b3, b4, b5, rfl⟩

/-! ### GATHER-DONE (R190) -/

theorem byte_toNat_of_lt {n : Nat} (h : n < 256) : (byte n).toNat = n := (byte_toNat n).trans (Nat.mod_eq_of_lt h)

theorem donePayload_gatherDonePayload (l : Label) (r : Report) : DonePayload l r (gatherDonePayload l r) := by
  have hbits : (r.status.toList.flatMap fun x => bitsOf 3 x.code).length = 8 * 6 := by
    have h := codeBits_length (r.status.toList.map (·.code))
    simpa [codeBits, List.flatMap_map] using h
  obtain ⟨b0, b1, b2, b3, b4, b5, hsix⟩ := exists_six (packBits_length 6 (r.status.toList.flatMap fun x => bitsOf 3 x.code))
  have hnum := numOfBytes_packBits hbits
  rw [hsix] at hnum
  have hp : gatherDonePayload l r = l :: byte r.outcome.code :: byte (orNone r.outcome.halting) :: b0 :: b1 :: b2 :: b3 ::
      b4 :: b5 :: byte (r.entries.length / 256) :: byte r.entries.length :: [byte (bit r.truncated 1)] := by
    rw [gatherDonePayload, hsix]
    rfl
  rw [hp]
  refine ⟨rfl, rfl, fun ho => ?_, fun x ho => ?_, fun i => ?_, fun hlen => ?_, ?_⟩
  · rw [ho]
    exact ⟨rfl, rfl⟩
  · rw [ho]
    refine ⟨rfl, ?_⟩
    cases x with
    | none => rfl
    | some st => exact byte_toNat_of_lt (Nat.lt_trans st.isLt (by decide))
  · rw [num_six, hnum]
    exact digit_status r.status i
  · have h1 := byte_toNat_of_lt (n := r.entries.length / 256) (by omega)
    have h2 : (byte r.entries.length).toNat = r.entries.length % 256 := byte_toNat _
    simp only [num2, byteAt, List.getD_cons_succ, List.getD_cons_zero, h1, h2]
    omega
  · cases ht : r.truncated <;> simp [byteAt, bit, byte]

end Sys2Proof.Proofs
end

section
/-! The sweep of a gather (R168 to R174): the next station, the end of a gather, a station closed, and what the outcomes of
frames leave of a station that is closed and of a gather that is over. -/

namespace Sys2Proof.Proofs

open Sys2Proof.Machine Sys2Proof.Safety Sys2Proof.Claims

variable {s t u : State} {c d : Cursor} {st i : StationNo} {x : StationStatus} {o : GatherOutcome} {set : Vector Bool 16}
  {low : Nat} {q : List TxEntry}

/-! ### The next station of a sweep (R168) -/

theorem nextStation_none : nextStation set low = none ↔ ∀ j : StationNo, low ≤ j.val → set.get j = false := by
  simp [nextStation, List.find?_eq_none]
  exact forall_congr' fun j => by cases set.get j <;> simp

theorem nextStation_some (h : nextStation set low = some i) :
    set.get i = true ∧ low ≤ i.val ∧ ∀ j : StationNo, low ≤ j.val → j < i → set.get j = false := by
  obtain ⟨hi, k, hk, hat, hbefore⟩ := List.find?_eq_some_iff_getElem.1 h
  obtain ⟨hset, hlow⟩ := Bool.and_eq_true_iff.1 hi
  have hki : k = i.val := by simpa using congrArg Fin.val hat
  refine ⟨hset, of_decide_eq_true hlow, fun j hj hji => ?_⟩
  have hnot := hbefore j.val (by rw [hki]; exact hji)
  simpa [hj] using hnot

/-- The lowest station of a set at or above a number is the next one. -/
theorem nextStation_eq (hset : set.get i = true) (hlow : low ≤ i.val)
    (hfirst : ∀ j : StationNo, low ≤ j.val → j < i → set.get j = false) : nextStation set low = some i := by
  cases h : nextStation set low with
  | none => exact absurd (nextStation_none.1 h i hlow) (by simp [hset])
  | some k =>
    obtain ⟨hk, hlowk, hfirstk⟩ := nextStation_some h
    rcases lt_trichotomy k i with hlt | rfl | hlt
    · exact absurd (hfirst k hlowk hlt) (by simp [hk])
    · rfl
    · exact absurd (hfirstk i hlow hlt) (by simp [hset])

/-! ### The end of a gather (R174, R176) -/

/-- The Gather Engine at the end of a gather. -/
def endedGather (o : GatherOutcome) (s : State) : GatherEngine :=
  { s.gather with
    state := .done, cursor := none
    report := { s.gather.report with
      terms := tabulate fun k => termResult s.plan.items.header.rounding (s.plan.items.terms.get k) s.gather.report
      rounding := s.plan.items.header.rounding, outcome := o } }

theorem endGather_eq (c : Cursor) (o : GatherOutcome) (s : State) :
    endGather c o s = sendGatherDone c.label c.requester { s with gather := endedGather o s } := rfl

theorem endGather_gather (c : Cursor) (o : GatherOutcome) (s : State) : (endGather c o s).gather = endedGather o s := by
  rw [endGather_eq]
  simp

/-- The GATHER-DONE of a report. -/
def gatherDone (l : Label) (st : StationNo) (tag : Byte) (r : Report) : TxFrame :=
  { dest := some st, tag := tag, body := .reply 24 (gatherDonePayload l r), owner := .gatherEngine }

theorem endGather_requester {tag : Byte} (h : c.requester = some (st, tag)) (o : GatherOutcome) (s : State) :
    endGather c o s = place (gatherDone c.label st tag (endedGather o s).report) false
      { s with gather := endedGather o s } := by
  rw [endGather_eq, h]
  rfl

theorem endGather_no_requester (h : c.requester = none) (o : GatherOutcome) (s : State) :
    endGather c o s = { s with gather := endedGather o s } := by
  rw [endGather_eq, h]
  rfl

/-- With room in the queue the end of a gather touches the gather and the queue alone. -/
theorem endGather_room (h : Room s) (c : Cursor) (o : GatherOutcome) :
    endGather c o s = { s with gather := (endGather c o s).gather, link := (endGather c o s).link } ∧
      (endGather c o s).link.notices = s.link.notices := by
  cases hr : c.requester with
  | none => exact ⟨by rw [endGather_no_requester hr], by rw [endGather_no_requester hr]⟩
  | some r =>
    obtain ⟨st, tag⟩ := r
    have hroom : Room { s with gather := endedGather o s } := h
    rw [endGather_requester hr, place_room_eq hroom]
    exact ⟨rfl, rfl⟩

/-- What a gather reads of the state `s` out of which it ends in `u`. -/
structure GatherView (v : Vector StationStatus 16) (q : List TxEntry) (s u : State) : Prop where
  gather : ∃ a x, u.gather = { s.gather with state := a, cursor := x, report := { s.gather.report with status := v } }
  plan : u.plan = s.plan
  tx : u.link.tx = q
  nextAge : u.link.nextAge = s.link.nextAge
  state : u.link.state = s.link.state

theorem GatherView.room {v : Vector StationStatus 16} (h : GatherView v q s u) (hm : s.link.state ≠ .muted)
    (hq : q.length < 8) : Room u := ⟨by rw [h.state]; exact hm, by rw [h.tx]; exact hq⟩

/-- The end of a gather under a cursor with the label and the requester of `c`. -/
theorem gatherEnded_endGather {v : Vector StationStatus 16} (h : GatherView v q s u) (hl : d.label = c.label)
    (hr : d.requester = c.requester) (o : GatherOutcome) : GatherEnded c o v q s (endGather d o u) := by
  obtain ⟨⟨a, y, hgather⟩, hplan, htx, hage, hstate⟩ := h
  have hg := endGather_gather d o u
  refine ⟨?_, fun k => ?_, fun hn => ?_, fun st tag hn hlen hm =>
    ⟨gatherDonePayload c.label (endedGather o u).report, ?_, ?_⟩⟩
  · rw [hg]
    simp only [endedGather, hgather, hplan]
  · rw [hg]
    simp only [endedGather, tabulate_get, hplan]
    rfl
  · rw [endGather_no_requester (hr.trans hn)]
    exact htx
  · rw [hg]
    exact donePayload_gatherDonePayload _ _
  · have hroom : Room { u with gather := endedGather o u } :=
      ⟨by rw [← hstate] at hm; exact hm, by rw [← htx] at hlen; exact hlen⟩
    rw [endGather_requester (hr.trans hn), place_room_eq hroom, hl]
    have hnew : ∀ f : TxFrame, newEntry f { u with gather := endedGather o u } = newEntry f s := fun f => by
      simp only [newEntry, hage]
    rw [hnew, ← htx]
    exact inserted_insertByPriority _ _

/-! ### A read of another station (R128, R169) -/

/-- The RECORD-READ of a cursor's index. -/
def readFrame (st : StationNo) (tag : Byte) (c : Cursor) : TxFrame :=
  { dest := some st, tag := tag, body := .recordRead c.label c.index, owner := .gatherEngine }

theorem remoteRead_room (h : Room s) (st : StationNo) (c : Cursor) :
    remoteRead st c s = { s with
      gather := { s.gather with
        tagCounter := s.gather.tagCounter + 1
        cursor := some { c with readTag := some s.gather.tagCounter, deadline := none, repeatAt := none } }
      link := { s.link with
        outstanding := some { station := st, tag := s.gather.tagCounter }
        nextAge := s.link.nextAge + 1
        tx := insertByPriority (newEntry (readFrame st s.gather.tagCounter c) s) s.link.tx } } := by
  refine (place_room_eq (s := { s with
      gather := { s.gather with
        tagCounter := s.gather.tagCounter + 1
        cursor := some { c with readTag := some s.gather.tagCounter, deadline := none, repeatAt := none } }
      link := { s.link with outstanding := some { station := st, tag := s.gather.tagCounter } } }) h _).trans ?_
  rfl

/-! ### The sweep goes on (R168) -/

theorem takeAnswer_eq (st : StationNo) (a : SweepAnswer) (c : Cursor) (s : State) :
    takeAnswer st a c s = { s with gather := (takeAnswer st a c s).gather } := by
  unfold takeAnswer takeRecord closeStation takeNotYet closeStation
  dsimp only
  (repeat' split) <;> rfl

theorem sweepOn_last (h : s.gather.cursor = some c) (hst : c.station = none) (n : Nat) :
    sweepOn (n + 1) s = endGather c .completed s := by
  simp [sweepOn, h, hst]

theorem sweepOn_other (h : s.gather.cursor = some c) (hst : c.station = some st) (hr : c.repeatAt = none)
    (ho : st ≠ s.link.straps.station) (n : Nat) : sweepOn (n + 1) s = remoteRead st c s := by
  simp [sweepOn, h, hst, hr, State.own, ho]

/-- With room in the queue a sweep touches the gather and the link alone, and raises no notice. -/
theorem sweepOn_room (h : Room s) (n : Nat) :
    sweepOn n s = { s with gather := (sweepOn n s).gather, link := (sweepOn n s).link } ∧
      (sweepOn n s).link.notices = s.link.notices := by
  induction n generalizing s with
  | zero => exact ⟨rfl, rfl⟩
  | succ n ih =>
    unfold sweepOn
    split
    · exact ⟨rfl, rfl⟩
    · next c _ =>
      split
      · exact endGather_room h _ _
      · next st _ =>
        split
        · exact ⟨rfl, rfl⟩
        · split
          · have hans := takeAnswer_eq st (ownAnswer c s) c s
            have hroom : Room (takeAnswer st (ownAnswer c s) c s) := by rw [hans]; exact h
            obtain ⟨heq, hnotices⟩ := ih hroom
            exact ⟨heq.trans (by rw [hans]), hnotices.trans (by rw [hans])⟩
          · rw [remoteRead_room h]
            exact ⟨rfl, rfl⟩

/-! ### A station that the sweep has passed -/

/-- The station `st` is closed with the status `x`, and the sweep stands behind it. -/
structure SweptPast (st : StationNo) (x : StationStatus) (s : State) : Prop where
  status : s.gather.report.status.get st = x
  cursor : ∀ c i, s.gather.cursor = some c → c.station = some i → st < i

theorem SweptPast.of_gather (h : SweptPast st x s) (hg : t.gather = s.gather) : SweptPast st x t :=
  ⟨by rw [hg]; exact h.status, fun c i hc hi => h.cursor c i (by rw [← hg]; exact hc) hi⟩

/-- The sweep moves on from the cursor's station. -/
theorem moveOn_lt (h : c.station = some i) (hn : c.moveOn.station = some st) : i < st := by
  rw [Cursor.moveOn, h] at hn
  obtain ⟨-, hlow, -⟩ := nextStation_some hn
  exact hlow

theorem mergeEntry_status (e : ReportEntry) (r : Report) : (mergeEntry e r).status = r.status := by
  unfold mergeEntry
  (repeat' split) <;> rfl

/-- A station behind the cursor is passed still when the cursor's station is closed. -/
theorem SweptPast.closeStation (h : SweptPast st x s) (hi : c.station = some i) (hlt : st < i) (y : StationStatus) :
    SweptPast st x (closeStation i y c s) := by
  refine ⟨?_, fun d k hd hk => ?_⟩
  · exact (setAt_get_ne _ (ne_of_lt hlt) y).trans h.status
  · obtain rfl := Option.some.inj hd
    exact hlt.trans (moveOn_lt hi hk)

theorem SweptPast.takeAnswer (h : SweptPast st x s) (hi : c.station = some i) (hlt : st < i) (a : SweepAnswer) :
    SweptPast st x (takeAnswer i a c s) := by
  have same : ∀ k, c.station = some k → st < k := fun k hk => by
    obtain rfl := Option.some.inj (hi.symm.trans hk)
    exact hlt
  cases a with
  | record kind time contents =>
    refine ⟨(congrArg (·.get st) (mergeEntry_status _ _)).trans h.status, fun d k hd hk => ?_⟩
    obtain rfl := Option.some.inj hd
    exact same k hk
  | none => exact h.closeStation hi hlt _
  | notYet =>
    show SweptPast st x (takeNotYet i c s)
    unfold takeNotYet
    dsimp only
    split
    · split
      · exact h.closeStation hi hlt _
      · refine ⟨h.status, fun d k hd hk => ?_⟩
        obtain rfl := Option.some.inj hd
        exact same k hk
    · exact h.closeStation hi hlt _

theorem SweptPast.endGather (h : SweptPast st x s) (c : Cursor) (o : GatherOutcome) :
    SweptPast st x (endGather c o s) := by
  refine ⟨?_, fun d i hd => ?_⟩
  · rw [endGather_gather]
    exact h.status
  · rw [endGather_gather] at hd
    cases hd

theorem SweptPast.sweepOn (h : SweptPast st x s) (n : Nat) : SweptPast st x (sweepOn n s) := by
  induction n generalizing s with
  | zero => exact h
  | succ n ih =>
    unfold Machine.sweepOn
    split
    · exact h
    · next c hc =>
      split
      · exact h.endGather _ _
      · next i hi =>
        have hlt := h.cursor c i hc hi
        split
        · exact h
        · split
          · exact ih (h.takeAnswer hi hlt _)
          · refine ⟨by simpa using h.status, fun d k hd hk => ?_⟩
            have hcur : (remoteRead i c s).gather.cursor =
                some { c with readTag := some s.gather.tagCounter, deadline := none, repeatAt := none } := by
              simp [remoteRead]
            obtain rfl := Option.some.inj (hcur.symm.trans hd)
            obtain rfl := Option.some.inj (hi.symm.trans hk)
            exact hlt

/-! ### A silent read (R172) -/

theorem readSilent_no_cursor (h : s.gather.cursor = none) : readSilent s = s := by simp [readSilent, h]

theorem readSilent_of (hc : s.gather.cursor = some c) (hst : c.station = some st) :
    readSilent s =
      if c.haltSilence then endGather c (.failed (some st)) (closeStation st .noAnswer c (clearOutstanding s))
      else sweepOn sweepFuel (closeStation st .noAnswer c (clearOutstanding s)) := by
  simp [readSilent, hc, hst]

theorem closeStation_swept (hst : c.station = some st) (y : StationStatus) (s : State) :
    SweptPast st y (closeStation st y c s) := by
  refine ⟨setAt_get_self _ _ _, fun d i hd hi => ?_⟩
  obtain rfl := Option.some.inj hd
  exact moveOn_lt hst hi

/-- The station whose read is silent is NO-ANSWER, and the sweep has passed it. -/
theorem readSilent_swept (hc : s.gather.cursor = some c) (hst : c.station = some st) :
    SweptPast st .noAnswer (readSilent s) := by
  have h := closeStation_swept hst .noAnswer (clearOutstanding s)
  rw [readSilent_of hc hst]
  split
  · exact h.endGather _ _
  · exact h.sweepOn _

theorem SweptPast.readSilent (h : SweptPast st x s) : SweptPast st x (readSilent s) := by
  cases hc : s.gather.cursor with
  | none => rwa [readSilent_no_cursor hc]
  | some c =>
    cases hi : c.station with
    | none => simpa [Machine.readSilent, hc, hi] using h
    | some i =>
      have h' : SweptPast st x (Machine.closeStation i .noAnswer c (clearOutstanding s)) :=
        SweptPast.closeStation (s := clearOutstanding s) (h.of_gather rfl) hi (h.cursor c i hc hi) _
      rw [readSilent_of hc hi]
      split
      · exact h'.endGather _ _
      · exact h'.sweepOn _

/-! ### A station closed with room in the queue (R168, R170 to R172) -/

/-- The state `u` is `s` with another link, whose queue is `q` and has room, and with no read outstanding. -/
structure LinkOnly (q : List TxEntry) (s u : State) : Prop where
  eq : u = { s with link := u.link }
  tx : u.link.tx = q
  nextAge : u.link.nextAge = s.link.nextAge
  state : u.link.state = s.link.state
  straps : u.link.straps = s.link.straps
  room : Room u

theorem LinkOnly.gather (h : LinkOnly q s u) : u.gather = s.gather := by rw [h.eq]

theorem LinkOnly.clearOutstanding (h : LinkOnly q s u) : LinkOnly q s (clearOutstanding u) :=
  ⟨by rw [Machine.clearOutstanding, h.eq]; rfl, h.tx, h.nextAge, h.state, h.straps, h.room⟩

theorem LinkOnly.gatherView (h : LinkOnly q s u) (c : Cursor) (st : StationNo) (x : StationStatus) :
    GatherView (setAt s.gather.report.status st x) q s (closeStation st x c u) := by
  refine ⟨⟨s.gather.state, some c.moveOn, ?_⟩, by rw [h.eq]; rfl, h.tx, h.nextAge, h.state⟩
  rw [h.eq]
  rfl

theorem stationClosed_sweepOn (hst : c.station = some st) (h : LinkOnly q s u) (hout : u.link.outstanding = none)
    (x : StationStatus) (n : Nat) : StationClosed x c st q s (sweepOn (n + 1) (closeStation st x c u)) := by
  have hroom : Room (closeStation st x c u) := h.room
  have hmove : c.moveOn.station = nextStation c.sweepSet (st.val + 1) := by rw [Cursor.moveOn, hst]
  have hcursor : (closeStation st x c u).gather.cursor = some c.moveOn := rfl
  refine ⟨((closeStation_swept hst x u).sweepOn _).status, ?_, fun hlast => ?_, fun i hnext hown => ?_⟩
  · refine ((sweepOn_room hroom (n + 1)).1).trans ?_
    rw [h.eq]
    rfl
  · have hnone : c.moveOn.station = none := by
      cases hn : nextStation c.sweepSet (st.val + 1) with
      | none => rw [hmove, hn]
      | some i =>
        obtain ⟨hset, hlow, hfirst⟩ := nextStation_some hn
        exact absurd ⟨hset, hlow, fun j hj hji => hfirst j hj hji⟩ (hlast i)
    rw [sweepOn_last hcursor hnone]
    exact ⟨gatherEnded_endGather (h.gatherView c st x) rfl rfl _, by simpa using hout⟩
  · obtain ⟨hset, hlt, hfirst⟩ := hnext
    have hsome : c.moveOn.station = some i := hmove.trans (nextStation_eq hset hlt fun j hj hji => hfirst j hj hji)
    have hother : i ≠ (closeStation st x c u).link.straps.station := by
      show i ≠ u.link.straps.station
      rw [h.straps]
      exact hown
    have htag : (closeStation st x c u).gather.tagCounter = s.gather.tagCounter := by simp [h.gather]
    have hmoved : c.moveOn = { c with
        station := some i, index := 0, notYetSince := none, readTag := none, deadline := none, repeatAt := none } := by
      rw [← hsome]
      rfl
    rw [sweepOn_other hcursor hsome rfl hother, remoteRead_room hroom, htag, hmoved]
    refine ⟨?_, rfl, fun _ _ => ?_⟩
    · simp [closeStation, State.modGather, h.gather]
    · have hnew : ∀ f : TxFrame, newEntry f (closeStation st x c u) = newEntry f s := fun f => by
        simp [newEntry, h.nextAge]
      have htx : (closeStation st x c u).link.tx = q := h.tx
      simp only [hnew, htx]
      exact inserted_insertByPriority _ _

/-- A silent read with room in the queue. -/
theorem silentRead_room (hc : s.gather.cursor = some c) (hst : c.station = some st) (h : LinkOnly q s u) :
    SilentRead c st q s (readSilent u) ∧ (readSilent u).link.notices = u.link.notices := by
  have hcu : u.gather.cursor = some c := by rw [h.gather, hc]
  have hclear := h.clearOutstanding
  have hroom : Room (closeStation st .noAnswer c (clearOutstanding u)) := hclear.room
  have hclosed : closeStation st .noAnswer c (clearOutstanding u) =
      { s with
        gather := (closeStation st .noAnswer c (clearOutstanding u)).gather, link := (clearOutstanding u).link } := by
    rw [closeStation, hclear.eq]
    rfl
  refine ⟨⟨(readSilent_swept hcu hst).status, ?_, fun hh => ?_, fun hh => ?_⟩, ?_⟩
  · rw [readSilent_of hcu hst]
    split
    · refine ((endGather_room hroom _ _).1).trans ?_
      rw [hclosed]
    · refine ((sweepOn_room hroom _).1).trans ?_
      rw [hclosed]
  · rw [readSilent_of hcu hst, if_pos hh]
    exact ⟨gatherEnded_endGather (hclear.gatherView c st .noAnswer) rfl rfl _, by simp [clearOutstanding]⟩
  · rw [readSilent_of hcu hst, if_neg (by simp [hh])]
    exact stationClosed_sweepOn hst hclear rfl .noAnswer 1023
  · rw [readSilent_of hcu hst]
    split
    · exact (endGather_room hroom _ _).2
    · exact (sweepOn_room hroom _).2

/-! ### What the owners' reactions leave of the gather -/

theorem GatherEngine.cursor_none {g : GatherEngine} (h : g.cursor = none) (f : Cursor → Cursor) :
    { g with cursor := g.cursor.map f } = g := by
  cases g
  cases h
  rfl

theorem readOutcome_no_cursor (h : s.gather.cursor = none) (dest : Option StationNo) (tag : Byte) (o : FrameOutcome) :
    (readOutcome dest tag o s).gather = s.gather := by
  unfold readOutcome
  split
  · split
    · exact GatherEngine.cursor_none h _
    · rw [readSilent_no_cursor h]
  · rfl

/-- A gather that is over is not touched by the outcome of a frame. -/
theorem react_no_cursor (h : s.gather.cursor = none) (e : TxEntry) (o : FrameOutcome) :
    (react e o s).gather = s.gather := by
  unfold react
  split
  · simp
  · split <;> simp
  · split
    · rfl
    · split
      · simp [gatherRollLost, h]
      · rfl
  · exact readOutcome_no_cursor h _ _ _
  · rfl
  · rfl

theorem settleFor_no_cursor (h : s.gather.cursor = none) (n : Nat) : (settleFor n s).gather = s.gather := by
  induction n generalizing s with
  | zero => rfl
  | succ n ih =>
    unfold settleFor
    split
    · rfl
    · next y rest _ =>
      have hr := react_no_cursor (s := s.modLink fun l => { l with notices := rest }) h y.entry y.outcome
      exact (ih (by rw [hr]; exact h)).trans hr

theorem SweptPast.react (h : SweptPast st x s) (e : TxEntry) (o : FrameOutcome) : SweptPast st x (react e o s) := by
  unfold Machine.react
  split
  · exact h.of_gather (by simp)
  · split
    · exact h.of_gather (by simp)
    · exact h
  · split
    · exact h.of_gather rfl
    · split
      · unfold gatherRollLost
        dsimp only
        split
        · exact SweptPast.endGather (h.of_gather (t := s.modCoord fun u => { u with gatherRoll := none }) rfl) _ _
        · exact h.of_gather rfl
      · exact h
  · unfold readOutcome
    split
    · split
      · refine ⟨h.status, fun c i hc hi => ?_⟩
        obtain ⟨d, hd, rfl⟩ := Option.map_eq_some_iff.1 hc
        exact h.cursor d i hd hi
      · exact h.readSilent
    · exact h
  · exact h
  · exact h

theorem SweptPast.settleFor (h : SweptPast st x s) (n : Nat) : SweptPast st x (settleFor n s) := by
  induction n generalizing s with
  | zero => exact h.of_gather rfl
  | succ n ih =>
    unfold Machine.settleFor
    split
    · exact h
    · next rest _ =>
      exact ih (SweptPast.react (h.of_gather (t := s.modLink fun l => { l with notices := rest }) rfl) _ _)

theorem react_gatherRoll (h : s.coord.gatherRoll = none) (e : TxEntry) (o : FrameOutcome) :
    (react e o s).coord.gatherRoll = none := by
  unfold react gatherRollLost
  dsimp only
  (repeat' split) <;> simp [h]

theorem settleFor_gatherRoll (h : s.coord.gatherRoll = none) (n : Nat) : (settleFor n s).coord.gatherRoll = none := by
  induction n generalizing s with
  | zero => exact h
  | succ n ih =>
    unfold settleFor
    split
    · exact h
    · exact ih (react_gatherRoll (by exact h) _ _)

end Sys2Proof.Proofs
end

section
/-! Frames that end without a frame instant (R53, R118, R123, R125, R126): what DROPPED and CORRUPT do at the owner, and how
a queue places, pushes out and refuses. -/

namespace Sys2Proof.Proofs

open Sys2Proof.Machine Sys2Proof.Safety Sys2Proof.Claims

variable {s t u : State} {e v : TxEntry} {o : FrameOutcome} {q : List TxEntry} {c : Cursor} {st : StationNo}
  {p : PendingMark}
  {l : Label} {d : Instant} {code : MarkCode}

/-! ### What a lost frame does at its owner -/

/-- The state in which the owner of a lost frame acts: the queue `q` is left, and no notice waits. -/
def withQueue (q : List TxEntry) (s : State) : State := { s with link := { s.link with tx := q, notices := [] } }

/-- A frame that has not been heard on the cable (R123). -/
def NotSent (o : FrameOutcome) : Prop := o = .dropped ∨ o = .corrupt

theorem NotSent.not_heard (h : NotSent o) : (o == .delivered || o == .unheard) = false := by
  rcases h with rfl | rfl <;> rfl

theorem markOutcome_lost_pending (h : NotSent o) (hp : s.engine.pendingMark = some p) (ha : p.age = e.age) :
    markOutcome e.age l code d o s = { s with
      engine := { s.engine with
        pendingMark := none, pendingFallback := some { slot := p.slot, instant := p.detection + 20000 } }
      store := (storeEvent l (.markSent code d o none) s).store } := by
  simp only [markOutcome, h.not_heard, Bool.false_eq_true, if_false, logMark]
  rw [storeEvent_eq]
  simp only [hp, ha, if_true]
  rfl

theorem markOutcome_lost_other (h : NotSent o) (hp : ∀ p, s.engine.pendingMark = some p → p.age ≠ e.age) :
    markOutcome e.age l code d o s = { s with store := (storeEvent l (.markSent code d o none) s).store } := by
  simp only [markOutcome, h.not_heard, Bool.false_eq_true, if_false, logMark]
  rw [storeEvent_eq]
  cases hm : s.engine.pendingMark with
  | none => rfl
  | some p => simp only [hp p hm, if_false]

theorem isOutstanding_iff {dest : Option StationNo} {tag : Byte} (hd : dest = some st) :
    isOutstanding dest tag s = true ↔ s.link.outstanding = some { station := st, tag := tag } := by
  subst hd
  unfold isOutstanding
  cases ho : s.link.outstanding with
  | none => exact ⟨nofun, nofun⟩
  | some r =>
    rw [Bool.and_eq_true, beq_iff_eq, beq_iff_eq, Option.some.injEq, Option.some.injEq]
    exact ⟨fun ⟨h1, h2⟩ => by rw [h1, ← h2], fun h => by rw [h]; exact ⟨rfl, rfl⟩⟩

theorem readOutcome_silent {tag : Byte} {dest : Option StationNo} (hd : dest = some st)
    (ho : s.link.outstanding = some { station := st, tag := tag }) (hn : o ≠ .delivered) :
    readOutcome dest tag o s = readSilent s := by
  have hnot : (o == .delivered) = false := by simpa using hn
  rw [readOutcome, if_pos ((isOutstanding_iff hd).2 ho), hnot]
  rfl

theorem readOutcome_stale {tag : Byte} {dest : Option StationNo} (hd : dest = some st)
    (ho : s.link.outstanding ≠ some { station := st, tag := tag }) : readOutcome dest tag o s = s := by
  rw [readOutcome, if_neg (fun h => ho ((isOutstanding_iff hd).1 h))]

theorem NotSent.ne_delivered (h : NotSent o) : o ≠ .delivered := by rcases h with rfl | rfl <;> decide

theorem linkOnly_withQueue (hlen : q.length < 8) (hm : s.link.state ≠ .muted) : LinkOnly q s (withQueue q s) :=
  ⟨rfl, rfl, rfl, rfl, rfl, hm, hlen⟩

/-- The poller's START is lost (R143). -/
theorem pollerStartLost_armed (h : s.engine.runState = .armed) (ha : s.amp.state = .ready ∨ s.amp.state = .absent) :
    pollerStartLost s = { s with
      coord := { s.coord with ownStart := none, poller := .polling, nextPoll := some (s.coord.count + 20000) } } := by
  have hcounts : s.amp.countsReady = true := by simpa [Amplifier.countsReady] using ha
  simp [pollerStartLost, h, hcounts, State.modCoord, Config.pollInterval]

theorem pollerStartLost_off (h : ¬(s.engine.runState = .armed ∧ (s.amp.state = .ready ∨ s.amp.state = .absent))) :
    (pollerStartLost s).coord = pollerOffOf s.coord ∧
      pollerStartLost s = { s with link := (pollerStartLost s).link, coord := (pollerStartLost s).coord } ∧
      (pollerStartLost s).link.notices = s.link.notices := by
  have he : pollerStartLost s = pollerOff (s.modCoord fun c => { c with ownStart := none }) := by
    have hnot : (s.engine.runState == .armed && s.amp.countsReady) = false := by
      simpa [Amplifier.countsReady] using h
    simp [pollerStartLost, hnot]
  rw [he, pollerOff_eq]
  exact ⟨rfl, rfl, rfl⟩

/-- A gather's roll-call is lost (R167): the gather ends FAILED, whatever becomes of its GATHER-DONE. -/
theorem gatherRollLost_of (hc : s.gather.cursor = some c) :
    gatherRollLost s =
      endGather c (.failed none) { s with coord := { s.coord with gatherRoll := none } } := by
  simp [gatherRollLost, State.modCoord, hc]

theorem endGather_no_cursor (c : Cursor) (o : GatherOutcome) (s : State) : (endGather c o s).gather.cursor = none := by
  rw [endGather_gather]
  rfl

/-- What a lost frame does at its owner, whatever the notices that its owner's own frames raise. -/
theorem lost_react (ho : NotSent o) (n : Nat) : Lost e o q s (settleFor n (react e o (withQueue q s))) := by
  have quiet {w : State} (hr : react e o (withQueue q s) = w) (hn : w.link.notices = []) :
      settleFor n (react e o (withQueue q s)) = w := by rw [hr, settleFor_quiet n hn]
  have stored (l c d) : (storeEvent l (.markSent c d o none) (withQueue q s)).store =
      (storeEvent l (.markSent c d o none) s).store := storeEvent_store_of l _ rfl rfl rfl rfl
  refine ⟨fun hb => quiet ?_ rfl, fun l c d p hb hp ha => quiet ?_ rfl, fun l c d hb hp => quiet ?_ rfl,
    fun l hb hs hr ha => quiet ?_ rfl, fun l hb hs hn => ?_, fun l hb hs => quiet ?_ rfl, fun cls hb hr => quiet ?_ rfl,
    fun cls hb hr hg => quiet ?_ rfl, fun cls c hb hr hg hc => ?_, fun l i st c hb hd hout hc hst => ?_,
    fun l i st hb hd hout => quiet ?_ rfl⟩
  · rcases hb with ⟨k, p, hb⟩ | ⟨l, r, hb⟩ <;> simp only [react, hb] <;> rfl
  · simp only [react, hb]
    rw [markOutcome_lost_pending (s := withQueue q s) ho hp ha, stored]
    rfl
  · simp only [react, hb]
    rw [markOutcome_lost_other (s := withQueue q s) ho hp, stored]
    rfl
  · have hown : ((withQueue q s).coord.ownStart == some e.age) = true := beq_iff_eq.2 hs
    simp only [react, hb, hown, if_true]
    exact pollerStartLost_armed (s := withQueue q s) hr ha
  · have hown : ((withQueue q s).coord.ownStart == some e.age) = true := beq_iff_eq.2 hs
    obtain ⟨hcoord, heq, hnotices⟩ := pollerStartLost_off (s := withQueue q s) hn
    have hreact : react e o (withQueue q s) = pollerStartLost (withQueue q s) := by simp only [react, hb, hown, if_true]
    rw [quiet hreact hnotices]
    exact ⟨hcoord, heq⟩
  · have hown : ((withQueue q s).coord.ownStart == some e.age) = false := beq_eq_false_iff_ne.2 hs
    simp only [react, hb, hown]
    rfl
  · have hown : ((withQueue q s).coord.ownRoll == some e.age) = true := beq_iff_eq.2 hr
    simp only [react, hb, hown, if_true]
    rfl
  · have hown : ((withQueue q s).coord.ownRoll == some e.age) = false := beq_eq_false_iff_ne.2 hr
    have hgat : ((withQueue q s).coord.gatherRoll == some e.age) = false := beq_eq_false_iff_ne.2 hg
    simp only [react, hb, hown, hgat]
    rfl
  · have hown : ((withQueue q s).coord.ownRoll == some e.age) = false := beq_eq_false_iff_ne.2 hr
    have hgat : ((withQueue q s).coord.gatherRoll == some e.age) = true := beq_iff_eq.2 hg
    let u : State := { withQueue q s with coord := { s.coord with gatherRoll := none } }
    have hreact : react e o (withQueue q s) = endGather c (.failed none) u := by
      simp only [react, hb, hown, hgat, if_true, Bool.false_eq_true, if_false]
      exact gatherRollLost_of (s := withQueue q s) hc
    have hview : GatherView s.gather.report.status q s u := ⟨⟨_, _, rfl⟩, rfl, rfl, rfl, rfl⟩
    have hgather : (settleFor n (endGather c (.failed none) u)).gather = endedGather (.failed none) u := by
      rw [settleFor_no_cursor (endGather_no_cursor c _ u), endGather_gather]
    rw [hreact, hgather]
    refine ⟨rfl, rfl, rfl, rfl, rfl, settleFor_gatherRoll (by simp [u]) n, fun hfree => ?_⟩
    obtain ⟨heq, hnotices⟩ := endGather_room (hview.room hfree.2 hfree.1) c (.failed none)
    rw [endGather_gather] at heq
    rw [settleFor_quiet n hnotices]
    exact ⟨gatherEnded_endGather hview rfl rfl _, heq⟩
  · have hreact : react e o (withQueue q s) = readSilent (withQueue q s) := by
      simp only [react, hb]
      exact readOutcome_silent hd hout ho.ne_delivered
    rw [hreact]
    refine ⟨((readSilent_swept (s := withQueue q s) hc hst).settleFor n).status, fun hfree => ?_, fun hh => ?_⟩
    · obtain ⟨hsilent, hnotices⟩ := silentRead_room hc hst (linkOnly_withQueue hfree.1 hfree.2)
      rw [settleFor_quiet n hnotices]
      exact hsilent
    · have hend := readSilent_of (s := withQueue q s) hc hst
      rw [if_pos hh] at hend
      rw [hend, settleFor_no_cursor (endGather_no_cursor _ _ _), endGather_gather]
      exact ⟨rfl, rfl⟩
  · simp only [react, hb]
    exact readOutcome_stale hd hout

/-! ### FRAME_CORRUPT (R118) -/

theorem exec_frameCorrupt_none (h : ∀ e ∈ s.link.tx, e.onWire = false) : exec .frameCorrupt s = .next s := by
  show Host.Outcome.next (takeFrameCorrupt s) = _
  simp only [takeFrameCorrupt, onWireEntry_none h]

theorem exec_frameCorrupt (hq : QueuesOk s) (hn : Quiet s) (he : e ∈ s.link.tx) (hw : e.onWire = true) :
    exec .frameCorrupt s = .next (settle (react e .corrupt (withQueue (s.link.tx.filter fun u => u.age ≠ e.age) s))) := by
  show Host.Outcome.next (takeFrameCorrupt s) = _
  have hnotices : s.link.notices = [] := hn
  have hleft : removeEntry e.age s = withQueue (s.link.tx.filter fun u => u.age ≠ e.age) s := by
    rw [withQueue, ← hnotices, ← removeAge_eq]
    rfl
  simp only [takeFrameCorrupt, onWireEntry_mem hq he hw, hleft]

/-- Settles O8: the frame on the wire is lost, and its owner acts. -/
theorem corruptFrameOutcomes : Obligations.CorruptFrameOutcomes := by
  unfold Obligations.CorruptFrameOutcomes
  exact ⟨fun s h => exec_frameCorrupt_none h, fun e s hq hn he hw =>
    ⟨_, exec_frameCorrupt hq hn he hw, lost_react (.inr rfl) _⟩⟩

/-! ### The entry that a full queue pushes out (R125) -/

/-- The entry `v` is pushed out before `u`, or is `u` (R125). -/
def GoesBefore (v u : TxEntry) : Prop := u.priority < v.priority ∨ (u.priority = v.priority ∧ u.age ≤ v.age)

/-- One entry is weighed against the best one so far. -/
def weigh (best : Option TxEntry) (e : TxEntry) : Option TxEntry :=
  if e.onWire then best
  else match best with
    | none => some e
    | some b => if pushedBefore e b then some e else best

theorem pushOutVictim_eq (q : List TxEntry) : pushOutVictim q = q.foldl weigh none := rfl

theorem GoesBefore.not_pushedBefore {x : TxEntry} (h : GoesBefore v x) : pushedBefore x v = false := by
  unfold GoesBefore at h
  simp [pushedBefore]
  omega

theorem GoesBefore.pushedBefore {x : TxEntry} (h : GoesBefore v x) (ha : x.age ≠ v.age) : pushedBefore v x = true := by
  unfold GoesBefore at h
  simp [Machine.pushedBefore]
  omega

/-- The entry found first of all is kept. -/
theorem foldl_weigh_found (h : ∀ x ∈ q, x.onWire = false → GoesBefore v x) : q.foldl weigh (some v) = some v := by
  induction q with
  | nil => rfl
  | cons x xs ih =>
    have hx : weigh (some v) x = some v := by
      cases hw : x.onWire with
      | true => simp [weigh, hw]
      | false => simp [weigh, hw, (h x List.mem_cons_self hw).not_pushedBefore]
    rw [List.foldl_cons, hx]
    exact ih fun y hy => h y (List.mem_cons_of_mem x hy)

theorem foldl_weigh (h : AgesDiffer q) (hv : v ∈ q) (hw : v.onWire = false)
    (hbest : ∀ x ∈ q, x.onWire = false → GoesBefore v x) (best : Option TxEntry)
    (hb : ∀ b ∈ best, GoesBefore v b ∧ b.age ≠ v.age) : q.foldl weigh best = some v := by
  induction q generalizing best with
  | nil => cases hv
  | cons x xs ih =>
    have hrest : ∀ y ∈ xs, y.onWire = false → GoesBefore v y := fun y hy => hbest y (List.mem_cons_of_mem x hy)
    rw [List.foldl_cons]
    by_cases hx : x = v
    · subst hx
      have hstep : weigh best x = some x := by
        cases best with
        | none => simp [weigh, hw]
        | some b =>
          obtain ⟨hgb, hage⟩ := hb b rfl
          simp [weigh, hw, hgb.pushedBefore hage]
      rw [hstep]
      exact foldl_weigh_found hrest
    · have hmem : v ∈ xs := (List.mem_cons.1 hv).resolve_left (Ne.symm hx)
      have hage : x.age ≠ v.age := List.rel_of_pairwise_cons h hmem
      refine ih (List.Pairwise.of_cons h) hmem hrest _ fun b hb' => ?_
      cases hxw : x.onWire with
      | true => exact hb b (by simpa [weigh, hxw] using hb')
      | false =>
        have hx' : GoesBefore v x ∧ x.age ≠ v.age := ⟨hbest x List.mem_cons_self hxw, hage⟩
        cases best with
        | none =>
          obtain rfl : x = b := by simpa [weigh, hxw] using hb'
          exact hx'
        | some w =>
          cases hp : pushedBefore x w with
          | true =>
            obtain rfl : x = b := by simpa [weigh, hxw, hp] using hb'
            exact hx'
          | false => exact hb b (by simpa [weigh, hxw, hp] using hb')

theorem pushOutVictim_of (h : AgesDiffer q) (hv : v ∈ q) (hw : v.onWire = false)
    (hbest : ∀ x ∈ q, x.onWire = false → GoesBefore v x) : pushOutVictim q = some v :=
  foldl_weigh h hv hw hbest none nofun

/-! ### Placing a frame (R125, R130) -/

/-- The drop of an entry, counted and latched, its owner to be told. -/
theorem dropEntry_spec (x : TxEntry) (s : State) :
    (dropEntry x s).status.dropped = min 65535 (s.status.dropped + 1) ∧
      (dropEntry x s).status.latch.txDropped = true ∧ (dropEntry x s).link.tx = s.link.tx ∧
      (dropEntry x s).link.notices = s.link.notices ++ [{ entry := x, outcome := .dropped }] := ⟨rfl, rfl, rfl, rfl⟩

/-- A full queue pushes `v` out for a frame of a higher priority, or for one placed at the head. -/
theorem place_pushOut (hm : s.link.state ≠ .muted) (hl : s.link.tx.length = 8) (hv : pushOutVictim s.link.tx = some v)
    (f : TxFrame) {b : Bool} (h : b = true ∨ f.body.priority < v.priority) :
    place f b s = dropEntry v { s with link := { s.link with
      nextAge := s.link.nextAge + 1
      tx := if b then newEntry f s :: s.link.tx.filter fun u => u.age ≠ v.age
        else insertByPriority (newEntry f s) (s.link.tx.filter fun u => u.age ≠ v.age) } } := by
  have hmuted : (s.link.state == .muted) = false := beq_eq_false_iff_ne.2 hm
  have hfull : ¬s.link.tx.length < Config.txCapacity := by simp [hl, Config.txCapacity]
  have hyes : (b || decide ((newEntry f s).priority < v.priority)) = true := by
    rcases h with rfl | h
    · rfl
    · exact Bool.or_eq_true_iff.2 (.inr (decide_eq_true h))
  unfold newEntry at hyes
  simp only [place, State.modLink, hmuted, hfull, hv, hyes, removeAge_eq, newEntry, Bool.false_eq_true, if_false, if_true]

theorem place_refused (hm : s.link.state ≠ .muted) (hl : s.link.tx.length = 8) (hv : pushOutVictim s.link.tx = some v)
    (f : TxFrame) (h : v.priority ≤ f.body.priority) :
    place f false s = dropEntry (newEntry f s) { s with link := { s.link with nextAge := s.link.nextAge + 1 } } := by
  have hmuted : (s.link.state == .muted) = false := beq_eq_false_iff_ne.2 hm
  have hfull : ¬s.link.tx.length < Config.txCapacity := by simp [hl, Config.txCapacity]
  have hno : (false || decide ((newEntry f s).priority < v.priority)) = false :=
    decide_eq_false (Nat.not_lt.2 h)
  unfold newEntry at hno
  simp only [place, State.modLink, hmuted, hfull, hv, hno, newEntry, Bool.false_eq_true, if_false]

/-- Settles O7: the places of a queue, the victim of a full one, and the owner's reaction to DROPPED. -/
theorem placingAndWithdrawingFrames : Obligations.PlacingAndWithdrawingFrames := by
  unfold Obligations.PlacingAndWithdrawingFrames
  refine ⟨⟨fun f s hm => ?_, fun f s hr => ?_, fun f v s hq hm hl hv hw hbest => ?_, fun f s hr => ?_,
    fun f v s hq hm hl hv hw hbest => ?_⟩, fun e s hq he => ⟨withdraw_waiting (QueuesOk.ages hq) he, fun hb => ?_⟩,
    fun e s hn => ?_⟩
  · obtain ⟨hdropped, hlatch, htx, hnotices⟩ :=
      dropEntry_spec (newEntry f s) (s.modLink fun l => { l with nextAge := l.nextAge + 1 })
    rw [place_muted hm]
    exact ⟨htx, hdropped, hlatch, hnotices⟩
  · rw [place_room_eq hr]
    exact ⟨inserted_insertByPriority _ _, rfl, rfl⟩
  · have hvictim := pushOutVictim_of (QueuesOk.ages hq) hv hw hbest
    rcases Nat.lt_or_ge f.body.priority v.priority with h | h
    · rw [place_pushOut hm hl hvictim f (b := false) (.inr h)]
      exact ⟨rfl, rfl, fun _ => ⟨inserted_insertByPriority _ _, rfl⟩, fun h' => absurd h (Nat.not_lt.2 h')⟩
    · rw [place_refused hm hl hvictim f h]
      exact ⟨rfl, rfl, fun h' => absurd h' (Nat.not_lt.2 h), fun _ => ⟨rfl, rfl⟩⟩
  · rw [place_head_room hr]
  · rw [place_pushOut hm hl (pushOutVictim_of (QueuesOk.ages hq) hv hw hbest) f (b := true) (.inl rfl)]
    exact ⟨rfl, rfl, rfl, rfl⟩
  · exact withdraw_begun fun u hu ha => by rw [(QueuesOk.ages hq).eq hu he ha, hb]
  · have hsettle : settle s = settleFor 63 (react e .dropped (withQueue s.link.tx s)) := by
      show settleFor 64 s = _
      unfold settleFor
      rw [hn]
      rfl
    rw [hsettle]
    exact lost_react (.inl rfl) 63

end Sys2Proof.Proofs
end

section
/-! The frame instant of the part's own frames (R48, R121, R122, R134, R141, R142, R145, R167, R169). -/

namespace Sys2Proof.Proofs

open Sys2Proof.Machine Sys2Proof.Safety Sys2Proof.Claims

variable {s t u : State} {e : TxEntry} {o : FrameOutcome} {c : Cursor} {i st : StationNo} {l : Label} {d : Instant}
  {code : MarkCode} {answers : BitVec 16} {b : Bool} {v : Visit} {set : Vector Bool 16} {r : Report}

/-! ### The own bit of a map (R121, R140) -/

theorem bool_eq_decide {b : Bool} {p : Prop} [Decidable p] (h : b = true ↔ p) : b = decide p := by
  rw [Bool.eq_iff_iff, decide_eq_true_iff]
  exact h

theorem checkView_eq (s : State) : checkView s = viewNow s := by
  have hready : rollCondition .ready s = (viewNow s).ready :=
    bool_eq_decide (by simp [rollCondition, Amplifier.countsReady])
  have hdone : rollCondition .done s = (viewNow s).done := bool_eq_decide (by
    cases hl : s.engine.runLabel with
    | none => simp [rollCondition, hl]
    | some l => simp [rollCondition, hl, @eq_comm _ l])
  have hfault : rollCondition .fault s = (viewNow s).fault := bool_eq_decide (by
    simp [rollCondition, FaultLatch.any, Option.isSome_iff_ne_none, or_assoc])
  rw [checkView, hready, hdone, hfault]
  rfl

theorem viewBefore_eq (n : Nat) (s : State) : viewBefore n s = judgedAt n s := by
  rw [viewBefore, judgedAt, checkView_eq, List.getD_eq_getElem?_getD]

theorem ownRollBit_rollcall (cls : RollClass) (s : State) :
    ownRollBit (.rollcall cls) s = (judgedAt 18 s).condition cls := by
  rw [← viewBefore_eq]
  rfl

/-- A station is in the map that the sender reads where it has answered, and the sender where its own condition holds. -/
theorem mapRead_bit (answers : BitVec 16) (b : Bool) (s : State) (i : StationNo) :
    (mapRead answers b s).getLsbD i.val = true ↔ answers.getLsbD i.val = true ∨ (i = s.link.straps.station ∧ b = true) := by
  cases b with
  | false => simp [mapRead]
  | true =>
    have hbit : (BitVec.ofNat 16 (2 ^ s.own.val)).getLsbD i.val = true ↔ i = s.link.straps.station := by
      rw [BitVec.getLsbD_ofNat, Nat.testBit_two_pow]
      simp [State.own, Fin.ext_iff, eq_comm]
    rw [mapRead, if_pos rfl, BitVec.getLsbD_or, Bool.or_eq_true, hbit]
    simp

/-! ### The part's own MARK (R48, R145) -/

theorem markOutcome_heard_other (ho : o = .delivered ∨ o = .unheard)
    (hp : ∀ p, s.engine.pendingMark = some p → p.age ≠ e.age) :
    markOutcome e.age l code d o s = { s with store := (storeEvent l (.markSent code d o (some s.now)) s).store } := by
  have hheard : (o == .delivered || o == .unheard) = true := by rcases ho with rfl | rfl <;> rfl
  simp only [markOutcome, hheard, if_true, logMark]
  rw [storeEvent_eq]
  cases hm : s.engine.pendingMark with
  | none => rfl
  | some p => simp only [hp p hm, if_false]

theorem outcomeOf_mark (l : Label) (code : MarkCode) (d : Instant) (ack busy : Bool) :
    outcomeOf (.mark l code d) ack busy = if ack = true then .delivered else .unheard := rfl

/-- The record of a MARK at its frame instant, the frame off the queue. -/
def markLogged (e : TxEntry) (l : Label) (c : Contents) (s : State) : State :=
  { s with
    link := { s.link with tx := s.link.tx.filter (fun u => u.age ≠ e.age), drive := noSlots }
    store := (storeEvent l c s).store }

/-- A MARK that no slot waits for leaves its record, and the run that it names hears it. -/
theorem frameEnded_mark (hb : e.frame.body = .mark l code d) (ho : o = .delivered ∨ o = .unheard)
    (hp : ∀ p, s.engine.pendingMark = some p → p.age ≠ e.age) (map : BitVec 16) :
    frameEnded e o map (sentFrame e false s) =
      if s.engine.runLabel = some l then engineMark s.own code (markLogged e l (.markSent code d o (some s.now)) s)
      else markLogged e l (.markSent code d o (some s.now)) s := by
  have hlogged : markOutcome e.age l code d o (sentFrame e false s) =
      markLogged e l (.markSent code d o (some s.now)) s := by
    rw [markOutcome_heard_other (s := sentFrame e false s) ho hp,
      storeEvent_store_of (s := s) (t := sentFrame e false s) l _ rfl rfl rfl rfl]
    rfl
  simp only [frameEnded, hb, hlogged, beq_iff_eq]
  rfl

/-- A run that is not RUNNING, or has no visit current, fires nothing. -/
theorem engineMark_idle (h : s.engine.runState ≠ .running ∨ s.engine.visit = none) (o : StationNo) (c : Byte) :
    engineMark o c s = s := by
  rw [engineMark_eq]
  split
  · next hr =>
    have hv := h.resolve_left fun hn => hn hr
    rw [settleBoundary_no_visit hv, fireSlots_no_visit hv]
  · rfl

/-- A MARK that no slot of the undecided visit listens to fires nothing. -/
theorem engineMark_unheard {o : StationNo} {c : Byte} (hv : s.engine.visit = some v) (hd : s.engine.decided = none)
    (hn : ∀ n, ¬∃ origin target, (s.plan.items.states.get v.state).triggers.get n = .mark c origin target ∧
      (origin = none ∨ origin = some o)) : engineMark o c s = s := by
  rw [engineMark_eq, settleBoundary_undecided hd]
  split
  · refine fireSlots_silent (fun w hw k => ?_) _
    obtain rfl := Option.some.inj (hv.symm.trans hw)
    exact marks_none (hn k)
  · rfl

/-! ### The map of the poller's own roll-call (R142) -/

theorem coversStartSet_iff : coversStartSet answers s = true ↔
    ∀ i : StationNo, s.plan.items.header.startSet.get i = true → answers.getLsbD i.val = true := by
  simp only [coversStartSet, List.all_eq_true, List.mem_finRange, true_implies, Bool.or_eq_true, Bool.not_eq_true']
  refine forall_congr' fun i => ?_
  show s.header.startSet.get i = false ∨ _ ↔ (s.header.startSet.get i = true → _)
  cases s.header.startSet.get i <;> simp

/-- A map that covers the start set queues START. -/
theorem pollerMap_covers (hp : s.coord.poller = .polling) (hl : s.engine.runLabel = some l)
    (hc : coversStartSet answers s = true) (hr : Room s) :
    pollerMap answers s = { s with
      coord := { s.coord with ownRoll := none, poller := .starting, nextPoll := none, ownStart := some s.link.nextAge }
      link := { s.link with
        nextAge := s.link.nextAge + 1
        tx := insertByPriority (newEntry (groupFrame (.start l) .coordination) s) s.link.tx } } := by
  have hyes : ((s.modCoord fun c => { c with ownRoll := none }).coord.poller == .polling &&
      coversStartSet answers (s.modCoord fun c => { c with ownRoll := none })) = true := by
    rw [Bool.and_eq_true, beq_iff_eq]
    exact ⟨hp, hc⟩
  have hl' : (s.modCoord fun c => { c with ownRoll := none }).engine.runLabel = some l := hl
  rw [pollerMap]
  simp only [hyes, if_true, hl']
  exact place_room_eq (s := { s with coord :=
    { s.coord with ownRoll := none, poller := .starting, nextPoll := none, ownStart := some s.link.nextAge } }) hr _

theorem pollerMap_short (hc : coversStartSet answers s = false) :
    pollerMap answers s = { s with coord := { s.coord with ownRoll := none } } := by
  have hno : ((s.modCoord fun c => { c with ownRoll := none }).coord.poller == .polling &&
      coversStartSet answers (s.modCoord fun c => { c with ownRoll := none })) = false := by
    rw [Bool.and_eq_false_iff]
    exact .inr hc
  rw [pollerMap]
  simp only [hno, Bool.false_eq_true, if_false]
  rfl

/-! ### The map of a gather's roll-call (R167) -/

theorem resetStations_get (set : Vector Bool 16) (r : Report) (j : StationNo) :
    (resetStations set r).status.get j = (if set.get j = true then .notSwept else r.status.get j) ∧
      (resetStations set r).taken.get j = if set.get j = true then 0 else r.taken.get j := by
  simp [resetStations]

theorem resetStations_empty (h : ∀ j, set.get j = false) (r : Report) : resetStations set r = r := by
  have hstatus : (resetStations set r).status = r.status := tabulate_eq fun j => by simp [h j]
  have htaken : (resetStations set r).taken = r.taken := tabulate_eq fun j => by simp [h j]
  have heq : resetStations set r =
    { r with status := (resetStations set r).status, taken := (resetStations set r).taken } := rfl
  rw [heq, hstatus, htaken]

/-- The stations of a map. -/
def mapSet (answers : BitVec 16) : Vector Bool 16 := tabulate fun i => answers.getLsbD i.val

/-- The Gather Engine with the map taken as its sweep set. -/
def mapTaken (answers : BitVec 16) (c : Cursor) (s : State) : State :=
  { s with
    coord := { s.coord with gatherRoll := none }
    gather := { s.gather with
      state := .sweeping, cursor := some (c.begin (mapSet answers))
      report := if c.merge then resetStations (mapSet answers) s.gather.report else s.gather.report } }

theorem gatherMap_eq (hc : s.gather.cursor = some c) (answers : BitVec 16) :
    gatherMap answers s = sweepOn sweepFuel (mapTaken answers c s) := by
  have hc' : (s.modCoord fun u => { u with gatherRoll := none }).gather.cursor = some c := hc
  rw [gatherMap]
  simp only [hc']
  cases hm : c.merge <;> simp only [mapTaken, hm] <;> rfl

/-- An empty map ends the gather with no station read. -/
theorem gatherMap_empty (hc : s.gather.cursor = some c) (he : ∀ j : StationNo, answers.getLsbD j.val = false) :
    gatherMap answers s = endGather (c.begin (mapSet answers)) .completed (mapTaken answers c s) := by
  have hset : ∀ j, (mapSet answers).get j = false := fun j => (tabulate_get _ j).trans (he j)
  rw [gatherMap_eq hc]
  exact sweepOn_last (c := c.begin (mapSet answers)) rfl (nextStation_none.2 fun j _ => hset j) 1023

/-- The lowest station of a map is read at index 0. -/
theorem gatherMap_other (hc : s.gather.cursor = some c) (hi : answers.getLsbD i.val = true)
    (hfirst : ∀ j : StationNo, j < i → answers.getLsbD j.val = false) (ho : i ≠ s.link.straps.station) :
    gatherMap answers s =
      remoteRead i { c.begin (mapSet answers) with station := some i } (mapTaken answers c s) := by
  have hset : ∀ j : StationNo, (mapSet answers).get j = answers.getLsbD j.val := fun j => tabulate_get _ j
  have hnext : nextStation (mapSet answers) 0 = some i :=
    nextStation_eq ((hset i).trans hi) (Nat.zero_le _) fun j _ hj => (hset j).trans (hfirst j hj)
  have hbegin : c.begin (mapSet answers) = { c.begin (mapSet answers) with station := some i } := by
    rw [← hnext]
    rfl
  rw [gatherMap_eq hc]
  refine (sweepOn_other (s := mapTaken answers c s) (c := c.begin (mapSet answers)) rfl hnext rfl ho 1023).trans ?_
  rw [hbegin]

/-- What the map of a gather's roll-call leaves of the report (R166, R167). -/
theorem mapTaken_report (answers : BitVec 16) (c : Cursor) (s : State) (j : StationNo) :
    (mapTaken answers c s).gather.report.entries = s.gather.report.entries ∧
      (c.merge = true ∧ answers.getLsbD j.val = true →
        (mapTaken answers c s).gather.report.status.get j = .notSwept ∧
          (mapTaken answers c s).gather.report.taken.get j = 0) ∧
      (¬(c.merge = true ∧ answers.getLsbD j.val = true) →
        (mapTaken answers c s).gather.report.status.get j = s.gather.report.status.get j ∧
          (mapTaken answers c s).gather.report.taken.get j = s.gather.report.taken.get j) := by
  have hreport : (mapTaken answers c s).gather.report =
      if c.merge then resetStations (mapSet answers) s.gather.report else s.gather.report := rfl
  obtain ⟨hstatus, htaken⟩ := resetStations_get (mapSet answers) s.gather.report j
  have hset : (mapSet answers).get j = answers.getLsbD j.val := tabulate_get _ j
  rw [hset] at hstatus htaken
  rw [hreport]
  cases hm : c.merge with
  | false => exact ⟨rfl, fun h => absurd h.1 nofun, fun _ => ⟨rfl, rfl⟩⟩
  | true =>
    refine ⟨rfl, fun ⟨_, hj⟩ => ?_, fun hno => ?_⟩
    · rw [if_pos rfl, hstatus, htaken, if_pos hj, if_pos hj]
      exact ⟨rfl, rfl⟩
    · have hj : ¬answers.getLsbD j.val = true := fun hj => hno ⟨rfl, hj⟩
      rw [if_pos rfl, hstatus, htaken, if_neg hj, if_neg hj]
      exact ⟨rfl, rfl⟩

/-- What the map of a gather's roll-call makes of the gather whose lowest station is another one. -/
theorem gatherMap_other_read {q : List TxEntry} (hc : s.gather.cursor = some c) (h : LinkOnly q s u)
    (hi : answers.getLsbD i.val = true) (hfirst : ∀ j : StationNo, j < i → answers.getLsbD j.val = false)
    (ho : i ≠ s.link.straps.station) :
    let w := gatherMap answers u
    w.coord = { s.coord with gatherRoll := none } ∧ w.gather.state = .sweeping ∧
      (∃ x, w.gather.cursor = some x ∧ (∀ j, x.sweepSet.get j = true ↔ answers.getLsbD j.val = true) ∧
        x.label = c.label ∧ x.station = some i ∧ x.index = 0 ∧ x.readTag = some s.gather.tagCounter ∧
        x.requester = c.requester) ∧
      w.gather.report = (mapTaken answers c s).gather.report ∧
      w.link.outstanding = some { station := i, tag := s.gather.tagCounter } ∧
      Inserted
        (newEntry { dest := some i, tag := s.gather.tagCounter, body := .recordRead c.label 0, owner := .gatherEngine } s)
        q w.link.tx ∧
      w = { s with coord := w.coord, gather := w.gather, link := w.link } ∧ w.link.notices = u.link.notices := by
  intro w
  have hroom : Room (mapTaken answers c u) := h.room
  have hread : w = _ := (gatherMap_other (by rw [h.gather]; exact hc) hi hfirst (by rw [h.straps]; exact ho)).trans
    (remoteRead_room hroom i _)
  have htag : (mapTaken answers c u).gather.tagCounter = s.gather.tagCounter := by
    simp only [mapTaken, h.gather]
  have hnew : ∀ f : TxFrame, newEntry f (mapTaken answers c u) = newEntry f s := fun f => by
    simp only [newEntry, mapTaken, h.nextAge]
  have hcoord : u.coord = s.coord := by rw [h.eq]
  rw [hread, hnew, htag]
  refine ⟨congrArg (fun x : Coordination => { x with gatherRoll := none }) hcoord, rfl,
    ⟨_, rfl, fun j => by simp [Cursor.begin, mapSet], rfl, rfl, rfl, rfl, rfl⟩, ?_, rfl, ?_, ?_, rfl⟩
  · simp only [mapTaken, h.gather]
  · rw [← h.tx]
    exact inserted_insertByPriority _ _
  · rw [h.eq]
    rfl

/-! ### The frame instant, kind by kind -/

/-- The state behind the frame instant, before the notices are told. -/
def frameDone (e : TxEntry) (ack busy : Bool) (answers : BitVec 16) (s : State) : State :=
  frameEnded e (outcomeOf e.frame.body ack busy) (mapRead answers (ownRollBit e.frame.body s) s)
    (sentFrame e (ownRollBit e.frame.body s) s)

variable {ack busy : Bool}

theorem frameDone_reply {k : Nat} {p : List Byte} (hb : e.frame.body = .reply k p) :
    frameDone e ack busy answers s = sentFrame e false s := by
  simp only [frameDone, frameEnded, hb]
  rfl

theorem frameDone_read {k : Nat} (hb : e.frame.body = .recordRead l k) :
    frameDone e ack busy answers s =
      readOutcome e.frame.dest e.frame.tag (if busy = true then .busy else if ack = true then .delivered else .unheard)
        (sentFrame e false s) := by
  simp only [frameDone, frameEnded, hb]
  rfl

theorem frameDone_ownRoll {cls : RollClass} (hb : e.frame.body = .rollcall cls) (hr : s.coord.ownRoll = some e.age) :
    frameDone e ack busy answers s =
      pollerMap (mapRead answers ((judgedAt 18 s).condition cls) s) (sentFrame e ((judgedAt 18 s).condition cls) s) := by
  have hyes : (s.coord.ownRoll == some e.age) = true := beq_iff_eq.2 hr
  simp only [frameDone, frameEnded, hb, ownRollBit_rollcall, sentFrame, hyes, if_true]

theorem frameDone_gatherRoll {cls : RollClass} (hb : e.frame.body = .rollcall cls) (hr : s.coord.ownRoll ≠ some e.age)
    (hg : s.coord.gatherRoll = some e.age) :
    frameDone e ack busy answers s =
      gatherMap (mapRead answers ((judgedAt 18 s).condition cls) s) (sentFrame e ((judgedAt 18 s).condition cls) s) := by
  have hno : (s.coord.ownRoll == some e.age) = false := beq_eq_false_iff_ne.2 hr
  have hyes : (s.coord.gatherRoll == some e.age) = true := beq_iff_eq.2 hg
  simp only [frameDone, frameEnded, hb, ownRollBit_rollcall, sentFrame, hno, hyes, Bool.false_eq_true, if_false, if_true]

/-- The station's own START is the epoch for it, and the poller is OFF already. -/
theorem frameDone_start (hb : e.frame.body = .start l) (hr : s.engine.runState = .armed) (hl : s.engine.runLabel = some l)
    (ha : s.amp.state = .ready ∨ s.amp.state = .absent) :
    frameDone e ack busy answers s = takeEpoch (sentFrame e false s) := by
  have hcounts : s.amp.countsReady = true := by simpa [Amplifier.countsReady] using ha
  have hstart : engineStart l (sentFrame e false s) = takeEpoch (sentFrame e false s) := by
    simp [engineStart, sentFrame, hr, hl, hcounts]
  have hoff : (takeEpoch (sentFrame e false s)).coord.ownStart = none := by
    rw [takeEpoch_eq, driveContacts_eq]
    rfl
  simp only [frameDone, frameEnded, hb, ownRollBit, hstart, hoff]
  rfl

theorem frameDone_mark (hb : e.frame.body = .mark l code d) (hp : ∀ p, s.engine.pendingMark = some p → p.age ≠ e.age)
    (o : FrameOutcome) (ho : o = if ack = true then .delivered else .unheard) :
    frameDone e ack busy answers s =
      if s.engine.runLabel = some l then engineMark s.own code (markLogged e l (.markSent code d o (some s.now)) s)
      else markLogged e l (.markSent code d o (some s.now)) s := by
  have hown : ownRollBit e.frame.body s = false := by rw [hb]; rfl
  have hout : outcomeOf e.frame.body ack busy = o := by rw [hb, outcomeOf_mark, ho]
  have hheard : o = .delivered ∨ o = .unheard := by
    rw [ho]
    split
    · exact .inl rfl
    · exact .inr rfl
  rw [frameDone, hown, hout, frameEnded_mark hb hheard hp]

/-! ### A gather's map (R167) -/

/-- The end of a gather whose map is empty. -/
theorem gatherMap_empty_ended {q : List TxEntry} (hc : s.gather.cursor = some c) (h : LinkOnly q s u)
    (he : ∀ j : StationNo, answers.getLsbD j.val = false) :
    GatherEnded c .completed s.gather.report.status q s (gatherMap answers u) ∧
      gatherMap answers u = { s with
        coord := { s.coord with gatherRoll := none }
        gather := (gatherMap answers u).gather, link := (gatherMap answers u).link } ∧
      (gatherMap answers u).link.notices = u.link.notices := by
  have hset : ∀ j, (mapSet answers).get j = false := fun j => (tabulate_get _ j).trans (he j)
  have hview : GatherView s.gather.report.status q s (mapTaken answers c u) := by
    refine ⟨⟨.sweeping, some (c.begin (mapSet answers)), ?_⟩, by rw [h.eq]; rfl, h.tx, h.nextAge, h.state⟩
    simp only [mapTaken, resetStations_empty hset, ite_self, h.gather]
  have hroom : Room (mapTaken answers c u) := h.room
  obtain ⟨heq, hnotices⟩ := endGather_room hroom (c.begin (mapSet answers)) .completed
  rw [gatherMap_empty (by rw [h.gather]; exact hc) he]
  refine ⟨gatherEnded_endGather hview rfl rfl _, heq.trans ?_, hnotices⟩
  rw [h.eq]
  rfl

/-- Settles O10: by the kind of the frame. -/
theorem ownFrameOutcomes : Obligations.OwnFrameOutcomes := by
  unfold Obligations.OwnFrameOutcomes
  refine ⟨fun ack busy answers s h => exec_frameOutcome_none h ack busy answers,
    fun e ack busy answers s hqueue hq he hw => ⟨settle (frameDone e ack busy answers s),
      exec_frameOutcome hqueue he hw ack busy answers, ?_⟩⟩
  obtain ⟨hmuted, hlen⟩ := free_of_removed hqueue he
  have hroom : ∀ own, Room (sentFrame e own s) := fun _ => ⟨hmuted, hlen⟩
  have hlink : ∀ own, LinkOnly (s.link.tx.filter fun u => u.age ≠ e.age) s (sentFrame e own s) :=
    fun own => ⟨rfl, rfl, rfl, rfl, rfl, hroom own⟩
  have hnotices : ∀ own, (sentFrame e own s).link.notices = [] := fun _ => hq
  have quiet {w : State} (h : frameDone e ack busy answers s = w) (hn : w.link.notices = []) :
      settle (frameDone e ack busy answers s) = w := by rw [h, settle_of_quiet w hn]
  refine ⟨fun k p hb => quiet (frameDone_reply hb) hq, fun l i st hb hd hack hbusy hout => quiet ?_ hq,
    fun l i st c hb hd hor hout hc hst => ?_,
    fun l i st hb hd hout => quiet ((frameDone_read hb).trans (readOutcome_stale hd hout)) hq,
    fun l hb hown hp hl hcov => ?_, fun i hb hown hset hbit hne => ?_, fun l hb hr hl ha => ?_,
    fun cls c hb hown hg hc hans hcond => ?_, fun cls c i hb hown hg hc => ?_, fun l code d hb hp => ?_⟩
  · have hout' : isOutstanding e.frame.dest e.frame.tag (sentFrame e false s) = true := (isOutstanding_iff hd).2 hout
    rw [frameDone_read hb, hack, hbusy, readOutcome, if_pos hout']
    rfl
  · obtain ⟨hsilent, hn⟩ := silentRead_room hc hst (hlink false)
    have hnot : (if busy = true then FrameOutcome.busy else if ack = true then .delivered else .unheard) ≠ .delivered := by
      rcases hor with rfl | rfl
      · simp
      · cases busy <;> decide
    rw [quiet ((frameDone_read hb).trans (readOutcome_silent hd hout hnot)) (hn.trans hq)]
    exact hsilent
  · have hcovers : coversStartSet (mapRead answers (judgedAt 18 s).ready s) (sentFrame e (judgedAt 18 s).ready s) = true :=
      coversStartSet_iff.2 fun i hi => (mapRead_bit _ _ _ _).2 (hcov i hi)
    have hmap := (frameDone_ownRoll (ack := ack) (busy := busy) (answers := answers) hb hown).trans
      (pollerMap_covers (s := sentFrame e _ s) hp hl hcovers (hroom _))
    rw [quiet hmap hq]
    exact ⟨rfl, inserted_insertByPriority _ _, rfl⟩
  · have hshort : coversStartSet (mapRead answers (judgedAt 18 s).ready s) (sentFrame e (judgedAt 18 s).ready s) =
        false := by
      refine Bool.eq_false_iff.2 fun hcov => ?_
      rcases (mapRead_bit _ _ _ _).1 (coversStartSet_iff.1 hcov i hset) with h | ⟨h, -⟩
      · exact absurd h (by rw [hbit]; decide)
      · exact hne h
    rw [quiet ((frameDone_ownRoll hb hown).trans (pollerMap_short hshort)) hq]
    exact ⟨rfl, rfl⟩
  · have hdelay : (BitVec.ofNat 32 s.link.straps.cableDelay.val).toNat = s.link.straps.cableDelay.val :=
      (BitVec.toNat_ofNat _ _).trans (Nat.mod_eq_of_lt (lt_trans s.link.straps.cableDelay.isLt (by decide)))
    have hepoch := (frameDone_start (ack := ack) (busy := busy) (answers := answers) hb hr hl ha).trans (takeEpoch_eq _)
    rw [driveContacts_eq] at hepoch
    rw [quiet hepoch hq]
    exact ⟨rfl, rfl, hdelay, rfl⟩
  · have hbits : ∀ j : StationNo, (mapRead answers ((judgedAt 18 s).condition cls) s).getLsbD j.val = false := fun j => by
      rw [hans, hcond]
      simp [mapRead]
    obtain ⟨hended, heq, hn⟩ := gatherMap_empty_ended hc (hlink ((judgedAt 18 s).condition cls)) hbits
    rw [quiet (frameDone_gatherRoll hb hown hg) (hn.trans hq)]
    exact ⟨hended, heq⟩
  · intro inMap hi hfirst hother
    have hmap : ∀ j, (mapRead answers ((judgedAt 18 s).condition cls) s).getLsbD j.val = true ↔ inMap j :=
      fun j => mapRead_bit _ _ _ _
    obtain ⟨hcoord, hstate, ⟨x, hx, hset, hcursor⟩, hreport, hout, hins, hframe, hn⟩ :=
      gatherMap_other_read hc (hlink ((judgedAt 18 s).condition cls)) ((hmap i).2 hi)
        (fun j hj => Bool.eq_false_iff.2 fun h => hfirst j hj ((hmap j).1 h)) hother
    have hreports := mapTaken_report (mapRead answers ((judgedAt 18 s).condition cls) s) c s
    rw [quiet (frameDone_gatherRoll hb hown hg) (hn.trans hq)]
    refine ⟨hcoord, hstate, ⟨x, hx, fun j => (hset j).trans (hmap j), hcursor⟩, ?_, fun j => ?_, hout, hins, hframe⟩
    · obtain ⟨hentries, -⟩ := hreports i
      rw [hreport, hentries]
    · obtain ⟨-, hin, hnot⟩ := hreports j
      rw [hmap j] at hin hnot
      rw [hreport]
      exact ⟨hin, hnot⟩
  · intro outcome logged listens
    have hdone := frameDone_mark (busy := busy) (answers := answers) hb hp outcome rfl
    have stays (hm : s.engine.runLabel = some l → engineMark s.own code logged = logged) :
        frameDone e ack busy answers s = logged := by
      rw [hdone]
      split
      · next hl => exact hm hl
      · rfl
    refine ⟨fun hidle => quiet (stays fun hl => engineMark_idle (s := logged) (hidle.resolve_left fun hn => hn hl) _ _) hq,
      fun v hv hd hnone => quiet (stays fun _ => engineMark_unheard (s := logged) hv hd hnone) hq,
      fun v n origin target hl hr hv hd hnp hn ho hlow => ?_⟩
    have hdecides := engineMark_decides (s := logged) hr hv hd hn ho hlow
    rw [decideExit_no_mark (s := logged) hnp] at hdecides
    rw [if_pos hl] at hdone
    exact ⟨_, isExitBoundary_exitBoundaryOf v.entry s.now, quiet (hdone.trans hdecides) hq⟩

end Sys2Proof.Proofs
end

section
/-! A station that mutes itself (R130): the queue is emptied, each owner is told DROPPED, and the outstanding read ends. -/

namespace Sys2Proof.Proofs

open Sys2Proof.Machine Sys2Proof.Safety Sys2Proof.Claims

variable {s t u : State} {e : TxEntry} {c : Cursor} {st i : StationNo} {x : Notice} {xs : List Notice} {K : Notice → Prop}

/-! ### Settling, one notice at a time -/

/-- The state with the notices `ns` left to be told. -/
def withNotices (ns : List Notice) (s : State) : State := { s with link := { s.link with notices := ns } }

theorem settleFor_induct {P : State → Prop} (hclear : ∀ u, P u → P (withNotices [] u))
    (hreact : ∀ u x rest, P u → u.link.notices = x :: rest → P (react x.entry x.outcome (withNotices rest u))) (n : Nat)
    (h : P s) : P (settleFor n s) := by
  induction n generalizing s with
  | zero => exact hclear s h
  | succ n ih =>
    unfold settleFor
    split
    · exact h
    · next y rest hn => exact ih (hreact s y rest h hn)

/-! ### What a sweep tells while the station is MUTED (R130, R172) -/

/-- A notice of a frame that the sweep of a MUTED station placed: a RECORD-READ or a GATHER-DONE refused. -/
def OfSweep (x : Notice) : Prop :=
  x.outcome = .dropped ∧ ((∃ l k, x.entry.frame.body = .recordRead l k) ∨ ∃ k p, x.entry.frame.body = .reply k p)

/-- The notice is of the read that `o` registers. -/
def ReadOf (o : Outstanding) (x : Notice) : Prop :=
  (∃ l k, x.entry.frame.body = .recordRead l k) ∧ x.entry.frame.dest = some o.station ∧ x.entry.frame.tag = o.tag

/-- A bound of what a sweep can still tell: one notice for each station ahead, and the GATHER-DONE. -/
def ahead (s : State) : Nat :=
  match s.gather.cursor with
  | none => 0
  | some c =>
    match c.station with
    | none => 1
    | some i => 17 - i.val

theorem ahead_no_cursor (h : s.gather.cursor = none) : ahead s = 0 := by simp [ahead, h]

theorem ahead_last (h : s.gather.cursor = some c) (hi : c.station = none) : ahead s = 1 := by simp [ahead, h, hi]

theorem ahead_at (h : s.gather.cursor = some c) (hi : c.station = some i) :
    ahead s = 17 - i.val := by simp [ahead, h, hi]

/-- From `s` to `t` the sweep of a MUTED station tells `xs` and leaves the queue as it is; a read that is outstanding now
was so before, or is one of these, and its station stands at the cursor. -/
structure SweepTold (xs : List Notice) (s t : State) : Prop where
  notices : t.link.notices = s.link.notices ++ xs
  kind : ∀ x ∈ xs, OfSweep x
  tx : t.link.tx = s.link.tx
  state : t.link.state = s.link.state
  read : ∀ o, t.link.outstanding = some o → s.link.outstanding = some o ∨
    (∃ x ∈ xs, ReadOf o x) ∧ ∃ c i, t.gather.cursor = some c ∧ c.station = some i

theorem SweepTold.nothing (h : t.link = s.link) : SweepTold [] s t :=
  ⟨by rw [h, List.append_nil], List.forall_mem_nil _, by rw [h], by rw [h], fun o ho => .inl (by rw [← h]; exact ho)⟩

theorem SweepTold.after (h : SweepTold xs u t) (hl : u.link = s.link) : SweepTold xs s t :=
  ⟨by rw [h.notices, hl], h.kind, by rw [h.tx, hl], by rw [h.state, hl], fun o ho => by rw [← hl]; exact h.read o ho⟩

theorem endGather_told (h : s.link.state = .muted) (c : Cursor) (o : GatherOutcome) :
    ∃ xs, SweepTold xs s (endGather c o s) ∧ xs.length ≤ 1 := by
  have h' : ({ s with gather := endedGather o s } : State).link.state = .muted := h
  cases hr : c.requester with
  | none =>
    rw [endGather_no_requester hr]
    exact ⟨[], .nothing rfl, Nat.zero_le _⟩
  | some r =>
    obtain ⟨st, tag⟩ := r
    rw [endGather_requester hr, place_muted h']
    refine ⟨_, ⟨rfl, fun x hx => ?_, rfl, rfl, fun o ho => .inl ho⟩, Nat.le_refl 1⟩
    rw [List.mem_singleton.1 hx]
    exact ⟨rfl, .inr ⟨_, _, rfl⟩⟩

theorem remoteRead_told (h : s.link.state = .muted) (hi : c.station = some i) :
    ∃ x, SweepTold [x] s (remoteRead i c s) ∧
      (remoteRead i c s).gather.cursor =
        some { c with readTag := some s.gather.tagCounter, deadline := none, repeatAt := none } := by
  let w : State := { s with
    gather := { s.gather with
      tagCounter := s.gather.tagCounter + 1
      cursor := some { c with readTag := some s.gather.tagCounter, deadline := none, repeatAt := none } }
    link := { s.link with outstanding := some { station := i, tag := s.gather.tagCounter } } }
  have hread : remoteRead i c s = place (readFrame i s.gather.tagCounter c) false w := rfl
  have hw : w.link.state = .muted := h
  rw [hread, place_muted hw]
  refine ⟨_, ⟨rfl, fun x hx => ?_, rfl, rfl, fun o ho => .inr ⟨⟨_, List.mem_singleton_self _, ⟨_, _, rfl⟩, ?_⟩,
      _, i, rfl, hi⟩⟩, rfl⟩
  · rw [List.mem_singleton.1 hx]
    exact ⟨rfl, .inl ⟨_, _, rfl⟩⟩
  · have ho' : some { station := i, tag := s.gather.tagCounter } = some o := ho
    rw [← Option.some.inj ho']
    exact ⟨rfl, rfl⟩

/-- An answer leaves the cursor at its station or moves it on. -/
theorem takeAnswer_cursor (st : StationNo) (a : SweepAnswer) (c : Cursor) (s : State) :
    ∃ d, (takeAnswer st a c s).gather.cursor = some d ∧ (d.station = c.station ∨ d.station = c.moveOn.station) := by
  unfold takeAnswer takeNotYet
  dsimp only
  (repeat' split)
  · exact ⟨_, rfl, .inl rfl⟩
  · exact ⟨_, rfl, .inr rfl⟩
  · exact ⟨_, rfl, .inr rfl⟩
  · exact ⟨_, rfl, .inl rfl⟩
  · exact ⟨_, rfl, .inr rfl⟩

/-- The cursor moved on has less ahead. -/
theorem ahead_moveOn (hi : c.station = some i) {d : Cursor} (ht : t.gather.cursor = some d)
    (hd : d.station = c.moveOn.station) : ahead t + 1 ≤ 17 - i.val := by
  have hlt := i.isLt
  cases hj : d.station with
  | none =>
    rw [ahead_last ht hj]
    omega
  | some j =>
    have hij : i.val < j.val := moveOn_lt hi (hd.symm.trans hj)
    have hj' := j.isLt
    rw [ahead_at ht hj]
    omega

theorem sweepOn_told (h : s.link.state = .muted) (n : Nat) :
    ∃ xs, SweepTold xs s (sweepOn n s) ∧ xs.length + ahead (sweepOn n s) ≤ ahead s + 1 := by
  induction n generalizing s with
  | zero => exact ⟨[], .nothing rfl, by simp [sweepOn]⟩
  | succ n ih =>
    unfold sweepOn
    split
    · exact ⟨[], .nothing rfl, by simp⟩
    · next c hc =>
      split
      · next hn =>
        obtain ⟨xs, htold, hlen⟩ := endGather_told h c .completed
        refine ⟨xs, htold, ?_⟩
        rw [ahead_no_cursor (endGather_no_cursor c _ s)]
        omega
      · next i hi =>
        split
        · exact ⟨[], .nothing rfl, by simp⟩
        · split
          · have hlink : (takeAnswer i (ownAnswer c s) c s).link = s.link := by simp
            obtain ⟨d, hd, hstation⟩ := takeAnswer_cursor i (ownAnswer c s) c s
            have hle : ahead (takeAnswer i (ownAnswer c s) c s) ≤ ahead s := by
              rw [ahead_at hc hi]
              rcases hstation with hsame | hmoved
              · rw [ahead_at hd (hsame.trans hi)]
              · exact Nat.le_of_succ_le (ahead_moveOn hi hd hmoved)
            obtain ⟨xs, htold, hlen⟩ := ih (s := takeAnswer i (ownAnswer c s) c s) (by rw [hlink]; exact h)
            exact ⟨xs, htold.after hlink, by omega⟩
          · obtain ⟨x, htold, hcursor⟩ := remoteRead_told h hi
            refine ⟨[x], htold, ?_⟩
            rw [ahead_at hcursor hi, ahead_at hc hi, List.length_singleton]
            omega

/-- A silent read of a MUTED station tells of nothing but its next read or its GATHER-DONE, and less is ahead. -/
theorem readSilent_told (h : s.link.state = .muted) (hc : s.gather.cursor = some c) (hi : c.station = some i) :
    ∃ xs, SweepTold xs (clearOutstanding s) (readSilent s) ∧ xs.length + ahead (readSilent s) ≤ ahead s := by
  have hlt := i.isLt
  have hclosed : (closeStation i .noAnswer c (clearOutstanding s)).link = (clearOutstanding s).link := by simp
  have hmuted : (closeStation i .noAnswer c (clearOutstanding s)).link.state = .muted := h
  have hahead : ahead (closeStation i .noAnswer c (clearOutstanding s)) + 1 ≤ 17 - i.val := ahead_moveOn hi rfl rfl
  rw [ahead_at hc hi, readSilent_of hc hi]
  split
  · obtain ⟨xs, htold, hlen⟩ := endGather_told hmuted c (.failed (some i))
    refine ⟨xs, htold.after hclosed, ?_⟩
    rw [ahead_no_cursor (endGather_no_cursor c _ _)]
    omega
  · obtain ⟨xs, htold, hlen⟩ := sweepOn_told hmuted sweepFuel
    exact ⟨xs, htold.after hclosed, by omega⟩

/-- With no station at the cursor there is no read to be silent. -/
theorem readSilent_idle (h : ∀ c i, s.gather.cursor = some c → c.station ≠ some i) : readSilent s = s := by
  cases hc : s.gather.cursor with
  | none => exact readSilent_no_cursor hc
  | some c =>
    cases hi : c.station with
    | none => simp [readSilent, hc, hi]
    | some i => exact absurd hi (h c i hc)

/-! ### The station MUTED, and what is left to be told (R130) -/

/-- The station is MUTED, its queue is empty, and every outcome left to be told is of the kind `K`. -/
structure Muted (K : Notice → Prop) (s : State) : Prop where
  state : s.link.state = .muted
  tx : s.link.tx = []
  told : ∀ x ∈ s.link.notices, K x

theorem Muted.of_sublist (h : Muted K s) (hs : t.link.state = s.link.state) (htx : t.link.tx.Sublist s.link.tx)
    (hn : t.link.notices = s.link.notices) : Muted K t :=
  ⟨hs.trans h.state, List.eq_nil_of_sublist_nil (by rw [← h.tx]; exact htx), by rw [hn]; exact h.told⟩

theorem Muted.of_link (h : Muted K s) (hl : t.link = s.link) : Muted K t := by
  refine h.of_sublist ?_ ?_ ?_
  all_goals rw [hl]

theorem Muted.withNotices (h : Muted K s) {ns : List Notice} (hn : ns ⊆ s.link.notices) : Muted K (withNotices ns s) :=
  ⟨h.state, h.tx, fun x hx => h.told x (hn hx)⟩

theorem Muted.sweepTold (h : Muted K s) (hk : ∀ x, OfSweep x → K x) (ht : SweepTold xs s t) : Muted K t :=
  ⟨ht.state.trans h.state, ht.tx.trans h.tx, fun x hx => by
    rw [ht.notices] at hx
    exact (List.mem_append.1 hx).elim (h.told x) fun hx => hk x (ht.kind x hx)⟩

theorem Muted.readSilent (h : Muted K s) (hk : ∀ x, OfSweep x → K x) : Muted K (readSilent s) := by
  by_cases hi : ∀ c i, s.gather.cursor = some c → c.station ≠ some i
  · rwa [readSilent_idle hi]
  · push Not at hi
    obtain ⟨c, i, hc, hst⟩ := hi
    obtain ⟨xs, htold, -⟩ := readSilent_told h.state hc hst
    have hclear : Muted K (clearOutstanding s) := ⟨h.state, h.tx, h.told⟩
    exact hclear.sweepTold hk htold

/-- A dropped MARK leaves the link and the current visit as they stand. -/
theorem markOutcome_dropped (e : TxEntry) (l : Label) (m : MarkCode) (d : Instant) (s : State) :
    (markOutcome e.age l m d .dropped s).link = s.link ∧
      (markOutcome e.age l m d .dropped s).engine.visit = s.engine.visit := by
  by_cases h : ∃ p, s.engine.pendingMark = some p ∧ p.age = e.age
  · obtain ⟨p, hp, ha⟩ := h
    rw [markOutcome_lost_pending (.inl rfl) hp ha]
    exact ⟨rfl, rfl⟩
  · rw [markOutcome_lost_other (.inl rfl) fun p hp ha => h ⟨p, hp, ha⟩]
    exact ⟨rfl, rfl⟩

theorem pollerStartLost_tx_sublist (s : State) : (pollerStartLost s).link.tx.Sublist s.link.tx := by
  unfold pollerStartLost
  dsimp only
  split
  · exact List.Sublist.refl _
  · exact pollerOff_tx_sublist _

theorem Muted.react (h : Muted K s) (hk : ∀ x, OfSweep x → K x) (e : TxEntry) : Muted K (react e .dropped s) := by
  unfold Machine.react
  split
  · next l m d _ => exact h.of_link (markOutcome_dropped e l m d s).1
  · split
    · exact h.of_sublist (by simp) (pollerStartLost_tx_sublist s) (by simp)
    · exact h
  · split
    · exact h.of_link rfl
    · split
      · unfold gatherRollLost
        dsimp only
        have h' : Muted K (s.modCoord fun u => { u with gatherRoll := none }) := h.of_link rfl
        split
        · next c _ =>
          obtain ⟨xs, htold, -⟩ := endGather_told h'.state c (.failed none)
          exact h'.sweepTold hk htold
        · exact h'
      · exact h
  · unfold readOutcome
    split
    · exact h.readSilent hk
    · exact h
  · exact h
  · exact h

/-- A property that every outcome DROPPED keeps is kept by settling them all. -/
theorem Muted.settleFor_induct {P : State → Prop} (h : Muted K s) (hk : ∀ x, OfSweep x → K x)
    (hdropped : ∀ x, K x → x.outcome = .dropped) (hp : P s)
    (hclear : ∀ u, P u → P (Proofs.withNotices [] u))
    (hreact : ∀ u x rest, Muted K u → P u → u.link.notices = x :: rest →
      P (Machine.react x.entry .dropped (Proofs.withNotices rest u))) (n : Nat) :
    Muted K (settleFor n s) ∧ P (settleFor n s) := by
  refine Proofs.settleFor_induct (P := fun u => Muted K u ∧ P u)
    (fun u hu => ⟨hu.1.withNotices (List.nil_subset _), hclear u hu.2⟩) (fun u x rest hu hn => ?_) n ⟨h, hp⟩
  obtain ⟨hm, hu⟩ := hu
  have hx : x.outcome = .dropped := hdropped x (hm.told x (by rw [hn]; exact List.mem_cons_self))
  rw [hx]
  exact ⟨(hm.withNotices (by rw [hn]; exact List.subset_cons_self x rest)).react hk _, hreact u x rest hm hu hn⟩

end Sys2Proof.Proofs
end

section
/-! The end of the outstanding read of a station that mutes itself (R130, R172, R179): its station is NO-ANSWER, and however
the sweep goes on, no read is outstanding once every owner has been told. -/

namespace Sys2Proof.Proofs

open Sys2Proof.Machine Sys2Proof.Safety Sys2Proof.Claims

variable {s t u : State} {e : TxEntry} {c : Cursor} {st i : StationNo} {x : Notice} {g : GatherEngine} {o : Outstanding}
  {rest : List Notice}

/-! ### A gather that waits for no frame -/

/-- A gather that waits for no frame is not touched by the outcome of one. -/
theorem react_detached (ho : s.link.outstanding = none) (hr : s.coord.gatherRoll = none) (e : TxEntry) (o : FrameOutcome) :
    (react e o s).gather = s.gather ∧ (react e o s).link.outstanding = none ∧ (react e o s).coord.gatherRoll = none := by
  refine ⟨?_, ?_, react_gatherRoll hr e o⟩
  all_goals
    unfold react
    split
    · simp [ho]
    · split <;> simp [ho]
    · split
      · simp [ho]
      · simp [hr, ho]
    · simp [readOutcome, isOutstanding, ho]
    · simp [ho]
    · simp [ho]

theorem settle_detached (ho : s.link.outstanding = none) (hr : s.coord.gatherRoll = none) :
    (settle s).gather = s.gather ∧ (settle s).link.outstanding = none := by
  obtain ⟨hg, ho', -⟩ := settleFor_induct
    (P := fun u => u.gather = s.gather ∧ u.link.outstanding = none ∧ u.coord.gatherRoll = none)
    (fun u h => h) (fun u x rest h _ => by
      obtain ⟨hg, ho, hr⟩ := h
      obtain ⟨hg', ho', hr'⟩ := react_detached (s := withNotices rest u) ho hr x.entry x.outcome
      exact ⟨hg'.trans hg, ho', hr'⟩) settleFuel ⟨rfl, ho, hr⟩
  exact ⟨hg, ho'⟩

/-! ### The outcome DROPPED and the read -/

/-- With no roll-call of a gather waiting, a frame DROPPED is the outstanding read, whose station is silent then, or leaves
the gather, the registration and what is left to be told as they stand. -/
theorem react_dropped (hr : s.coord.gatherRoll = none) (x : Notice) :
    (∃ o, s.link.outstanding = some o ∧ ReadOf o x ∧ react x.entry .dropped s = readSilent s) ∨
      ((∀ o, s.link.outstanding = some o → ¬ReadOf o x) ∧ (react x.entry .dropped s).gather = s.gather ∧
        (react x.entry .dropped s).link.outstanding = s.link.outstanding ∧
        (react x.entry .dropped s).link.notices = s.link.notices) := by
  by_cases h : ∃ o, s.link.outstanding = some o ∧ ReadOf o x
  · obtain ⟨o, ho, ⟨l, k, hb⟩, hd, ht⟩ := h
    refine .inl ⟨o, ho, ⟨⟨l, k, hb⟩, hd, ht⟩, ?_⟩
    simp only [react, hb]
    exact readOutcome_silent hd (by rw [ho, ht]) (by decide)
  · refine .inr ⟨fun o ho hx => h ⟨o, ho, hx⟩, ?_⟩
    unfold react
    split
    · simp [(markOutcome_dropped _ _ _ _ _).1]
    · split <;> simp
    · split
      · exact ⟨rfl, rfl, rfl⟩
      · simp [hr]
    · next l k hb =>
      have hno : isOutstanding x.entry.frame.dest x.entry.frame.tag s = false := by
        cases ho : s.link.outstanding with
        | none => simp [isOutstanding, ho]
        | some o =>
          refine Bool.eq_false_iff.2 fun hyes => h ⟨o, ho, ⟨l, k, hb⟩, ?_⟩
          rw [isOutstanding, ho] at hyes
          obtain ⟨hd, ht⟩ := Bool.and_eq_true_iff.1 hyes
          exact ⟨beq_iff_eq.1 hd, (beq_iff_eq.1 ht).symm⟩
      rw [readOutcome, if_neg (by simp [hno])]
      exact ⟨rfl, rfl, rfl⟩
    · exact ⟨rfl, rfl, rfl⟩
    · exact ⟨rfl, rfl, rfl⟩

/-! ### Until every owner has been told -/

/-- The station `st`, whose read was silent under the cursor `c`, is closed, and under HALT the gather is over. -/
structure ReadClosed (c : Cursor) (st : StationNo) (g : GatherEngine) (s : State) : Prop where
  swept : SweptPast st .noAnswer s
  halt : c.haltSilence = true → s.gather.cursor = none ∧ s.gather.state = .done ∧
    s.gather.report.outcome = .failed (some st) ∧ s.gather.report.entries = g.report.entries

theorem ReadClosed.of_gather (h : ReadClosed c st g s) (hg : t.gather = s.gather) : ReadClosed c st g t :=
  ⟨h.swept.of_gather hg, by rw [hg]; exact h.halt⟩

theorem readClosed_readSilent (hc : s.gather.cursor = some c) (hi : c.station = some st) :
    ReadClosed c st s.gather (readSilent s) := by
  refine ⟨readSilent_swept hc hi, fun hh => ?_⟩
  rw [readSilent_of hc hi, if_pos hh, endGather_gather]
  exact ⟨rfl, rfl, rfl, rfl⟩

/-- A read that is outstanding will be told, and its station stands at the cursor. -/
def ReadTold (s : State) : Prop :=
  ∀ o, s.link.outstanding = some o → (∃ x ∈ s.link.notices, ReadOf o x) ∧
    ∃ c i, s.gather.cursor = some c ∧ c.station = some i

/-- A notice that a MUTED station has left is of a frame DROPPED. -/
def WasDropped (x : Notice) : Prop := x.outcome = .dropped

/-- The outstanding read `o` of the station `st`, with the gather `g`, stands still, or its station is closed and every
read of the sweep since has been refused. -/
structure ReadEnding (o : Outstanding) (c : Cursor) (st : StationNo) (g : GatherEngine) (s : State) : Prop where
  muted : Muted WasDropped s
  roll : s.coord.gatherRoll = none
  phase : (s.gather = g ∧ s.link.outstanding = some o) ∨ (ReadClosed c st g s ∧ ReadTold s)

/-- What is left to be told, now and by the sweep. -/
def toTell (s : State) : Nat := s.link.notices.length + ahead s

theorem ahead_of_gather (h : t.gather = s.gather) : ahead t = ahead s := by rw [ahead, ahead, h]

/-- A silent read under way: its station is closed, and the next read of the sweep is refused. -/
theorem readSilent_ending (h : Muted WasDropped s) (hr : s.coord.gatherRoll = none) {d : Cursor}
    (hc : s.gather.cursor = some d)
    (hi : d.station = some i) (hclosed : ReadClosed c st g (readSilent s)) :
    ReadEnding o c st g (readSilent s) ∧ toTell (readSilent s) ≤ toTell s := by
  obtain ⟨xs, htold, hlen⟩ := readSilent_told h.state hc hi
  refine ⟨⟨h.readSilent fun x hx => hx.1, by simpa using hr, .inr ⟨hclosed, fun p hp => ?_⟩⟩, ?_⟩
  · obtain ⟨⟨x, hx, hread⟩, hcursor⟩ := (htold.read p hp).resolve_left nofun
    exact ⟨⟨x, by rw [htold.notices]; exact List.mem_append_right _ hx, hread⟩, hcursor⟩
  · have hn : (clearOutstanding s).link.notices = s.link.notices := rfl
    rw [toTell, toTell, htold.notices, hn, List.length_append]
    omega

theorem ReadEnding.react (h : ReadEnding o c st g s) (hc : g.cursor = some c) (hi : c.station = some st)
    (hn : s.link.notices = x :: rest) :
    ReadEnding o c st g (react x.entry .dropped (withNotices rest s)) ∧
      toTell (Machine.react x.entry .dropped (withNotices rest s)) < toTell s := by
  obtain ⟨hmuted, hroll, hphase⟩ := h
  have hw : Muted WasDropped (withNotices rest s) := hmuted.withNotices (by rw [hn]; exact List.subset_cons_self x rest)
  have hlt : toTell (withNotices rest s) < toTell s := by
    have : ahead (withNotices rest s) = ahead s := rfl
    rw [toTell, toTell, hn, this, List.length_cons]
    show rest.length + _ < _
    omega
  rcases react_dropped (s := withNotices rest s) hroll x with ⟨p, hp, hread, he⟩ | ⟨hother, hgather, hout, hnotices⟩
  · rw [he]
    obtain ⟨d, j, hd, hj, hclosed⟩ : ∃ d j, (withNotices rest s).gather.cursor = some d ∧ d.station = some j ∧
        ReadClosed c st g (readSilent (withNotices rest s)) := by
      rcases hphase with ⟨hg, -⟩ | ⟨hclosed, htold⟩
      · have hcur : (withNotices rest s).gather = g := hg
        have hcursor : (withNotices rest s).gather.cursor = some c := by rw [hcur, hc]
        have hclosed := readClosed_readSilent hcursor hi
        rw [hcur] at hclosed
        exact ⟨c, st, hcursor, hi, hclosed⟩
      · obtain ⟨-, d, j, hd, hj⟩ := htold p hp
        refine ⟨d, j, hd, hj, SweptPast.readSilent (hclosed.swept.of_gather rfl), fun hh => ?_⟩
        obtain ⟨hnone, -⟩ := hclosed.halt hh
        exact absurd (hnone.symm.trans hd) nofun
    obtain ⟨hending, hle⟩ := readSilent_ending (o := o) hw hroll hd hj hclosed
    exact ⟨hending, Nat.lt_of_le_of_lt hle hlt⟩
  · refine ⟨⟨hw.react (fun y hy => hy.1) x.entry, react_gatherRoll (s := withNotices rest s) hroll _ _, ?_⟩, ?_⟩
    · rcases hphase with ⟨hg, ho⟩ | ⟨hclosed, htold⟩
      · exact .inl ⟨hgather.trans hg, hout.trans ho⟩
      · refine .inr ⟨hclosed.of_gather hgather, fun p hp => ?_⟩
        have hp' : s.link.outstanding = some p := hout.symm.trans hp
        obtain ⟨⟨y, hy, hread⟩, hcursor⟩ := htold p hp'
        rw [hn] at hy
        have hmem : y ∈ rest := (List.mem_cons.1 hy).resolve_left fun hyx => hother p hp' (hyx ▸ hread)
        rw [hnotices, hgather]
        exact ⟨⟨y, hmem, hread⟩, hcursor⟩
    · rw [toTell, hnotices, ahead_of_gather hgather]
      exact hlt

/-- Every owner is told before the fuel runs out. -/
theorem ReadEnding.settleFor (h : ReadEnding o c st g s) (hc : g.cursor = some c) (hi : c.station = some st) {n : Nat}
    (hn : toTell s ≤ n) : ReadEnding o c st g (settleFor n s) := by
  induction n generalizing s with
  | zero =>
    have hnil : s.link.notices = [] := List.length_eq_zero_iff.1 (by rw [toTell] at hn; omega)
    rwa [settleFor_quiet 0 hnil]
  | succ n ih =>
    unfold Machine.settleFor
    split
    · exact h
    · next y rest hnotices =>
      have hy : y.outcome = .dropped := h.muted.told y (by rw [hnotices]; exact List.mem_cons_self)
      obtain ⟨hending, hlt⟩ := h.react hc hi hnotices
      rw [hy]
      exact ih hending (Nat.le_of_lt_succ (Nat.lt_of_lt_of_le hlt hn))

end Sys2Proof.Proofs
end

section
/-! DUPLICATE_ORIGIN_FRAME (R130): a station that mutes itself drops its queue, ends its read and aborts its run. -/

namespace Sys2Proof.Proofs

open Sys2Proof.Machine Sys2Proof.Safety Sys2Proof.Claims

variable {s t u : State} {e : TxEntry} {c : Cursor} {st : StationNo} {x : Notice} {g : GatherEngine} {o : Outstanding}
  {K : Notice → Prop} {q : List TxEntry} {f : RxFrame} {r : EndReason}

/-! ### The queue emptied (R130) -/

/-- The notice that an entry has been dropped. -/
def dropNotice (e : TxEntry) : Notice := { entry := e, outcome := .dropped }

theorem foldl_dropEntry (q : List TxEntry) (s : State) :
    q.foldl (fun s e => dropEntry e s) s = { s with
      status := (q.foldl (fun s e => dropEntry e s) s).status
      link := { s.link with notices := s.link.notices ++ q.map dropNotice } } := by
  induction q generalizing s with
  | nil => simp
  | cons e q ih =>
    have hdrop : dropEntry e s = { s with
        status := (dropEntry e s).status, link := { s.link with notices := s.link.notices ++ [dropNotice e] } } := rfl
    rw [List.foldl_cons, ih, hdrop]
    simp

/-- The queue emptied, every entry's owner to be told. -/
def queueDropped (s : State) : State :=
  s.link.tx.foldl (fun s e => dropEntry e s) (s.modLink fun l => { l with tx := [] })

theorem dropAll_eq (s : State) : dropAll s = endOutstanding (settle (queueDropped s)) := rfl

theorem queueDropped_eq (hq : Quiet s) :
    queueDropped s = { s with
      status := (queueDropped s).status
      link := { s.link with tx := [], notices := s.link.tx.map dropNotice } } := by
  have hnotices : s.link.notices = [] := hq
  have h := foldl_dropEntry s.link.tx (s.modLink fun l => { l with tx := [] })
  rw [show (s.modLink fun l => { l with tx := [] }).link.notices = [] from hnotices, List.nil_append] at h
  exact h

theorem muted_queueDropped (hm : s.link.state = .muted) (hq : Quiet s) (hk : ∀ e ∈ s.link.tx, K (dropNotice e)) :
    Muted K (queueDropped s) := by
  rw [queueDropped_eq hq]
  refine ⟨hm, rfl, fun x hx => ?_⟩
  obtain ⟨e, he, rfl⟩ := List.mem_map.1 hx
  exact hk e he

theorem queueDropped_txDropped (h : s.link.tx ≠ []) : (queueDropped s).status.latch.txDropped = true := by
  unfold queueDropped
  cases hq : s.link.tx with
  | nil => exact absurd hq h
  | cons e q =>
    rw [List.foldl_cons]
    exact (latchStep_foldl (fun s e => latchStep_dropEntry e s) q _).txDropped rfl

theorem latchStep_endOutstanding (s : State) : LatchStep s (endOutstanding s) := by
  unfold endOutstanding
  split
  · exact (latchStep_readSilent s).trans (latchStep_settle _)
  · exact .refl s

theorem dropAll_txDropped (h : s.link.tx ≠ []) : (dropAll s).status.latch.txDropped = true :=
  ((latchStep_settle _).trans (latchStep_endOutstanding _)).txDropped (queueDropped_txDropped h)

/-- A property that every outcome DROPPED and a silent read keep is kept by emptying the queue. -/
theorem Muted.dropAll_induct {P : State → Prop} (h : Muted K (queueDropped s)) (hk : ∀ x, OfSweep x → K x)
    (hdropped : ∀ x, K x → x.outcome = .dropped) (hp : P (queueDropped s)) (hclear : ∀ u, P u → P (Proofs.withNotices [] u))
    (hreact : ∀ u x rest, Muted K u → P u → u.link.notices = x :: rest →
      P (Machine.react x.entry .dropped (Proofs.withNotices rest u)))
    (hsilent : ∀ u, P u → P (Machine.readSilent u)) : Muted K (dropAll s) ∧ P (dropAll s) := by
  obtain ⟨hm, hu⟩ := h.settleFor_induct hk hdropped hp hclear hreact settleFuel
  rw [dropAll_eq, endOutstanding]
  split
  · exact (hm.readSilent hk).settleFor_induct hk hdropped (hsilent _ hu) hclear hreact settleFuel
  · exact ⟨hm, hu⟩

theorem dropAll_notices (s : State) : (dropAll s).link.notices = [] := by
  rw [dropAll_eq, endOutstanding]
  split
  · exact settle_notices _
  · exact settle_notices _

/-- The drops leave the current visit as it stands. -/
theorem dropAll_visit (hm : s.link.state = .muted) (hq : Quiet s) :
    Muted WasDropped (dropAll s) ∧ (dropAll s).engine.visit = s.engine.visit := by
  refine (muted_queueDropped hm hq fun _ _ => rfl).dropAll_induct (K := WasDropped) (fun x hx => hx.1) (fun x hx => hx)
    (P := fun u => u.engine.visit = s.engine.visit) (by rw [queueDropped_eq hq]) (fun u hu => hu)
    (fun u x rest _ hu _ => ?_) (fun u hu => by simpa using hu)
  have hw : (withNotices rest u).engine.visit = s.engine.visit := hu
  unfold Machine.react
  (repeat' split)
  · exact (markOutcome_dropped _ _ _ _ _).2.trans hw
  all_goals simp [hw]

/-- A notice of a dropped frame that is no MARK. -/
def DroppedUnmarked (x : Notice) : Prop := x.outcome = .dropped ∧ ∀ l m d, x.entry.frame.body ≠ .mark l m d

/-- The drops of a queue without a MARK leave the engine and the store as they stand. -/
theorem dropAll_unmarked (hm : s.link.state = .muted) (hq : Quiet s)
    (hk : ∀ e ∈ s.link.tx, ∀ m c x, e.frame.body ≠ .mark m c x) :
    (dropAll s).engine = s.engine ∧ (dropAll s).store = s.store := by
  refine (Muted.dropAll_induct (K := DroppedUnmarked) (muted_queueDropped hm hq fun e he => ⟨rfl, hk e he⟩) ?_
    (fun x hx => hx.1) (P := fun u => u.engine = s.engine ∧ u.store = s.store) ?_ (fun u hu => hu) ?_ ?_).2
  · rintro x ⟨hx, hb⟩
    refine ⟨hx, fun l m d => ?_⟩
    rcases hb with ⟨l', k, hb⟩ | ⟨k, p, hb⟩ <;> simp [hb]
  · rw [queueDropped_eq hq]
    exact ⟨rfl, rfl⟩
  · intro u x rest hmu hu hn
    have hx := hmu.told x (by rw [hn]; exact List.mem_cons_self)
    have hw : (withNotices rest u).engine = s.engine ∧ (withNotices rest u).store = s.store := hu
    unfold Machine.react
    (repeat' split)
    · next l m d hb => exact absurd hb (hx.2 l m d)
    all_goals simpa using hw
  · exact fun u hu => by simpa using hu

/-! ### The outstanding read -/

theorem ahead_le (s : State) : ahead s ≤ 17 := by
  unfold ahead
  (repeat' split) <;> omega

/-- Every owner told, no read is outstanding once its station is closed. -/
theorem ReadEnding.closed (h : ReadEnding o c st g s) (hs : SweptPast st .noAnswer s) (hc : g.cursor = some c)
    (hi : c.station = some st) (hn : s.link.notices = []) : ReadClosed c st g s ∧ s.link.outstanding = none := by
  rcases h.phase with ⟨hg, -⟩ | ⟨hclosed, htold⟩
  · exact absurd (hs.cursor c st (by rw [hg]; exact hc) hi) (lt_irrefl st)
  · refine ⟨hclosed, Option.eq_none_iff_forall_ne_some.2 fun p hp => ?_⟩
    obtain ⟨⟨x, hx, -⟩, -⟩ := htold p hp
    rw [hn] at hx
    cases hx

theorem dropAll_read (hm : s.link.state = .muted) (hq : Quiet s) (hlen : s.link.tx.length ≤ 8)
    (hroll : s.coord.gatherRoll = none) (hc : s.gather.cursor = some c) (hi : c.station = some st)
    (ho : s.link.outstanding = some o) :
    ReadClosed c st s.gather (dropAll s) ∧ (dropAll s).link.outstanding = none ∧ (dropAll s).coord.gatherRoll = none := by
  have hstart : ReadEnding o c st s.gather (queueDropped s) := by
    refine ⟨muted_queueDropped hm hq fun _ _ => rfl, ?_, .inl ?_⟩
    all_goals rw [queueDropped_eq hq]
    · exact hroll
    · exact ⟨rfl, ho⟩
  have hfuel : toTell (queueDropped s) ≤ settleFuel := by
    have hnotices : (queueDropped s).link.notices.length = s.link.tx.length := by rw [queueDropped_eq hq, List.length_map]
    have := ahead_le (queueDropped s)
    rw [toTell, hnotices, settleFuel]
    omega
  have htold : ReadEnding o c st s.gather (settle (queueDropped s)) := hstart.settleFor hc hi hfuel
  have hnil : (settle (queueDropped s)).link.notices = [] := settle_notices _
  rw [dropAll_eq]
  generalize settle (queueDropped s) = u at htold hnil
  rcases htold.phase with ⟨hg, hout⟩ | ⟨hclosed, -⟩
  · have hcu : u.gather.cursor = some c := by rw [hg, hc]
    have hclosed : ReadClosed c st s.gather (readSilent u) := by
      rw [← hg]
      exact readClosed_readSilent hcu hi
    obtain ⟨hending, hle⟩ := readSilent_ending (o := o) htold.muted htold.roll hcu hi hclosed
    have hfuel' : toTell (readSilent u) ≤ settleFuel := by
      have hu : toTell u = ahead u := by rw [toTell, hnil, List.length_nil, Nat.zero_add]
      have := ahead_le u
      rw [settleFuel]
      omega
    have hsettled : ReadEnding o c st s.gather (settle (readSilent u)) := hending.settleFor hc hi hfuel'
    obtain ⟨hclosed', hnone⟩ := hsettled.closed (hclosed.swept.settleFor settleFuel) hc hi (settle_notices _)
    rw [endOutstanding, if_pos (by rw [hout]; rfl)]
    exact ⟨hclosed', hnone, hsettled.roll⟩
  · obtain ⟨hclosed', hnone⟩ := htold.closed hclosed.swept hc hi hnil
    rw [endOutstanding, if_neg (by rw [hnone]; exact Bool.false_ne_true)]
    exact ⟨hclosed', hnone, htold.roll⟩

/-! ### The run aborted at a MUTED station -/

theorem Muted.place (h : Muted WasDropped s) (f : TxFrame) (b : Bool) : Muted WasDropped (place f b s) := by
  rw [place_muted h.state]
  refine ⟨h.state, h.tx, fun x hx => ?_⟩
  rcases List.mem_append.1 hx with hx | hx
  · exact h.told x hx
  · rw [List.mem_singleton.1 hx]
    rfl

theorem Muted.firstOperateMark (h : Muted WasDropped s) (i : InputNo) : Muted WasDropped (firstOperateMark i s) := by
  unfold Machine.firstOperateMark queueMark
  (repeat' split)
  · exact h
  · exact Muted.place (h.of_link (t := s.modEngine fun g => { g with firstOperates := setAt g.firstOperates i true }) rfl)
      _ _
  · exact h.of_link rfl
  · exact h
  · exact h

theorem Muted.takeHeld (h : Muted WasDropped s) (hs : List HeldOperate) : Muted WasDropped (takeHeld hs s) := by
  refine foldl_induct (Muted WasDropped) _ (fun u x hu => ?_) hs s h
  dsimp only
  split
  · exact Muted.firstOperateMark (hu.of_link (by simp)) _
  · exact hu.firstOperateMark _

theorem Muted.abortUnderWay (h : Muted WasDropped s) (r : EndReason) : Muted WasDropped (abortUnderWay r s) := by
  have hheld : Muted WasDropped (abortBegun r s) :=
    Muted.of_link (s := resolveHeld s) (Muted.takeHeld (h.of_link (t := s.modEngine fun g => { g with held := [] }) rfl) _)
      rfl
  have hlink : (Machine.abortUnderWay r s).link =
      (withdrawRunMarks (closeVisit (abortBegun r s).now .abort (abortBegun r s))).link := by
    rw [abortUnderWay_begun]
    simp
  refine hheld.of_sublist ?_ ?_ ?_
  all_goals rw [hlink]
  · simp
  · exact (withdrawRunMarks_tx_sublist _).trans (closeVisit_tx_sublist _ _ _)
  · simp

theorem Muted.abortRun (h : Muted WasDropped s) (hr : (r == .notReady) = false) : Muted WasDropped (abortRun r s) := by
  unfold Machine.abortRun
  (repeat' split)
  · exact h.abortUnderWay r
  · rw [abortArmed_silent hr]
    exact h.of_sublist rfl (abortArmed_tx_sublist hr s) rfl
  · exact h

/-- The run of a station that mutes itself. -/
theorem abortRun_run (hr : (r == .notReady) = false) (s : State) :
    (abortRun r s).runActive = false ∧
      (s.runActive = true → (abortRun r s).engine.runState = .aborted ∧ (abortRun r s).engine.endReason = r) ∧
      (s.runActive = false → abortRun r s = s) := by
  unfold abortRun
  by_cases hu : s.runUnderWay = true
  · obtain ⟨hstate, hreason, -⟩ := abortUnderWay_engine r s
    have ha : s.runActive = true := by
      simp only [State.runActive, State.runUnderWay, Bool.or_eq_true] at hu ⊢
      tauto
    rw [if_pos hu]
    exact ⟨by simp [State.runActive, hstate], fun _ => ⟨hstate, hreason⟩, fun h => absurd (ha.symm.trans h) nofun⟩
  · rw [if_neg hu]
    by_cases harmed : s.engine.runState = .armed
    · rw [if_pos (beq_iff_eq.2 harmed), abortArmed_silent hr]
      exact ⟨rfl, fun _ => ⟨rfl, rfl⟩, fun h => by simp [State.runActive, harmed] at h⟩
    · have ha : s.runActive = false := by
        simp only [State.runActive, State.runUnderWay, Bool.or_eq_true, not_or, beq_iff_eq] at hu ⊢
        simp [harmed, hu]
      rw [if_neg (by simpa using harmed)]
      exact ⟨ha, fun h => absurd (ha.symm.trans h) nofun, fun _ => rfl⟩

end Sys2Proof.Proofs
end

section
/-! DUPLICATE_ORIGIN_FRAME (R130, Law 12): the station mutes itself. -/

namespace Sys2Proof.Proofs

open Sys2Proof.Machine Sys2Proof.Safety Sys2Proof.Claims

variable {s t u : State} {c : Cursor} {st : StationNo} {o : Outstanding} {f : RxFrame}

/-- The state as it turns MUTED, before its queue is emptied. -/
def muting (s : State) : State := { s with link := { s.link with state := .muted } }

/-- The queue emptied, the owners told and the read ended, before the run is aborted. -/
def emptied (s : State) : State := dropAll (muting s)

theorem mute_eq (s : State) : mute s = settle (abortRun .muted (emptied s)) := rfl

theorem muted_mute (hq : Quiet s) : Muted WasDropped (mute s) := by
  obtain ⟨hm, -⟩ := dropAll_visit (s := muting s) rfl hq
  obtain ⟨hsettled, -⟩ := (hm.abortRun (r := .muted) rfl).settleFor_induct (fun x hx => hx.1) (fun x hx => hx)
    (P := fun _ => True) trivial (fun _ _ => trivial) (fun _ _ _ _ _ _ => trivial) settleFuel
  exact hsettled

/-- The run of a station that mutes itself (R60, R130). -/
theorem mute_run (s : State) :
    (mute s).runActive = false ∧
      (s.runActive = true → (mute s).engine.runState = .aborted ∧ (mute s).engine.endReason = .muted) ∧
      (s.runActive = false →
        (mute s).engine.runState = s.engine.runState ∧ (mute s).engine.endReason = s.engine.endReason) := by
  obtain ⟨hidle, habort, hstays⟩ := abortRun_run (r := .muted) rfl (emptied s)
  have hactive : (emptied s).runActive = s.runActive := by simp [emptied, muting, State.runActive]
  rw [hactive] at habort hstays
  rw [mute_eq]
  refine ⟨by simpa using hidle, fun h => by simpa using habort h, fun h => ?_⟩
  rw [hstays h]
  simp [emptied, muting]

/-- What the records of the abort read is what it was before the queue was emptied. -/
theorem abortView_emptied (hq : Quiet s) : AbortView s (emptied s) := by
  obtain ⟨hm, hvisit⟩ := dropAll_visit (s := muting s) rfl hq
  have hnow : (emptied s).now = s.now := by simp [emptied, muting, State.now]
  refine ⟨by simp [emptied, muting], by simp [emptied, muting], by simp [emptied, muting], hnow,
    by simp [emptied, muting], ?_, fun hp hmarks => ?_⟩
  · rw [hnow]
    exact congrArg _ (closeVisit_eval_congr (s := s) (t := emptied s) hvisit (by simp [emptied, muting])
      (by simp [emptied, muting])
      (by simp [emptied, muting]) _ _)
  · obtain ⟨hengine, hstore⟩ := dropAll_unmarked (s := muting s) rfl hq hmarks
    refine ⟨(congrArg (·.pendingMark) hengine).trans hp, fun e he => ?_,
      congrArg (fun x => x.reserve.map (·.dropped)) hstore⟩
    rw [emptied, hm.tx] at he
    cases he

theorem abortRecords_mute (hq : Quiet s) (hu : s.runUnderWay = true) (hinv : RunInvariant s) (hh : s.engine.held = []) :
    AbortRecords .muted s (mute s) := by
  have hinv' : Inv (emptied s) := inv_dropAll ((inv_of_runInvariant s hinv).2.same (t := muting s) rfl rfl)
  have hu' : (emptied s).runUnderWay = true := by simpa [emptied, muting, State.runUnderWay] using hu
  have hh' : (emptied s).engine.held = [] := by simpa [emptied, muting] using hh
  obtain ⟨hnotices, -⟩ := abortUnderWay_link hh' .muted
  have hstore : mute s = abortUnderWay .muted (emptied s) := by
    rw [mute_eq, abortRun, if_pos hu']
    exact settle_of_quiet _ (hnotices.trans (dropAll_notices _))
  exact AbortRecords.of_view (abortRecords_abort hinv' hu' hh' (by rw [hstore])) (abortView_emptied hq)

theorem mute_txDropped (h : s.link.tx ≠ []) : (mute s).status.latch.txDropped = true := by
  have hstep : LatchStep (emptied s) (mute s) := (latchStep_abortRun .muted _).trans (latchStep_settle _)
  exact hstep.txDropped (dropAll_txDropped (s := muting s) h)

/-- The outstanding read of a station that mutes itself (R172, R179). -/
theorem mute_read (hq : Quiet s) (hlen : s.link.tx.length ≤ 8) (hroll : s.coord.gatherRoll = none)
    (hc : s.gather.cursor = some c) (hi : c.station = some st) (ho : s.link.outstanding = some o) :
    ReadClosed c st s.gather (mute s) ∧ (mute s).link.outstanding = none := by
  obtain ⟨hclosed, hout, hroll'⟩ := dropAll_read (s := muting s) rfl hq hlen hroll hc hi ho
  obtain ⟨hgather, hnone⟩ := settle_detached (s := abortRun .muted (emptied s)) (by simpa [emptied] using hout)
    (by simpa [emptied] using hroll')
  refine ⟨hclosed.of_gather ?_, hnone⟩
  rw [mute_eq, hgather]
  simp [emptied]

theorem exec_duplicate (h : Acceptable f s) (hr : s.link.resync = false) (ho : f.origin = s.link.straps.station)
    (hu : muteIfDuplicate f s = u) (hs : u.link.straps = s.link.straps) (hn : u.link.notices = []) :
    exec (.duplicateOriginFrame f) s = .next (driven noSlots u) := by
  have hown : (f.origin != u.own) = false := bne_eq_false_iff_eq.2 (by rw [ho, ← hs]; rfl)
  have hdrive : slotsFor f u = noSlots := by
    rw [slotsFor, hown, Bool.and_false]
    rfl
  show Host.Outcome.next (receive f id s) = _
  rw [receive_acceptable h hr, hu, hdrive]
  exact congrArg _ (settle_of_quiet _ hn)

/-- Settles O11: the queue emptied, the read ended, the run aborted. -/
theorem duplicateOriginMutes : Obligations.DuplicateOriginMutes := by
  unfold Obligations.DuplicateOriginMutes
  intro f s h hr ho hq hqueue
  obtain ⟨hlen, -, -, -, -, hempty, -⟩ := hqueue
  have hown : (f.origin == s.own) = true := beq_iff_eq.2 ho
  by_cases hm : s.link.state = .muted
  · have hstays : muteIfDuplicate f s = s := by simp [muteIfDuplicate, hm]
    exact ⟨_, exec_duplicate h hr ho hstays rfl hq, hm, hempty hm, rfl, fun _ => rfl, fun hn => absurd hm hn⟩
  · have hmutes : muteIfDuplicate f s = mute s := by simp [muteIfDuplicate, hown, hm]
    have hexec := exec_duplicate h hr ho hmutes (by simp [mute_eq, emptied, muting]) (settle_notices _)
    have hmuted := muted_mute hq
    obtain ⟨hidle, haborted, hstays⟩ := mute_run s
    refine ⟨_, hexec, hmuted.state, hmuted.tx, rfl, fun hn => absurd hn hm, fun _ => ⟨hidle, haborted, hstays,
      fun hu hinv hh => abortRecords_mute hq hu hinv hh, ?_, fun htx => mute_txDropped htx,
      fun c st tag hc hi hroll hout => ?_,
      ?_, ?_, ?_, ?_, ?_, ?_⟩⟩
    · simp [driven, mute_eq, emptied, muting]
    · obtain ⟨hclosed, hnone⟩ := mute_read hq hlen hroll hc hi hout
      refine ⟨hclosed.swept.status, hnone, fun hh => ?_⟩
      obtain ⟨-, hstate, houtcome, hentries⟩ := hclosed.halt hh
      exact ⟨hstate, houtcome, hentries⟩
    all_goals simp [driven, mute_eq, emptied, muting]

end Sys2Proof.Proofs
end

section
/-! A step with no command waiting: the part's own event that is due, or the passing of a microsecond (log entries 7
and 9). -/

namespace Sys2Proof.Proofs

open Sys2Proof.Machine Sys2Proof.Safety Sys2Proof.Claims

variable {s : State}

theorem step_of_due {c : Instr} (hp : s.pending = []) (hc : dueCommand s = some c) : step s = exec c s := by
  simp [step, hp, hc]

theorem step_of_nothing_due (hp : s.pending = []) (hc : dueCommand s = none) : step s = .next (tick s) := by
  simp [step, hp, hc]

theorem resolveHeld_nothing (h : s.engine.held = []) : resolveHeld s = s := by
  have hs : (s.modEngine fun g => { g with held := [] }) = s := by rw [← h]; rfl
  rw [resolveHeld, h, hs]
  rfl

theorem remember_eq (s : State) : remember s = s.withPast ((viewNow s :: s.past).take 18) := by
  rw [remember, checkView_eq]
  rfl

/-- With no operate held and no outcome to be told, the end of a microsecond is its remembering and the rise of the
counts. -/
theorem tick_of_nothing_held (hheld : s.engine.held = []) (hq : Quiet s) :
    tick s = advance (s.withPast ((viewNow s :: s.past).take 18)) := by
  rw [tick, resolveHeld_nothing hheld, settle_of_quiet s hq, remember_eq]

/-- Settles O2, by the two cases of an empty queue: an event that is due, and the tick. -/
theorem stepOnAnEmptyQueue : Obligations.StepOnAnEmptyQueue := by
  unfold Obligations.StepOnAnEmptyQueue
  intro s hp
  refine ⟨fun c hc => step_of_due hp hc, fun hc hheld hq => ?_⟩
  rw [step_of_nothing_due hp hc, tick_of_nothing_held hheld hq]
  rfl

end Sys2Proof.Proofs
end

section
/-! The binary inputs: what is due at an input, and what a raw transition, an acceptance and a release leave of it
(R67 to R69, R71 to R74), in a visit or outside one. -/

namespace Sys2Proof.Proofs

open Sys2Proof.Machine Sys2Proof.Safety Sys2Proof.Claims

variable {s : State} {i : InputNo} {u : InputSetup} {n t : Nat} {x y : InputState}

/-! ### What is due at an input -/

theorem dueCandidate_eq_none_iff : dueCandidate i s = none ↔
    (s.input i).lockout ≠ none ∨
      ∀ T, (s.input i).candidate = some T → s.cond.count < T + (s.plan.items.inputs.get i).debounce * 100 := by
  cases hl : (s.input i).lockout with
  | some k => simp [dueCandidate, hl]
  | none =>
    cases hc : (s.input i).candidate with
    | none => simp [dueCandidate, hl, hc]
    | some T =>
      simp only [dueCandidate, hl, hc]
      exact ite_eq_right_iff.trans (by simp [debounceDeadlineOf, State.inputSetup])

theorem dueCandidate_of_no_candidate (hc : (s.input i).candidate = none) : dueCandidate i s = none :=
  dueCandidate_eq_none_iff.2 (.inr (by simp [hc]))

theorem dueCandidate_of_early (hc : (s.input i).candidate = some t)
    (ht : s.cond.count < t + (s.plan.items.inputs.get i).debounce * 100) : dueCandidate i s = none :=
  dueCandidate_eq_none_iff.2 (.inr fun T hT => by
    obtain rfl := Option.some.inj (hc.symm.trans hT)
    exact ht)

theorem dueCandidate_of_deadline (hl : (s.input i).lockout = none) (hc : (s.input i).candidate = some t)
    (hdue : t + (s.plan.items.inputs.get i).debounce * 100 ≤ s.cond.count) : dueCandidate i s = some t := by
  simp only [dueCandidate, hl, hc]
  exact if_pos hdue

theorem releaseDue_eq_false_iff :
    releaseDue i s = false ↔ ∀ k, (s.input i).lockout = some k → s.cond.count < k.release := by
  unfold releaseDue
  cases hl : (s.input i).lockout <;> simp

theorem releaseDue_of_normal (hl : (s.input i).lockout = none) : releaseDue i s = false :=
  releaseDue_eq_false_iff.2 (by simp [hl])

theorem settle_input (s : State) (i : InputNo) : (settle s).input i = s.input i := by
  simp [State.input]

theorem settleCandidate_of_not_due (h : dueCandidate i s = none) : settleCandidate i s = s := by
  simp [settleCandidate, h]

theorem settleCandidate_of_due (h : dueCandidate i s = some t) : settleCandidate i s = acceptChange i t false s := by
  simp [settleCandidate, h]

theorem settleRelease_of_not_due (h : releaseDue i s = false) : settleRelease i s = s := by
  simp [settleRelease, h]

theorem settleInput_of_not_due (hc : dueCandidate i s = none) (hr : releaseDue i s = false) : settleInput i s = s := by
  rw [settleInput, settleCandidate_of_not_due hc, settleRelease_of_not_due hr]

/-! ### A raw transition (R67, R68, R73) -/

/-- The state once an input has seen a raw transition. -/
def observed (i : InputNo) (s : State) : State := s.modInput i (observeTransition (s.inputSetup i) s.cond.count)

theorem observed_input (i : InputNo) (s : State) :
    (observed i s).input i = observeTransition (s.inputSetup i) s.cond.count (s.input i) := by
  rw [observed, modInput_input, if_pos rfl]

theorem observed_eq (h : observeTransition (s.inputSetup i) s.cond.count (s.input i) = y) :
    observed i s = { s with cond := { s.cond with inputs := setAt s.cond.inputs i y } } := by
  subst h
  rfl

theorem rawTransition_eq (i : InputNo) (s : State) :
    rawTransition i s = settleCandidate i (observed i (settleInput i s)) := rfl

theorem observeTransition_lockedOut {k : Lockout} (hl : x.lockout = some k) :
    observeTransition u n x =
      { x with raw := !x.raw, lockout := some { k with lastRaw := n, release := n + u.quietGap * 1000 } } := by
  simp [observeTransition, hl]

theorem observeTransition_settling (hl : x.lockout = none) (hc : x.candidate = some t) :
    observeTransition u n x = { x with raw := !x.raw, candidate := none } := by
  simp [observeTransition, hl, hc]

theorem observeTransition_steady (hl : x.lockout = none) (hc : x.candidate = none) (hr : x.raw = x.accepted) :
    observeTransition u n x = { x with raw := !x.raw, candidate := some n } := by
  simp [observeTransition, hl, hc, hr]

/-- A transition that finds nothing due at its input, and makes nothing due, is seen and nothing more. -/
theorem exec_rawTransition_observed (hq : Quiet s) (hc : dueCandidate i s = none) (hr : releaseDue i s = false)
    (hafter : dueCandidate i (observed i s) = none) : exec (.rawTransition i) s = .next (observed i s) := by
  have hraw : rawTransition i s = observed i s := by
    rw [rawTransition_eq, settleInput_of_not_due hc hr, settleCandidate_of_not_due hafter]
  have hexec : exec (.rawTransition i) s = .next (settle (rawTransition i s)) := rfl
  rw [hexec, hraw, settle_of_quiet (observed i s) hq]

/-! ### An acceptance (R69, R71, R72) -/

theorem chatterTest_iff (h : List Nat) : chatterTest u n h = true ↔
    3 ≤ u.chatterLimit ∧
      u.chatterLimit < h.countP fun e => decide (n < e + u.chatterWindow * 1000 ∧ e ≤ n) := by
  rw [chatterTest, decide_eq_true_iff, edgesInWindow]

/-- With the chatter limit off an acceptance locks nothing out. -/
theorem acceptedAt_lockout_of_no_limit (h : u.chatterLimit = 0) : (acceptedAt u n t x).lockout = none := by
  simp [acceptedAt, chatterTest, h]

theorem directionOf_eq (u : InputSetup) (level : Bool) :
    directionOf u level = if level = u.activeHigh then .operate else .reset := by
  simp [directionOf]

theorem trimHistory_short {h : List Nat} (hlen : h.length < 15) : trimHistory (h ++ [t]) = h ++ [t] := by
  simp [trimHistory, hlen]

theorem trimHistory_full {h : List Nat} (hlen : h.length = 15) : trimHistory (h ++ [t]) = h.drop 1 ++ [t] := by
  rw [trimHistory, List.length_append, hlen, if_pos (by simp), List.drop_append_of_le_length (by omega)]

/-- The state once an input has taken its new level, before anyone hears of it. -/
def accepting (i : InputNo) (t : Nat) (s : State) : State :=
  s.modInput i (acceptedAt (s.inputSetup i) s.cond.count t)

theorem accepting_input (i j : InputNo) (t : Nat) (s : State) : (accepting i t s).input j =
    if j = i then acceptedAt (s.inputSetup i) s.cond.count t (s.input i) else s.input j := modInput_input _ _ _

/-- The acceptance locks the input out. -/
def locksOut (i : InputNo) (t : Nat) (s : State) : Bool :=
  chatterTest (s.inputSetup i) s.cond.count ((s.input i).history ++ [t])

/-- An acceptance: the input takes its level, the change and then the lockout it brings on are delivered, and the engine
hears the change last (R75; log entry 15). -/
theorem acceptChange_eq (i : InputNo) (t : Nat) (b : Bool) (s : State) :
    acceptChange i t b s =
      engineChange i (directionOf (s.inputSetup i) (!(s.input i).accepted))
        (if locksOut i t s then deliverLockout i (!(s.input i).accepted) (deliverChange i t b (accepting i t s))
         else deliverChange i t b (accepting i t s)) := by
  have htaken : accepting i t s = s.modInput i fun x =>
      { x with
        accepted := !x.accepted
        candidate := none
        history := trimHistory ((s.input i).history ++ [t])
        lockout :=
          if chatterTest (s.inputSetup i) s.cond.count ((s.input i).history ++ [t]) then
            some
              { held := !x.accepted, lastRaw := s.cond.count
                release := s.cond.count + (s.inputSetup i).quietGap * 1000, began := s.cond.count }
          else none } := modInput_congr rfl
  rw [htaken]
  rfl

theorem acceptChange_cond (i : InputNo) (t : Nat) (b : Bool) (s : State) :
    (acceptChange i t b s).cond = (accepting i t s).cond := by
  rw [acceptChange_eq]
  split <;> simp

theorem acceptChange_input (i j : InputNo) (t : Nat) (b : Bool) (s : State) : (acceptChange i t b s).input j =
    if j = i then acceptedAt (s.inputSetup i) s.cond.count t (s.input i) else s.input j := by
  rw [← accepting_input, State.input, acceptChange_cond]
  rfl

/-! ### A release (R74) -/

/-- The state once an input is NORMAL again and the store and the evaluator have heard of it. -/
def released (i : InputNo) (s : State) : State :=
  releaseSeen i (storeRunEvent (.inputRelease i (s.input i).raw)
    (s.modInput i fun x => { x with lockout := none, history := [] }))

theorem released_cond (i : InputNo) (s : State) :
    (released i s).cond = (s.modInput i fun x => { x with lockout := none, history := [] }).cond := by
  simp [released]

theorem released_count (i : InputNo) (s : State) : (released i s).cond.count = s.cond.count := by
  rw [released_cond]
  rfl

theorem released_input (i j : InputNo) (s : State) : (released i s).input j =
    if j = i then { s.input i with lockout := none, history := [] } else s.input j := by
  rw [State.input, released_cond]
  exact modInput_input _ _ _

theorem settleRelease_of_due {k : Lockout} (hl : (s.input i).lockout = some k) (hk : k.release ≤ s.cond.count) :
    settleRelease i s = if (s.input i).raw = (s.input i).accepted then released i s
      else acceptChange i s.cond.count true (released i s) := by
  have hdue : releaseDue i s = true := by simp [releaseDue, hl, hk]
  have hrelease : releaseInput i s = if (s.input i).raw == (s.input i).accepted then released i s
      else acceptChange i (released i s).cond.count true (released i s) := rfl
  rw [settleRelease, if_pos hdue, hrelease, released_count]
  simp only [beq_iff_eq]

/-- A single edge never locks an input out. -/
theorem chatterTest_single (u : InputSetup) (n t : Nat) : chatterTest u n [t] = false := by
  have hle : edgesInWindow u n [t] ≤ 1 := List.countP_le_length
  rw [chatterTest, decide_eq_false_iff_not]
  omega

end Sys2Proof.Proofs
end

section
/-! RAW_TRANSITION (R67, R68, R73). -/

namespace Sys2Proof.Proofs

open Sys2Proof.Machine Sys2Proof.Safety Sys2Proof.Claims

variable {s : State} {bi : InputNo} {t : Nat}

theorem observed_lockedOut {k : Lockout} (hq : Quiet s) (hl : (s.input bi).lockout = some k)
    (hk : s.cond.count < k.release) : exec (.rawTransition bi) s = .next (observed bi s) := by
  have hr : releaseDue bi s = false := releaseDue_eq_false_iff.2 fun k' hk' => by
    obtain rfl := Option.some.inj (hl.symm.trans hk')
    exact hk
  have hc : dueCandidate bi s = none := dueCandidate_eq_none_iff.2 (.inl (by simp [hl]))
  refine exec_rawTransition_observed hq hc hr (dueCandidate_eq_none_iff.2 (.inl ?_))
  rw [observed_input, observeTransition_lockedOut hl]
  exact Option.some_ne_none _

theorem observed_normal (hq : Quiet s) (hl : (s.input bi).lockout = none) (hc : dueCandidate bi s = none)
    (hafter : dueCandidate bi (observed bi s) = none) : exec (.rawTransition bi) s = .next (observed bi s) :=
  exec_rawTransition_observed hq hc (releaseDue_of_normal hl) hafter

/-- The candidate that a transition begins now is not due now unless the debounce is 0. -/
theorem dueCandidate_of_begun_now (hc : (s.input bi).candidate = some s.cond.count)
    (hd : 0 < (s.plan.items.inputs.get bi).debounce) : dueCandidate bi s = none :=
  dueCandidate_of_early hc (by omega)

/-- A transition at the deadline of a candidate that brings on no lockout: the change is accepted first, and the transition
begins a new candidate. -/
theorem rawTransition_at_deadline (hl : (s.input bi).lockout = none) (hc : (s.input bi).candidate = some t)
    (hraw : (s.input bi).raw ≠ (s.input bi).accepted)
    (hdue : t + (s.plan.items.inputs.get bi).debounce * 100 ≤ s.cond.count)
    (hd : 0 < (s.plan.items.inputs.get bi).debounce) (hlimit : (s.plan.items.inputs.get bi).chatterLimit = 0) :
    (rawTransition bi s).input bi =
      { acceptedAt (s.inputSetup bi) s.cond.count t (s.input bi) with
        raw := !(s.input bi).raw, candidate := some s.cond.count } := by
  have hcount : (acceptChange bi t false s).cond.count = s.cond.count := by
    rw [acceptChange_cond]
    rfl
  have hinput : (acceptChange bi t false s).input bi = acceptedAt (s.inputSetup bi) s.cond.count t (s.input bi) := by
    rw [acceptChange_input, if_pos rfl]
  have hlock : ((acceptChange bi t false s).input bi).lockout = none := by
    rw [hinput]
    exact acceptedAt_lockout_of_no_limit hlimit
  have hsteady : ((acceptChange bi t false s).input bi).raw = ((acceptChange bi t false s).input bi).accepted := by
    rw [hinput]
    exact Bool.eq_not_of_ne hraw
  have hsettled : settleInput bi s = acceptChange bi t false s := by
    rw [settleInput, settleCandidate_of_due (dueCandidate_of_deadline hl hc hdue),
      settleRelease_of_not_due (releaseDue_of_normal hlock)]
  have hseen : (observed bi (acceptChange bi t false s)).input bi =
      { (acceptChange bi t false s).input bi with
        raw := !((acceptChange bi t false s).input bi).raw, candidate := some s.cond.count } := by
    rw [observed_input, observeTransition_steady hlock (by rw [hinput]; rfl) hsteady, hcount]
  have hnow : (observed bi (acceptChange bi t false s)).cond.count = s.cond.count := hcount
  have hnot : dueCandidate bi (observed bi (acceptChange bi t false s)) = none :=
    dueCandidate_of_begun_now (by rw [hseen, hnow]) (by simpa [observed] using hd)
  rw [rawTransition_eq, hsettled, settleCandidate_of_not_due hnot, hseen, hinput]
  rfl

/-- Settles O44, by the state of the input. -/
theorem rawTransitionOfAnInput : Obligations.RawTransitionOfAnInput := by
  unfold Obligations.RawTransitionOfAnInput
  intro bi s hq x u becomes
  refine ⟨fun k hl hk => ?_, fun T hl hc hT => ?_, fun hl hc hr hd => ?_, fun hl hc hr hd => ?_,
    fun T hl hc hr hT hd hlimit => ?_⟩
  · exact (observed_lockedOut hq hl hk).trans (congrArg _ (observed_eq (observeTransition_lockedOut hl)))
  · have hseen := observeTransition_settling (u := s.inputSetup bi) (n := s.cond.count) hl hc
    have hafter : dueCandidate bi (observed bi s) = none := dueCandidate_of_no_candidate (by rw [observed_input, hseen])
    have hnot : dueCandidate bi s = none := dueCandidate_of_early hc hT
    exact (observed_normal hq hl hnot hafter).trans (congrArg _ (observed_eq hseen))
  · have hseen := observeTransition_steady (u := s.inputSetup bi) (n := s.cond.count) hl hc hr
    have hafter : dueCandidate bi (observed bi s) = none :=
      dueCandidate_of_begun_now (by rw [observed_input, hseen]; rfl) hd
    have hnot : dueCandidate bi s = none := dueCandidate_of_no_candidate hc
    exact (observed_normal hq hl hnot hafter).trans (congrArg _ (observed_eq hseen))
  · have hnot : dueCandidate bi s = none := dueCandidate_of_no_candidate hc
    have hrelease : releaseDue bi s = false := releaseDue_of_normal hl
    rw [← observed_eq (observeTransition_steady hl hc hr)]
    show Host.Outcome.next (settle (rawTransition bi s)) = _
    rw [rawTransition_eq, settleInput_of_not_due hnot hrelease]
    rfl
  · have hinput : (settle (rawTransition bi s)).input bi = _ :=
      (settle_input _ _).trans (rawTransition_at_deadline hl hc hr hT hd hlimit)
    refine ⟨_, rfl, ?_, ?_, ?_, ?_⟩ <;> rw [hinput]
    · exact (Bool.eq_not_of_ne hr).symm
    · exact (Bool.eq_not_of_ne (Ne.symm hr)).symm
    · exact acceptedAt_lockout_of_no_limit hlimit

end Sys2Proof.Proofs
end

section
/-! DEBOUNCE_DEADLINE and LOCKOUT_RELEASE (R69 to R72, R74, R75, R107). -/

namespace Sys2Proof.Proofs

open Sys2Proof.Machine Sys2Proof.Safety Sys2Proof.Claims

variable {s : State} {i : InputNo} {t : Nat} {b : Bool} {l : Label}

/-! ### Records of the run's inputs -/

theorem storeRunEvent_of_not_underWay (hu : s.runUnderWay = false) (c : Contents) : storeRunEvent c s = s := by
  simp [storeRunEvent, hu]

theorem storeRunEvent_of_run (hu : s.runUnderWay = true) (hl : s.engine.runLabel = some l) (c : Contents) :
    storeRunEvent c s = storeEvent l c s := by
  rw [storeRunEvent_eq hu hl]
  exact (storeEvent_eq l c s).symm

/-- A run event is one for the store alone. -/
theorem storeRunEvent_store_only (c : Contents) (s : State) :
    storeRunEvent c s = { s with store := (storeRunEvent c s).store } := by
  unfold storeRunEvent
  split
  · split
    · exact storeEvent_eq _ c s
    · rfl
  · rfl

/-- What the store does with a run event rests on the store, the engine, the visit limit and the instant. -/
theorem storeRunEvent_store_of {r : State} (c : Contents) (hst : r.store = s.store) (hen : r.engine = s.engine)
    (hh : r.header = s.header) (hn : r.now = s.now) : (storeRunEvent c r).store = (storeRunEvent c s).store := by
  unfold storeRunEvent State.runUnderWay
  rw [hen]
  split
  · split
    · exact storeEvent_store_congr _ c hst hen hh hn
    · exact hst
  · exact hst

theorem storeRunEvent_modEval (c : Contents) (f : Evaluator → Evaluator) (s : State) :
    storeRunEvent c (s.modEval f) = (storeRunEvent c s).modEval f := by
  have hstore : (storeRunEvent c (s.modEval f)).store = (storeRunEvent c s).store :=
    storeRunEvent_store_of c rfl rfl rfl rfl
  rw [storeRunEvent_store_only c (s.modEval f), hstore, storeRunEvent_store_only c s]
  rfl

theorem storeRunEvent_modInput (c : Contents) (i : InputNo) (f : InputState → InputState) (s : State) :
    storeRunEvent c (s.modInput i f) = (storeRunEvent c s).modInput i f := by
  have hstore : (storeRunEvent c (s.modInput i f)).store = (storeRunEvent c s).store :=
    storeRunEvent_store_of c rfl rfl rfl rfl
  rw [storeRunEvent_store_only c (s.modInput i f), hstore, storeRunEvent_store_only c s]
  rfl

/-! ### The receivers with no visit current -/

/-- The evaluator once an accepted change is attributed with no visit current (R104). -/
def attributed (d : Direction) (i : InputNo) (e : Instant) (x : Evaluator) : Evaluator :=
  match d with
  | .operate => { x with pendingList := x.pendingList.map (attributeToEntry i e) }
  | .reset => x

theorem attributed_working (d : Direction) (i : InputNo) (e : Instant) (x : Evaluator) :
    (attributed d i e x).working = x.working := by
  cases d <;> rfl

/-- An accepted change at the evaluator and at the first-operate marks (R75): an operate alone has a use there. -/
def edgeTaken (d : Direction) (i : InputNo) (e : Instant) (s : State) : State :=
  match d with
  | .operate => takeOperate i e s
  | .reset => s

theorem deliverChange_eq (i : InputNo) (t : Nat) (b : Bool) (s : State) :
    let d := directionOf (s.inputSetup i) (s.input i).accepted
    deliverChange i t b s = breakerTakes i d (edgeTaken d i (edgeTime t s)
      (storeRunEvent (.inputChange i (s.input i).accepted d (edgeTime t s) b) s)) := rfl

theorem edgeTaken_no_visit (hv : s.engine.visit = none) (d : Direction) (i : InputNo) (e : Instant) :
    edgeTaken d i e s = s.modEval (attributed d i e) := by
  cases d with
  | operate =>
    simp only [edgeTaken, takeOperate, attributeEdge, hv]
    rfl
  | reset => rfl

theorem breakerTakes_no_visit (hv : s.engine.visit = none) (i : InputNo) (d : Direction) : breakerTakes i d s = s := by
  simp [breakerTakes, breakerActs, hv]

theorem engineChange_no_visit (hv : s.engine.visit = none) (hd : s.engine.decided = none) (i : InputNo) (d : Direction) :
    engineChange i d s = s := by
  simp [engineChange, settleBoundary, fireSlots, hd, hv]

theorem deliverChange_no_visit (hv : s.engine.visit = none) (i : InputNo) (t : Nat) (b : Bool) :
    let d := directionOf (s.inputSetup i) (s.input i).accepted
    deliverChange i t b s =
      (storeRunEvent (.inputChange i (s.input i).accepted d (edgeTime t s) b) s).modEval
        (attributed d i (edgeTime t s)) := by
  intro d
  rw [deliverChange_eq, edgeTaken_no_visit (by simp [hv]), breakerTakes_no_visit (by simp [hv])]

theorem deliverLockout_no_visit (hw : s.eval.working = none) (i : InputNo) (level : Bool) :
    deliverLockout i level s = storeRunEvent (.inputLockout i level) s := by
  have hwork : (storeRunEvent (.inputLockout i level) s).eval.working = none := by simp [hw]
  rw [deliverLockout, lockoutSeen]
  exact modEval_eq_self (by rw [hwork, Option.map_none, ← hwork])

/-- What an acceptance hands to the store: the change, and then the lockout it brings on (R75). -/
def changeStored (i : InputNo) (t : Nat) (b : Bool) (s : State) : State :=
  let level := !(s.input i).accepted
  let change := storeRunEvent (.inputChange i level (directionOf (s.inputSetup i) level) (edgeTime t s) b) s
  if locksOut i t s then storeRunEvent (.inputLockout i level) change else change

theorem changeStored_store_only (i : InputNo) (t : Nat) (b : Bool) (s : State) :
    changeStored i t b s = { s with store := (changeStored i t b s).store } := by
  dsimp only [changeStored]
  split
  · rw [storeRunEvent_store_only (.inputLockout i _), storeRunEvent_store_only (.inputChange i _ _ _ b)]
  · exact storeRunEvent_store_only _ s

theorem changeStored_of_not_underWay (hu : s.runUnderWay = false) : changeStored i t b s = s := by
  simp [changeStored, storeRunEvent_of_not_underWay hu]

theorem changeStored_of_run (hu : s.runUnderWay = true) (hl : s.engine.runLabel = some l) :
    let level := !(s.input i).accepted
    let change := storeEvent l (.inputChange i level (directionOf (s.inputSetup i) level) (edgeTime t s) b) s
    changeStored i t b s = if locksOut i t s then storeEvent l (.inputLockout i level) change else change := by
  intro level change
  rw [changeStored, storeRunEvent_of_run hu hl, storeRunEvent_of_run (l := l) (by simpa using hu) (by simpa using hl)]

/-- With no visit current an acceptance changes the input, the store and the evaluator, and nothing else. -/
theorem acceptChange_no_visit (hv : s.engine.visit = none) (hw : s.eval.working = none) (hd : s.engine.decided = none)
    (i : InputNo) (t : Nat) (b : Bool) :
    acceptChange i t b s =
      ((changeStored i t b s).modInput i (acceptedAt (s.inputSetup i) s.cond.count t)).modEval
        (attributed (directionOf (s.inputSetup i) (!(s.input i).accepted)) i (edgeTime t s)) := by
  have hlevel : ((accepting i t s).input i).accepted = !(s.input i).accepted := by
    rw [accepting_input, if_pos rfl]
    rfl
  have hdeliver := deliverChange_no_visit (s := accepting i t s) hv i t b
  rw [hlevel] at hdeliver
  rw [acceptChange_eq, hdeliver, accepting, storeRunEvent_modInput]
  cases hlocks : locksOut i t s with
  | true =>
    rw [if_pos rfl, deliverLockout_no_visit (by simp [attributed_working, hw]), storeRunEvent_modEval,
      storeRunEvent_modInput, engineChange_no_visit (by simp [hv]) (by simp [hd]), changeStored, if_pos hlocks]
    rfl
  | false =>
    rw [if_neg Bool.false_ne_true, engineChange_no_visit (by simp [hv]) (by simp [hd]), changeStored, hlocks,
      if_neg Bool.false_ne_true]
    rfl

theorem acceptChange_quiet_no_visit (hq : Quiet s) (hv : s.engine.visit = none) (hw : s.eval.working = none)
    (hd : s.engine.decided = none) : Quiet (acceptChange i t b s) := by
  rw [acceptChange_no_visit hv hw hd, changeStored_store_only]
  exact hq

/-! ### DEBOUNCE_DEADLINE -/

theorem exec_debounceDeadline_of_not_due (hq : Quiet s) (h : dueCandidate i s = none) :
    exec (.debounceDeadline i) s = .next s := by
  have hexec : exec (.debounceDeadline i) s = .next (settle (settleCandidate i s)) := rfl
  rw [hexec, settleCandidate_of_not_due h, settle_of_quiet s hq]

theorem exec_debounceDeadline_of_due (h : dueCandidate i s = some t) :
    exec (.debounceDeadline i) s = .next (settle (acceptChange i t false s)) := by
  rw [← settleCandidate_of_due h]
  rfl

theorem settle_acceptChange_count (i : InputNo) (t : Nat) (b : Bool) (s : State) :
    (settle (acceptChange i t b s)).cond.count = s.cond.count := by
  have hcond : (settle (acceptChange i t b s)).cond = (accepting i t s).cond := by simp [acceptChange_cond]
  rw [hcond]
  rfl

/-- Settles O45, by whether the deadline has come, and for what is heard of the change by `acceptChange_no_visit`. -/
theorem debounceDeadlineAcceptsTheChange : Obligations.DebounceDeadlineAcceptsTheChange := by
  unfold Obligations.DebounceDeadlineAcceptsTheChange
  refine ⟨fun bi s hq h => exec_debounceDeadline_of_not_due hq (dueCandidate_eq_none_iff.2 h),
    fun bi T s hq hl hc hdue => ?_⟩
  intro x u level edges locks edge dir change
  have hexec := exec_debounceDeadline_of_due (dueCandidate_of_deadline hl hc hdue)
  have hother : ∀ j, j ≠ bi → (settle (acceptChange bi T false s)).input j = s.input j := fun j hj => by
    rw [settle_input, acceptChange_input, if_neg hj]
  have hinput : (settle (acceptChange bi T false s)).input bi = acceptedAt u s.cond.count T x := by
    rw [settle_input, acceptChange_input, if_pos rfl]
    rfl
  have hlocks : locksOut bi T s = true ↔ locks := chatterTest_iff _
  have hdir : directionOf (s.inputSetup bi) (!(s.input bi).accepted) = dir := directionOf_eq u level
  refine ⟨_, hexec, settle_acceptChange_count bi T false s, hother, by rw [hinput]; rfl, by rw [hinput]; rfl,
    by rw [hinput]; rfl, fun h => ?_, fun h => ?_, fun h => ?_, fun h => ?_, fun hv hw hd => ?_⟩
  · exact (congrArg InputState.history hinput).trans (trimHistory_short h)
  · exact (congrArg InputState.history hinput).trans (trimHistory_full h)
  · exact (congrArg InputState.lockout hinput).trans (if_pos (hlocks.2 h))
  · exact (congrArg InputState.lockout hinput).trans (if_neg fun hlock => h (hlocks.1 hlock))
  · rw [settle_of_quiet _ (acceptChange_quiet_no_visit hq hv hw hd), acceptChange_no_visit hv hw hd, hdir]
    refine ⟨fun hu => ?_, fun l hu hlabel => ?_, fun h => ?_, fun h => ?_, ?_⟩
    · rw [changeStored_of_not_underWay hu]
      rfl
    · rw [changeStored_of_run hu hlabel, hdir]
      exact ⟨fun h => by rw [if_neg fun hlock => h (hlocks.1 hlock)]; rfl, fun h => by rw [if_pos (hlocks.2 h)]; rfl⟩
    · rw [h, changeStored_store_only]
      rfl
    · rw [h, changeStored_store_only]
      rfl
    · rw [changeStored_store_only]
      rfl

/-! ### LOCKOUT_RELEASE -/

theorem exec_lockoutRelease (i : InputNo) (s : State) :
    exec (.lockoutRelease i) s = .next (settle (settleRelease i s)) := rfl

theorem releaseSeen_eval_only (i : InputNo) (s : State) : releaseSeen i s = { s with eval := (releaseSeen i s).eval } := by
  unfold releaseSeen
  (repeat' split) <;> rfl

theorem released_changes (i : InputNo) (s : State) :
    released i s =
      { s with cond := (released i s).cond, store := (released i s).store, eval := (released i s).eval } := by
  rw [released, releaseSeen_eval_only, storeRunEvent_modInput, storeRunEvent_store_only]
  rfl

theorem released_store (i : InputNo) (s : State) :
    (released i s).store = (storeRunEvent (.inputRelease i (s.input i).raw) s).store := by
  simp [released, storeRunEvent_modInput]

theorem released_no_visit (hv : s.engine.visit = none) (i : InputNo) :
    (released i s).eval = s.eval := by
  simp [released, releaseSeen, hv]

theorem released_quiet (hq : Quiet s) (i : InputNo) : Quiet (released i s) := by
  rw [released_changes]
  exact hq

/-- A released input whose raw level differs from the held one takes that level, with this one edge (R74). -/
theorem acceptedAt_of_released {x : InputState} (u : InputSetup) (n : Nat) (hr : x.raw ≠ x.accepted) :
    acceptedAt u n n { x with lockout := none, history := [] } =
      { raw := x.raw, accepted := x.raw, candidate := none, history := [n], lockout := none } := by
  simp [acceptedAt, trimHistory, chatterTest_single, Bool.eq_not_of_ne hr]

theorem released_accepted_input (i j : InputNo) (hr : (s.input i).raw ≠ (s.input i).accepted) :
    (settle (acceptChange i s.cond.count true (released i s))).input j =
      if j = i then
        { raw := (s.input i).raw, accepted := (s.input i).raw, candidate := none, history := [s.cond.count]
          lockout := none }
      else s.input j := by
  rw [settle_input, acceptChange_input, released_count]
  split
  · rw [released_input, if_pos rfl]
    exact acceptedAt_of_released _ _ hr
  · next hj => rw [released_input, if_neg hj]

/-- With no visit current a release with a differing raw level changes the input, the store and the evaluator, and nothing
else; the store has the release and then the change. -/
theorem released_accepted_no_visit (hv : s.engine.visit = none) (hw : s.eval.working = none)
    (hd : s.engine.decided = none) (i : InputNo) :
    ∃ c e, acceptChange i s.cond.count true (released i s) =
      { s with cond := c, store := (changeStored i s.cond.count true (released i s)).store, eval := e } := by
  have hengine : (released i s).engine = s.engine := by simp [released]
  have heval : (released i s).eval = s.eval := released_no_visit hv i
  rw [acceptChange_no_visit (by rw [hengine, hv]) (by rw [heval, hw]) (by rw [hengine, hd]), changeStored_store_only,
    released_changes]
  exact ⟨_, _, rfl⟩

theorem changeStored_released (i : InputNo) (hr : (s.input i).raw ≠ (s.input i).accepted) :
    changeStored i s.cond.count true (released i s) =
      storeRunEvent (.inputChange i (s.input i).raw (directionOf (s.inputSetup i) (s.input i).raw) s.now true)
        (released i s) := by
  have hinput : (released i s).input i = { s.input i with lockout := none, history := [] } := by
    rw [released_input, if_pos rfl]
  have hlocks : locksOut i s.cond.count (released i s) = false := by
    rw [locksOut, hinput]
    exact chatterTest_single _ _ _
  have hlevel : (!((released i s).input i).accepted) = (s.input i).raw := by
    rw [hinput]
    exact (Bool.eq_not_of_ne hr).symm
  have hsetup : (released i s).inputSetup i = s.inputSetup i := by simp [State.inputSetup, released]
  have hnow : (released i s).now = s.now := by simp [released]
  have hedge : edgeTime s.cond.count (released i s) = s.now := by
    rw [edgeTime, released_count, hnow, Nat.sub_self, Nat.sub_zero]
  rw [changeStored, hlocks, hlevel, hsetup, hedge]
  rfl

/-- Settles O47, by whether the deadline has come and whether the raw level differs from the held one. -/
theorem lockoutRelease : Obligations.LockoutRelease := by
  unfold Obligations.LockoutRelease
  refine ⟨fun bi s hq h => ?_, fun bi k s hq hl hk => ?_⟩
  · rw [exec_lockoutRelease, settleRelease_of_not_due (releaseDue_eq_false_iff.2 h), settle_of_quiet s hq]
  intro x u dir release
  have hdir : directionOf (s.inputSetup bi) (s.input bi).raw = dir := directionOf_eq u x.raw
  rw [exec_lockoutRelease, settleRelease_of_due hl hk]
  by_cases hr : x.raw = x.accepted
  · have hinput : ∀ j, (released bi s).input j =
        if j = bi then { x with lockout := none, history := [] } else s.input j :=
      fun j => released_input bi j s
    have hchanges := released_changes bi s
    rw [if_pos hr, settle_of_quiet _ (released_quiet hq bi)]
    refine ⟨_, rfl, released_count bi s, fun j hj => by rw [hinput, if_neg hj], fun _ => by rw [hinput, if_pos rfl],
      fun h => absurd hr h, fun _ l hu hlabel => ⟨?_, hchanges⟩,
      fun _ _ _ => ⟨fun hu => ?_, fun _ _ _ h => absurd hr h, hchanges⟩⟩
    · rw [released_store, storeRunEvent_of_run hu hlabel]
    · rw [released_store, storeRunEvent_of_not_underWay hu]
  · have hinput := fun j => released_accepted_input bi j hr
    have hcount : (settle (acceptChange bi s.cond.count true (released bi s))).cond.count = s.cond.count := by
      rw [settle_acceptChange_count, released_count]
    rw [if_neg hr]
    refine ⟨_, rfl, hcount, fun j hj => by rw [hinput, if_neg hj], fun h => absurd h hr,
      fun _ => by rw [hinput, if_pos rfl], fun h => absurd h hr, fun hv hw hd => ?_⟩
    obtain ⟨c, e, haccepted⟩ := released_accepted_no_visit hv hw hd bi
    have hquiet : Quiet (acceptChange bi s.cond.count true (released bi s)) := by
      rw [haccepted]
      exact hq
    rw [settle_of_quiet _ hquiet, haccepted, changeStored_released bi hr, hdir]
    refine ⟨fun hu => ?_, fun l hu hlabel _ => ?_, rfl⟩
    · show (storeRunEvent _ (released bi s)).store = s.store
      rw [storeRunEvent_of_not_underWay (by simpa [released] using hu), released_store, storeRunEvent_of_not_underWay hu]
    · show (storeRunEvent _ (released bi s)).store = _
      have hstore : (released bi s).store = (release l s).store := by rw [released_store, storeRunEvent_of_run hu hlabel]
      rw [storeRunEvent_of_run (l := l) (by simpa [released] using hu) (by simpa [released] using hlabel)]
      exact storeEvent_store_of l _ hstore (by simp [released, release]) (by simp [released, release])
        (by simp [released, release])

end Sys2Proof.Proofs
end
